-- ==== Sys2Proof/Word.lean ====
section
/-! DEFINITION. The two words of the FQ256: a byte of a link, a row line or the flash, and a show time (the count of ticks
modulo 2^32 that chapter 4 calls the show-time counter). Their arithmetic is that of `BitVec`. -/

namespace Sys2Proof

/-- A byte as the links, the row lines and the flash carry it. -/
abbrev Byte := BitVec 8

/-- A show time: a count of ticks of 125 µs modulo 2^32 (R61). -/
abbrev Time := BitVec 32

end Sys2Proof
end

