-- ==== Sys2Proof/Config.lean ====
section
/-! DEFINITION. The values the manual leaves open. Each is an opaque constant: no proof can see what it is, so a statement
that holds here holds whatever the part sends in that place. The index they are applied to is the plain counter
`State.free`, which moves on at every use, so that two uses need not agree. -/

namespace Sys2Proof.Config

/-- The value of byte `j` of frame number `serial` where the layouts of chapter 12 give the byte a place but no value: a
field whose own presence flag reads absent, and the bytes of a name field after the name (log entry 5). -/
opaque freeByte (serial j : Nat) : Byte

/-- The compose start time carried by a BLANK view that the curtain puts on the wall: R127 gives every view that header
field, and no compose made this view (log entry 6). -/
opaque freeTime (serial : Nat) : Time

/-- The body of a READ or WRITE REPLY whose request was not executed (BUSY, BAD_TABLE or BAD_INDEX): chapter 12 gives the
kind a body and no rule says what it holds then (log entry 7). -/
opaque freeBody (serial : Nat) : List Byte

end Sys2Proof.Config
end

