-- ==== Sys2Proof/Syntax.lean ====
section
/-! DEFINITION. The commands of the FQ256: one constructor for each row of spec/opcode_table.json. An operand is what the
outside gives with the step: the payload of a good frame, the bytes a row line gave, the arguments of the request whose
decode ends, the port an event belongs to, the strap and the flash found by a load. -/

namespace Sys2Proof

/-- The two serial links (chapter 9). -/
inductive Link
  | console
  | wall
  deriving DecidableEq, Repr

/-- A byte of a link after a start mark, with the counter's reading as it arrived (R142). -/
structure Heard where
  value : Byte
  time : Time
  deriving DecidableEq, Repr

/-- A frame of a link: the counter's readings as its start mark, its class, its length and its two check bytes arrived, and its
payload (R142). The check agrees with the class, the length and the payload (R176). -/
structure Arrival where
  start : Time
  cls : Time
  length : Time
  payload : List Heard
  checkHigh : Time
  checkLow : Time
  deriving DecidableEq, Repr

/-- A row line found held active (R57, R58): the counter's reading since which it is continuously active, and whether it is idle
at the entry to BROKEN. -/
structure HeldLine where
  active : Time
  idle : Bool
  deriving DecidableEq, Repr

/-- One step of the part, under its row of the opcode table. `tag` is the request's tag (R157). -/
inductive Instr
  /-- HARD_RESET: the end of a hard reset, with the preset strap as read then and the bytes of the flash. -/
  | hardReset (strap : Bool) (flash : List Byte)
  /-- WARM_RESTART: the last byte of the RESTART REPLY has been sent. -/
  | warmRestart
  /-- SHOW_TIME_TICK: the end of a tick. -/
  | showTimeTick
  /-- LINK_FRAME_DISCARDED: the counter's reading as a start mark arrived, and the bytes after it, as far as the receiver got. -/
  | linkFrameDiscarded (link : Link) (start : Time) (bytes : List Heard)
  /-- PASS: a console PASS frame. -/
  | pass (frame : Arrival)
  /-- CUE: a console CUE frame, the cue number first in its payload. -/
  | cue (frame : Arrival)
  /-- HUB_REQUEST: a console HUB_REQUEST frame, tag and kind first in its payload. -/
  | hubRequest (frame : Arrival)
  /-- MARK: a wall MARK frame, its payload the refresh number. -/
  | mark (frame : Arrival)
  /-- REPORT: a wall REPORT frame. -/
  | report (frame : Arrival)
  /-- WALL_FRAME_END: the frame being sent on the wall link ends. -/
  | wallFrameEnd
  /-- IDLE_FILL_EXPIRY: the idle-fill timer expires. -/
  | idleFillExpiry
  /-- CONSOLE_FRAME_END: the frame being sent on the console link ends. -/
  | consoleFrameEnd
  /-- REQUEST_MALFORMED: the decode of this payload ends, and it is not well formed. -/
  | requestMalformed (payload : List Byte)
  | readSeats (tag first count : Byte)
  | readTeams (tag first count : Byte)
  | readQuestions (tag first count : Byte)
  | readCues (tag first count : Byte)
  | readSequences (tag first count : Byte)
  | readSteps (tag first count : Byte)
  | readPortcfg (tag first count : Byte)
  | readConfig (tag first count : Byte)
  | readResponses (tag first count : Byte)
  | readBuzzq (tag first count : Byte)
  | readJudged (tag first count : Byte)
  | readScores (tag first count : Byte)
  | readStandings (tag first count : Byte)
  | readCommit (tag first count : Byte)
  | readPortstat (tag first count : Byte)
  | writeSeats (tag first : Byte) (records : List Byte)
  | writeTeams (tag first : Byte) (records : List Byte)
  | writeQuestions (tag first : Byte) (records : List Byte)
  | writeCues (tag first : Byte) (records : List Byte)
  | writeSequences (tag first : Byte) (records : List Byte)
  | writeSteps (tag first : Byte) (records : List Byte)
  | writePortcfg (tag first : Byte) (records : List Byte)
  | writeConfig (tag first : Byte) (records : List Byte)
  | writeReadOnlyTable (tag table first : Byte) (records : List Byte)
  | actOpen (tag question : Byte)
  | actNext (tag : Byte)
  | actClose (tag : Byte)
  | actCommit (tag : Byte)
  | actCancel (tag : Byte)
  | actJudge (tag team verdict : Byte)
  | actRevoke (tag : Byte)
  | actAdjust (tag team : Byte) (delta : BitVec 16)
  | actClearScores (tag : Byte)
  | portStart (tag port : Byte)
  | portStop (tag port : Byte)
  | portRollCall (tag port : Byte)
  | showReveal (tag sequence : Byte)
  | showStopSequence (tag : Byte)
  | showFreeze (tag : Byte)
  | showThaw (tag : Byte)
  | showCurtainOn (tag : Byte)
  | showCurtainOff (tag : Byte)
  | showResting (tag view : Byte)
  | status (tag : Byte)
  /-- RELOAD, with the bytes the flash gives the load it starts. -/
  | reload (tag : Byte) (flash : List Byte)
  | restart (tag : Byte)
  | wakeTimerExpiry (port : Fin 4)
  | sweepStart (port : Fin 4)
  | sweepEnd (port : Fin 4)
  /-- HANDSET_FRAME_RECEIVED: a reception ends on a port; the counter's readings at the start mark and at the last byte,
  and the bytes after the start mark. -/
  | handsetFrameReceived (port : Fin 4) (start last : Time) (bytes : List Byte)
  /-- BREAK_BEGIN: the line is found held active for too long. -/
  | breakBegin (port : Fin 4) (line : HeldLine)
  /-- LINE_IDLE_CHANGE: the line goes active, or returns to idle. -/
  | lineIdleChange (port : Fin 4) (active : Bool)
  | breakEnd (port : Fin 4)
  | inboxTake
  | frameHandoff
  | windowExpiry
  | settleExpiry
  | headSettleExpiry
  | answerTimerExpiry
  | applicationStep
  | publicationStep
  | composeEnd
  | wallSilentExpiry
  | internalMark
  | tallyTimerExpiry
  | seatTimerExpiry
  | presetSection
  | loadEnd
  | walkSeatVisit
  | readUnknownTable (tag table first count : Byte)
  deriving DecidableEq, Repr

end Sys2Proof
end

