-- ==== Sys2Proof/Decode.lean ====
section
/-! DEFINITION. The decoding of a command from a word. The command table gives no row any bits: a command is an event of the
part and its operands come from the outside, so no word spells a command (log entry 2). -/

namespace Sys2Proof

/-- The command that a word of the command table spells: none, since the table gives bits to no row. -/
def decodeTableWord (_nbits _w : Nat) : Option Instr := none

end Sys2Proof
end

