-- ==== Sys2Proof/Machine/State.lean ====
section
/-! DEFINITION. The state of the FQ256, block by block as 00_scope.md lists its owners, and the state right after a hard
reset with the preset strap clear. Everything is plain data. -/

namespace Sys2Proof.Machine

/-! ## Named values -/

/-- A set of teams; team n is a member when bit n is set (12.1). -/
abbrev TeamSet := BitVec 16

inductive QKind | empty | choice | buzz | estimate | poll
  deriving DecidableEq, Repr

inductive CommitMode | auto | held
  deriving DecidableEq, Repr

/-- The round states of R10 (`opened` is OPEN). -/
inductive RoundState | idle | opened | floor | closing | closed | committing
  deriving DecidableEq, Repr

inductive PortState | stopped | waking | sweeping | broken
  deriving DecidableEq, Repr

inductive Presence | absent | present | silent
  deriving DecidableEq, Repr

inductive HandsetClass | fourKey | sixKey | digit
  deriving DecidableEq, Repr

inductive Lamp | off | answered | queued | floor | locked | notEligible | right | wrong
  deriving DecidableEq, Repr

inductive ResponseState | none | answered | early | late | locked
  deriving DecidableEq, Repr

inductive Verdict | right | wrong | timeout
  deriving DecidableEq, Repr

inductive View | standings | topFive | teamCard | histogram | buzzOrder | countdown | blank
  deriving DecidableEq, Repr

inductive BackState | stale | composing | ready
  deriving DecidableEq, Repr

inductive LoadResult | none | empty | failed | loaded
  deriving DecidableEq, Repr

inductive NoticeKind | round | tally | buzz | seat | port | help | answer | wall | preset
  deriving DecidableEq, Repr

/-- The reply statuses of 12.1. -/
inductive Status
  | ok | clamped | busy | inUse | badState | badTable | badIndex | badValue | duplicate | staleJudge | malformed
  deriving DecidableEq, Repr

/-- The eleven cue actions of R5 (`openQuestion` is OPEN). -/
inductive CueAction
  | openQuestion | next | close | commit | cancel
  | reveal | stopSequence | freeze | thaw | curtainOn | curtainOff
  deriving DecidableEq, Repr

/-! ## Tables the console writes -/

/-- A Question Table record (R1). Durations are in the units of R1. -/
structure Question where
  kind : QKind
  options : Nat
  correct : Byte
  base : Nat
  speed : Nat
  penalty : Nat
  stealPoints : Nat
  steals : Nat
  answerTime : Nat
  guard : Nat
  target : Nat
  tolerance : Nat
  window : Nat
  settle : Nat
  changeLimit : Nat
  eligible : TeamSet
  mode : CommitMode
  resultLamps : Bool
  reveal : Option (Fin 16)
  deriving DecidableEq, Repr

/-- A Cue Table entry (R5). -/
structure CueEntry where
  valid : Bool
  number : BitVec 16
  action : CueAction
  argument : Byte
  absorb : Bool
  deriving DecidableEq, Repr

/-- A Team Roster record (R30); the two counts of R30 are derived from the Seat Table and not held apart. -/
structure Team where
  active : Bool
  name : List Byte
  deriving DecidableEq, Repr

/-- A Reveal Sequence Table record (R134). -/
structure Sequence where
  valid : Bool
  first : Nat
  count : Nat
  loops : Bool
  deriving DecidableEq, Repr

/-- A Step Table record (R135). -/
structure Step where
  view : View
  hold : Nat
  highlight : TeamSet
  invert : Bool
  team : Fin 16
  deriving DecidableEq, Repr

/-- A PORTCFG record (R43). -/
structure PortCfg where
  autostart : Bool
  positions : Nat
  period : Nat
  skew : Nat
  deriving DecidableEq, Repr

/-- The CONFIG record (R163). Bit k of `enabled` is the notice kind with code k. -/
structure Config where
  enabled : BitVec 16
  tallyCount : Nat
  tallyWait : Nat
  seatWait : Nat
  urgent : Nat
  silentTimeout : Nat
  mirror : TeamSet
  resting : View
  deriving DecidableEq, Repr

/-! ## Seats, presses and stamps -/

/-- A Seat Table record (R26). `pending` is absent, or a change to a team or to none. -/
structure Seat where
  team : Option (Fin 16)
  pending : Option (Option (Fin 16))
  presence : Presence
  cls : Option HandsetClass
  battery : Bool
  missed : Nat
  lastPress : Option (Fin 4)
  lamp : Lamp
  queued : Bool
  deriving DecidableEq, Repr

/-- The stamp marks of R71. -/
structure Marks where
  stale : Bool
  clamped : Bool
  overrun : Bool
  deriving DecidableEq, Repr

/-- A handset frame after the field reading of R177 (12.3). -/
inductive HandsetFrame
  | hello (cls : Byte) (battery : Bool)
  | press (key : Byte) (number : Fin 4) (reference : Fin 16) (offset : Nat)
  | digits (value : Nat) (number : Fin 4) (reference : Fin 16) (offset : Nat)
  deriving DecidableEq, Repr

/-- An Inbox entry (R56). -/
structure InboxEntry where
  frame : HandsetFrame
  position : Fin 64
  arrival : Time
  sequence : Fin 16
  departure : Time
  overrun : Bool
  deriving DecidableEq, Repr

/-- A stamped frame in hand (R65): its press time and marks, or none for a HELLO (R67). -/
structure Stamped where
  port : Fin 4
  position : Fin 64
  frame : HandsetFrame
  stamp : Option (Time × Marks)
  deriving DecidableEq, Repr

/-! ## Row ports -/

/-- A feedback entry of a beacon (R52): the position, the last press number and the lamp. -/
structure Feedback where
  position : Fin 64
  press : Option (Fin 4)
  lamp : Lamp
  deriving DecidableEq, Repr

/-- The round summary of R24 as a beacon or a FILL carries it: question, window state code, kind and options count. -/
structure Summary where
  question : Option (Fin 128)
  window : Byte
  kind : Option QKind
  options : Option Nat
  deriving DecidableEq, Repr

/-- A beacon (R49). -/
structure Beacon where
  sequence : Fin 16
  summary : Summary
  roll : Bool
  checks : List (Fin 64)
  feedback : List Feedback
  deriving DecidableEq, Repr

/-- The sweep a beacon began (R48): the beacon, its bytes on the line, its departure, the positions whose slot has given a
frame that passed SLOT (R55), the positions whose HELLO passed every check (R50), whether the last slot has ended, and
whether it is the first sweep since the port entered SWEEPING (before its departure the port did not listen, R42). -/
structure Sweep where
  beacon : Beacon
  sent : List Byte
  departure : Time
  usedSlots : List (Fin 64)
  hellos : List (Fin 64)
  ended : Bool
  first : Bool
  deriving DecidableEq, Repr

/-- A Row Port Controller (chapter 3). A timer that is STOPPED is none. -/
structure Port where
  state : PortState
  cfg : PortCfg
  lastSequence : Fin 16
  wakeTimer : Option Time
  sweepTimer : Option Time
  idleTimer : Option Time
  sweep : Option Sweep
  inbox : List InboxEntry
  feedback : List (Fin 64)
  lampNext : Option Nat
  checkPointer : Nat
  roll : Option Nat
  flagCheck : Bool
  flagLength : Bool
  flagSlot : Bool
  flagOverrun : Bool
  flagBreak : Bool
  deriving DecidableEq, Repr

/-- The Press Stamper (chapter 4): the Beacon History rings, the last-served port and the frame in hand. A ring entry whose
written flag is clear is none. -/
structure Stamper where
  history : Vector (Vector (Option Time) 16) 4
  lastServed : Fin 4
  inHand : Option Stamped
  deriving DecidableEq, Repr

/-! ## The round, its answers and its race -/

/-- The window timer (R9): stopped, running to a deadline, or paused with a remainder in ticks. -/
inductive WindowTimer
  | stopped
  | running (deadline : Time)
  | paused (remainder : Nat)
  deriving DecidableEq, Repr

/-- The Round Record (R9). -/
structure Round where
  state : RoundState
  current : Option (Fin 128)
  window : WindowTimer
  closedMark : Bool
  settle : Option Time
  snapshot : Option (Vector Nat 16)
  lastOpened : Option (Fin 128)
  pendingOpen : Option (Fin 128)
  deriving DecidableEq, Repr

/-- An answer (R74): an option A..F, or a value. -/
inductive Answer
  | option (k : Fin 6)
  | value (v : Nat)
  deriving DecidableEq, Repr

/-- A Response Array seat record (R74). -/
structure Response where
  state : ResponseState
  answer : Option Answer
  pressTime : Option Time
  changes : Nat
  points : Option Int
  deriving DecidableEq, Repr

/-- The Response Array header (R73). -/
structure RespHeader where
  question : Option (Fin 128)
  kind : Option QKind
  openTime : Option Time
  closeTime : Option Time
  committed : Bool
  deriving DecidableEq, Repr

/-- The live tallies (R84). -/
structure Tallies where
  counts : Vector Nat 6
  answered : Nat
  deriving DecidableEq, Repr

/-- The Response Collector (chapter 5). -/
structure Responses where
  header : RespHeader
  records : Vector Response 256
  tallies : Tallies
  deriving DecidableEq, Repr

/-- A Buzz Queue entry (R89). -/
structure BuzzEntry where
  seat : Fin 256
  team : Fin 16
  time : Time
  marks : Marks
  overtaken : Bool
  tie : Bool
  deriving DecidableEq, Repr

/-- A Judged List entry (R89). -/
structure Judged where
  team : Fin 16
  seat : Fin 256
  verdict : Verdict
  points : Int
  deriving DecidableEq, Repr

/-- The Buzz Arbiter (R89). The floor holder is the first entry of the queue while `held` is set, and none otherwise. -/
structure Buzz where
  queue : List BuzzEntry
  held : Bool
  judged : List Judged
  locked : TeamSet
  stealsUsed : Nat
  headTimer : Option Time
  answerTimer : Option Time
  deriving DecidableEq, Repr

/-! ## Scores and standings -/

/-- A Team Score Table record (R107). -/
structure TeamScore where
  total : Int
  correct : Nat
  last : Int
  deriving DecidableEq, Repr

/-- The Commit Record (R108). -/
structure CommitRecord where
  valid : Bool
  question : Option (Fin 128)
  points : Vector Int 16
  correct : Vector Nat 16
  deriving DecidableEq, Repr

/-- The commit walk (R109): its running sums and the next seat, 0..256. -/
structure Walk where
  walking : Bool
  start : Time
  position : Nat
  sums : Vector Int 16
  answered : Vector Nat 16
  correct : Vector Nat 16
  deriving DecidableEq, Repr

/-- The Score Unit (chapter 7). -/
structure Score where
  table : Vector TeamScore 16
  commit : CommitRecord
  walk : Walk
  deriving DecidableEq, Repr

/-- A Standings List entry (R122). -/
structure Standing where
  team : Fin 16
  total : Int
  correct : Nat
  last : Int
  rank : Nat
  deriving DecidableEq, Repr

/-- The Standings Sorter (R122); `start` is the show time at which the running pass started. -/
structure Sorter where
  published : List Standing
  working : List Standing
  running : Bool
  rerank : Bool
  start : Time
  deriving DecidableEq, Repr

/-! ## The scoreboard -/

/-- A row of a view (R127). A team row of an unlisted team has no standing. -/
inductive Row
  | team (standing : Option Standing) (team : Fin 16) (name : List Byte) (highlight invert : Bool)
  | buzz (place : Nat) (entry : BuzzEntry) (name : List Byte) (holder highlight invert : Bool)
  | option (k : Nat) (count percent : Nat)
  deriving DecidableEq, Repr

/-- The view-specific header fields of R127. -/
inductive ViewExtra
  | none
  | card (team : Fin 16)
  | histogram (question : Option (Fin 128)) (options : Option Nat) (answered : Nat)
  | buzz (question : Option (Fin 128)) (holder : Option (Fin 16)) (stealsUsed : Nat)
  | countdown (question : Option (Fin 128)) (figure : Option Nat)
  deriving DecidableEq, Repr

/-- A composed view (R127): `step` is the sequence and step shown, or none for the resting view. -/
structure ViewImage where
  view : View
  step : Option (Fin 16 × Nat)
  start : Time
  extra : ViewExtra
  rows : List Row
  deriving DecidableEq, Repr

/-- A burst in the Score Out slot (R132). -/
structure Burst where
  image : ViewImage
  refresh : Option Byte
  deriving DecidableEq, Repr

/-- What the sequence player holds while PLAYING or ENDED (R136). -/
structure Playing where
  sequence : Fin 16
  first : Nat
  count : Nat
  loops : Bool
  step : Nat
  view : View
  highlight : TeamSet
  invert : Bool
  team : Fin 16
  hold : Nat
  deriving DecidableEq, Repr

/-- The sequence player (R136): STOPPED, or PLAYING, or ENDED when `ended` is set. -/
inductive Player
  | stopped
  | active (ended : Bool) (p : Playing)
  deriving DecidableEq, Repr

/-- The Scoreboard Composer (chapter 8). `composeStart` is the show time at which the compose in progress started. -/
structure Composer where
  front : ViewImage
  back : ViewImage
  backState : BackState
  recompose : Bool
  composeStart : Time
  freeze : Bool
  curtain : Bool
  sequences : Vector Sequence 16
  steps : Vector Step 64
  player : Player
  silent : Bool
  silentTimer : Option Time
  markTimer : Option Time
  lastRefresh : Option Byte
  countdownRunning : Bool
  deriving DecidableEq, Repr

/-! ## Links and the Hub Agent -/

/-- A frame of a link: its class code and payload. The check is a function of the two (R176). -/
structure Frame where
  cls : Byte
  payload : List Byte
  deriving DecidableEq, Repr

/-- The wall transmitter while it sends: the frame being sent, and the rest of its burst (R150). -/
structure WallTx where
  frame : Frame
  rest : List Frame
  deriving DecidableEq, Repr

/-- A link receiver (R142): it hunts for a start mark, or it is in reception of a frame and holds the counter's reading at that
frame's start mark and the bytes taken since, each with its own reading. -/
inductive Receiver
  | hunting
  | collecting (start : Time) (bytes : List Heard)
  deriving DecidableEq, Repr

/-- The Link Switch (chapter 9). `replies` holds REPLY payloads, `reports` REPORT payloads. -/
structure LinkSwitch where
  passQueue : List Frame
  hold : Bool
  reports : List (List Byte)
  replies : List (List Byte)
  owed : Nat
  scoreOut : Option Burst
  burstNext : Byte
  wallTx : Option WallTx
  consoleTx : Option Frame
  consoleRx : Receiver
  wallRx : Receiver
  fillTimer : Option Time
  linkCheck : Bool
  passOverrun : Bool
  requestDropped : Bool
  deriving DecidableEq, Repr

/-- The causes of a SEAT event (R41). -/
structure Causes where
  presence : Bool
  cls : Bool
  battery : Bool
  team : Bool
  deriving DecidableEq, Repr

/-- A pending seat change (R169). -/
structure SeatChange where
  seat : Fin 256
  causes : Causes
  presence : Presence
  team : Option (Fin 16)
  cls : Option HandsetClass
  battery : Bool
  time : Time
  deriving DecidableEq, Repr

/-- The content of a notice (R167, 12.6). -/
inductive NoticeBody
  | roundState (state : RoundState) (question : Option (Fin 128)) (mark : Bool) (snapshot : Option (Vector Nat 16))
  | cueRefused (number : BitVec 16) (status : Status)
  | openDropped (question : Fin 128) (status : Status)
  | committed (question : Option (Fin 128)) (kind : Option QKind) (points : Vector Int 16) (correct : Vector Nat 16)
      (totals : Vector Int 16) (saturated : Vector Bool 16)
  | revoked (question : Option (Fin 128)) (points : Vector Int 16) (correct : Vector Nat 16) (totals : Vector Int 16)
  | adjusted (team : Fin 16) (requested applied total : Int)
  | cleared
  | tally (question : Option (Fin 128)) (kind : Option QKind) (tallies : Tallies)
  | buzzQueued (question : Option (Fin 128)) (entry : BuzzEntry) (place : Nat)
  | falseStart (question : Option (Fin 128)) (seat : Fin 256) (team : Fin 16) (time : Time) (marks : Marks)
  | floor (question : Option (Fin 128)) (entry : BuzzEntry) (stealsUsed : Nat) (expiry : Option Time)
  | verdict (question : Option (Fin 128)) (entry : Judged) (stealsUsed : Nat)
  | seats (changes : List SeatChange)
  | rollDone (port : Fin 4) (present absent silent : Nat)
  | breakBegin (port : Fin 4)
  | breakEnd (port : Fin 4)
  | help (seat : Fin 256) (team : Option (Fin 16)) (state : RoundState) (question : Option (Fin 128)) (time : Time)
      (marks : Marks)
  | answer (seat : Fin 256) (team : Fin 16) (question : Option (Fin 128)) (answer : Answer) (time : Time) (marks : Marks)
      (changes : Nat)
  | wallSilent (refresh : Option Byte)
  | wallReturn (refresh : Byte)
  | sequenceEnded (sequence : Fin 16)
  | preset (result : LoadResult) (refused : Nat)
  deriving DecidableEq, Repr

/-- A notice with its build time (section 10.7). -/
structure Notice where
  body : NoticeBody
  time : Time
  deriving DecidableEq, Repr

/-- The agent state (R157); while DECODING, the payload in decode and the show time at which its decode began. -/
inductive Agent
  | idle
  | decoding (payload : List Byte) (since : Time)
  | restarting
  deriving DecidableEq, Repr

/-- The Hub Agent (chapter 10). -/
structure Hub where
  agent : Agent
  requests : List (List Byte)
  notices : List Notice
  tallyEvents : Nat
  tallyTimer : Option Time
  seatChanges : List SeatChange
  seatTimer : Option Time
  config : Config
  noticeLost : Bool
  deriving DecidableEq, Repr

/-- The Preset Loader (chapter 11). `image` is the flash of the load, `position` the walk's place in the section bytes,
`fault` a structure fault found, `count` the records refused so far in the running load. -/
structure Loader where
  running : Bool
  result : LoadResult
  refused : Nat
  image : List Byte
  position : Nat
  fault : Bool
  count : Nat
  deriving DecidableEq, Repr

/-! ## The whole part -/

/-- The FQ256. `free` counts the uses of the open values of `Sys2Proof.Config`, and `pending` is the queue of waiting
commands, first in, first out; these two are the model's own fields. -/
structure State where
  now : Time
  ports : Vector Port 4
  stamper : Stamper
  seats : Vector Seat 256
  teams : Vector Team 16
  questions : Vector Question 128
  cues : Vector CueEntry 64
  round : Round
  resp : Responses
  buzz : Buzz
  score : Score
  sorter : Sorter
  comp : Composer
  link : LinkSwitch
  hub : Hub
  loader : Loader
  free : Nat
  pending : List Instr
  deriving DecidableEq, Repr

/-- Why a step stops with a fault: no command of this part does, so there is no reason to name. -/
inductive Fault
  deriving DecidableEq, Repr

/-- Why a command has no meaning here. -/
inductive Refusal
  /-- Raised by `exec` for a command whose row has no meaning yet (none is left). Safe: nothing is claimed of it. -/
  | notModelled (mnemonic : String)
  deriving DecidableEq, Repr

/-! ## Values after a hard reset -/

/-- R1, last column. -/
def Question.reset : Question where
  kind := .empty
  options := 2
  correct := 0
  base := 0
  speed := 0
  penalty := 0
  stealPoints := 0
  steals := 0
  answerTime := 0
  guard := 0
  target := 0
  tolerance := 1
  window := 1
  settle := 0
  changeLimit := 0
  eligible := 0
  mode := .held
  resultLamps := false
  reveal := none

/-- R5. -/
def CueEntry.reset : CueEntry := ⟨false, 0, .next, 0, false⟩

/-- R30. -/
def Team.reset : Team := ⟨false, []⟩

/-- R134. -/
def Sequence.reset : Sequence := ⟨false, 0, 1, false⟩

/-- R135. -/
def Step.reset : Step := ⟨.blank, 1, 0, false, 0⟩

/-- R43. -/
def PortCfg.reset : PortCfg := ⟨false, 64, 18, 0⟩

/-- R163. -/
def Config.reset : Config := ⟨0x1FF, 16, 20, 20, 6, 20, 0, .standings⟩

/-- R26. -/
def Seat.reset : Seat := ⟨none, none, .absent, none, false, 0, none, .off, false⟩

/-- R60. -/
def Port.reset : Port where
  state := .stopped
  cfg := PortCfg.reset
  lastSequence := 15
  wakeTimer := none
  sweepTimer := none
  idleTimer := none
  sweep := none
  inbox := []
  feedback := []
  lampNext := none
  checkPointer := 0
  roll := none
  flagCheck := false
  flagLength := false
  flagSlot := false
  flagOverrun := false
  flagBreak := false

/-- R64, R66. -/
def Stamper.reset : Stamper := ⟨Vector.replicate 4 (Vector.replicate 16 none), 3, none⟩

/-- R9. -/
def Round.reset : Round := ⟨.idle, none, .stopped, false, none, none, none, none⟩

/-- R74. -/
def Response.reset : Response := ⟨.none, none, none, 0, none⟩

/-- R73. -/
def RespHeader.reset : RespHeader := ⟨none, none, none, none, false⟩

/-- R84. -/
def Tallies.reset : Tallies := ⟨Vector.replicate 6 0, 0⟩

def Responses.reset : Responses := ⟨RespHeader.reset, Vector.replicate 256 Response.reset, Tallies.reset⟩

/-- R89. -/
def Buzz.reset : Buzz := ⟨[], false, [], 0, 0, none, none⟩

/-- R109 names the running sums; their values while no walk runs are the model's (log entry 8). -/
def Walk.reset : Walk := ⟨false, 0, 0, Vector.replicate 16 0, Vector.replicate 16 0, Vector.replicate 16 0⟩

/-- R107, R108, R109. -/
def Score.reset : Score :=
  ⟨Vector.replicate 16 ⟨0, 0, 0⟩, ⟨false, none, Vector.replicate 16 0, Vector.replicate 16 0⟩, Walk.reset⟩

/-- R122: the ranking pass that a hard reset starts, with every team inactive. -/
def Sorter.reset : Sorter := ⟨[], [], true, false, 0⟩

/-- The BLANK view of R140; its compose start time at a reset is the model's (log entry 8). -/
def ViewImage.blank : ViewImage := ⟨.blank, none, 0, .none, []⟩

/-- R140: the compose of the resting view that a hard reset starts is a STANDINGS view of an empty list. The wall-silent
timer runs for 20 × 80 ticks (R139). -/
def Composer.reset : Composer where
  front := ViewImage.blank
  back := ⟨.standings, none, 0, .none, []⟩
  backState := .composing
  recompose := false
  composeStart := 0
  freeze := false
  curtain := false
  sequences := Vector.replicate 16 Sequence.reset
  steps := Vector.replicate 64 Step.reset
  player := .stopped
  silent := false
  silentTimer := some 1600
  markTimer := none
  lastRefresh := none
  countdownRunning := false

/-- The one SCORE frame of the BLANK burst of a reset (R140, R148), burst number 0; byte 4 is a refresh number the burst
does not have. -/
def Frame.resetBurst (serial : Nat) : Frame :=
  ⟨7, [0, 1, 1, 0, Sys2Proof.Config.freeByte serial 4, 6, 0, 255, 255, 0, 0, 0, 0, 0, 0, 0, 0]⟩

/-- R155, with the BLANK burst already taken by the idle wall transmitter (R149 case 1). -/
def LinkSwitch.reset (serial : Nat) : LinkSwitch where
  passQueue := []
  hold := false
  reports := []
  replies := []
  owed := 0
  scoreOut := none
  burstNext := 1
  wallTx := some ⟨Frame.resetBurst serial, []⟩
  consoleTx := none
  consoleRx := .hunting
  wallRx := .hunting
  fillTimer := none
  linkCheck := false
  passOverrun := false
  requestDropped := false

/-- R157, R163, R168, R169, R170. -/
def Hub.reset : Hub := ⟨.idle, [], [], 0, none, [], none, Config.reset, false⟩

/-- R171, with the strap clear. -/
def Loader.reset : Loader := ⟨false, .none, 0, [], 0, false, 0⟩

/-- The part at the end of a hard reset with the preset strap clear: every block at its hard-reset values, the show time
0, and what the end of a reset starts already started (R60, R122, R139, R140, R155, R171). -/
def State.reset : State where
  now := 0
  ports := Vector.replicate 4 Port.reset
  stamper := Stamper.reset
  seats := Vector.replicate 256 Seat.reset
  teams := Vector.replicate 16 Team.reset
  questions := Vector.replicate 128 Question.reset
  cues := Vector.replicate 64 CueEntry.reset
  round := Round.reset
  resp := Responses.reset
  buzz := Buzz.reset
  score := Score.reset
  sorter := Sorter.reset
  comp := Composer.reset
  link := LinkSwitch.reset 0
  hub := Hub.reset
  loader := Loader.reset
  free := 1
  pending := []

end Sys2Proof.Machine
end

