-- ==== Sys2Proof/Machine/Clock.lean ====
section
/-! DEFINITION. Show times and durations (R62): the signed difference of two show times, and the tests every timer uses. -/

namespace Sys2Proof.Machine

/-- a − b modulo 2^32, read as a signed quantity in −2^31..2^31−1 (R62). -/
def since (a b : Time) : Int := (a - b).toInt

/-- a is earlier than b (R62). -/
def earlier (a b : Time) : Bool := decide (since a b < 0)

/-- a is at or after b (R62). -/
def atOrAfter (a b : Time) : Bool := decide (0 ≤ since a b)

/-- A show time plus a duration in ticks, modulo 2^32 (R62). -/
def after (t : Time) (ticks : Nat) : Time := t + BitVec.ofNat 32 ticks

/-- A timer has expired: it runs, and its expiry is at or before now. -/
def expired (timer : Option Time) (now : Time) : Bool :=
  match timer with
  | some e => atOrAfter now e
  | none => false

/-- At least one tick has passed since `start`: the earliest end of an operation that takes 1 tick or more (R109, R123,
R130, R158). -/
def tickPassed (start now : Time) : Bool := decide (0 < since now start)

/-- clamp(x, lo, hi) of the conventions. -/
def clampNat (x lo hi : Nat) : Nat := if x < lo then lo else if hi < x then hi else x

/-- clamp(x, lo, hi) of the conventions, for signed values. -/
def clampInt (x lo hi : Int) : Int := if x < lo then lo else if hi < x then hi else x

end Sys2Proof.Machine
end

