-- ==== Sys2Proof/Machine/Codes.lean ====
section
/-! DEFINITION. The code values of 12.1 and 12.2 for named states, kinds and statuses, and the reading of a code back. -/

namespace Sys2Proof.Machine

def QKind.code : QKind → Byte
  | .empty => 0 | .choice => 1 | .buzz => 2 | .estimate => 3 | .poll => 4

def QKind.ofCode : Byte → Option QKind
  | 0 => some .empty | 1 => some .choice | 2 => some .buzz | 3 => some .estimate | 4 => some .poll | _ => none

def CommitMode.code : CommitMode → Byte
  | .auto => 0 | .held => 1

def CommitMode.ofCode : Byte → Option CommitMode
  | 0 => some .auto | 1 => some .held | _ => none

def RoundState.code : RoundState → Byte
  | .idle => 0 | .opened => 1 | .floor => 2 | .closing => 3 | .closed => 4 | .committing => 5

/-- The window state that beacons report (R10, R24): CLOSED for CLOSING, CLOSED and COMMITTING. -/
def RoundState.windowCode : RoundState → Byte
  | .idle => 0 | .opened => 1 | .floor => 2 | .closing => 3 | .closed => 3 | .committing => 3

def PortState.code : PortState → Byte
  | .stopped => 0 | .waking => 1 | .sweeping => 2 | .broken => 3

def Presence.code : Presence → Byte
  | .absent => 0 | .present => 1 | .silent => 2

def HandsetClass.code : HandsetClass → Byte
  | .fourKey => 0 | .sixKey => 1 | .digit => 2

def HandsetClass.ofCode : Byte → Option HandsetClass
  | 0 => some .fourKey | 1 => some .sixKey | 2 => some .digit | _ => none

def Lamp.code : Lamp → Byte
  | .off => 0 | .answered => 1 | .queued => 2 | .floor => 3 | .locked => 4 | .notEligible => 5 | .right => 6 | .wrong => 7

def ResponseState.code : ResponseState → Byte
  | .none => 0 | .answered => 1 | .early => 2 | .late => 3 | .locked => 4

def Verdict.code : Verdict → Byte
  | .right => 0 | .wrong => 1 | .timeout => 2

/-- The verdicts a JUDGE may carry (R98 check 1). -/
def Verdict.ofJudge : Byte → Option Verdict
  | 0 => some .right | 1 => some .wrong | _ => none

def View.code : View → Byte
  | .standings => 0 | .topFive => 1 | .teamCard => 2 | .histogram => 3 | .buzzOrder => 4 | .countdown => 5 | .blank => 6

def View.ofCode : Byte → Option View
  | 0 => some .standings | 1 => some .topFive | 2 => some .teamCard | 3 => some .histogram | 4 => some .buzzOrder
  | 5 => some .countdown | 6 => some .blank | _ => none

/-- The views a resting view may name (R138, R163): any but TEAM_CARD. -/
def View.ofResting (b : Byte) : Option View :=
  match View.ofCode b with
  | some .teamCard => none
  | v => v

def BackState.code : BackState → Byte
  | .stale => 0 | .composing => 1 | .ready => 2

def Player.code : Player → Byte
  | .stopped => 0 | .active false _ => 1 | .active true _ => 2

def LoadResult.code : LoadResult → Byte
  | .none => 0 | .empty => 1 | .failed => 2 | .loaded => 3

def NoticeKind.code : NoticeKind → Nat
  | .round => 0 | .tally => 1 | .buzz => 2 | .seat => 3 | .port => 4 | .help => 5 | .answer => 6 | .wall => 7 | .preset => 8

def Status.code : Status → Byte
  | .ok => 0 | .clamped => 1 | .busy => 2 | .inUse => 3 | .badState => 4 | .badTable => 5 | .badIndex => 6 | .badValue => 7
  | .duplicate => 8 | .staleJudge => 9 | .malformed => 10

/-- A status other than OK and CLAMPED refuses (R7, R161). -/
def Status.refuses : Status → Bool
  | .ok => false
  | .clamped => false
  | _ => true

def CueAction.code : CueAction → Byte
  | .openQuestion => 1 | .next => 2 | .close => 3 | .commit => 4 | .cancel => 5
  | .reveal => 16 | .stopSequence => 17 | .freeze => 18 | .thaw => 19 | .curtainOn => 20 | .curtainOff => 21

/-- The action codes a Cue Table entry may hold (R6 check 1, 12.4). -/
def CueAction.ofCode : Byte → Option CueAction
  | 1 => some .openQuestion | 2 => some .next | 3 => some .close | 4 => some .commit | 5 => some .cancel
  | 16 => some .reveal | 17 => some .stopSequence | 18 => some .freeze | 19 => some .thaw | 20 => some .curtainOn
  | 21 => some .curtainOff | _ => none

/-- The kind and subkind codes of a notice (12.6). -/
def NoticeBody.kind : NoticeBody → NoticeKind
  | .roundState .. => .round
  | .cueRefused .. => .round
  | .openDropped .. => .round
  | .committed .. => .round
  | .revoked .. => .round
  | .adjusted .. => .round
  | .cleared => .round
  | .tally .. => .tally
  | .buzzQueued .. => .buzz
  | .falseStart .. => .buzz
  | .floor .. => .buzz
  | .verdict .. => .buzz
  | .seats .. => .seat
  | .rollDone .. => .port
  | .breakBegin .. => .port
  | .breakEnd .. => .port
  | .help .. => .help
  | .answer .. => .answer
  | .wallSilent .. => .wall
  | .wallReturn .. => .wall
  | .sequenceEnded .. => .wall
  | .preset .. => .preset

def NoticeBody.subkind : NoticeBody → Byte
  | .roundState .. => 0
  | .cueRefused .. => 1
  | .openDropped .. => 2
  | .committed .. => 3
  | .revoked .. => 4
  | .adjusted .. => 5
  | .cleared => 6
  | .tally .. => 0
  | .buzzQueued .. => 0
  | .falseStart .. => 1
  | .floor .. => 2
  | .verdict .. => 3
  | .seats .. => 0
  | .rollDone .. => 0
  | .breakBegin .. => 1
  | .breakEnd .. => 2
  | .help .. => 0
  | .answer .. => 0
  | .wallSilent .. => 0
  | .wallReturn .. => 1
  | .sequenceEnded .. => 2
  | .preset .. => 0

end Sys2Proof.Machine
end

