-- ==== Sys2Proof/Machine/Flags.lean ====
section
/-! DEFINITION. The flag and mark bytes of chapter 12 (marks, causes, latched port flags), and the sets sent as bits. -/

namespace Sys2Proof.Machine

/-- A flag byte: the FQ256 sends a set flag as 1 (R177). -/
def flagByte (b : Bool) : Byte := if b then 1 else 0

/-- The byte with bit k set for each true entry k of the list, the first entry bit 0. -/
def bitsByte : List Bool → Byte
  | [] => 0
  | b :: bs => (bitsByte bs <<< 1) ||| flagByte b

/-- Team n is in the set (12.1). -/
def TeamSet.mem (s : TeamSet) (t : Fin 16) : Bool := s.getLsbD t.val

/-- The set with team n added. -/
def TeamSet.insert (s : TeamSet) (t : Fin 16) : TeamSet := s ||| (1#16 <<< t.val)

/-- The options set with every key beyond the first `options` removed (R3). -/
def optionMask (options : Nat) : Byte := BitVec.ofNat 8 (2 ^ options - 1)

/-- The marks byte of 12.1 for stamp marks alone. -/
def Marks.byte (m : Marks) : Byte := bitsByte [m.stale, m.clamped, m.overrun]

/-- The marks byte of a Buzz Queue entry: the stamp marks, OVERTAKEN and TIE. -/
def BuzzEntry.marksByte (e : BuzzEntry) : Byte :=
  bitsByte [e.marks.stale, e.marks.clamped, e.marks.overrun, e.overtaken, e.tie]

/-- The causes byte of a SEAT notice entry (12.6). -/
def Causes.byte (c : Causes) : Byte := bitsByte [c.presence, c.cls, c.battery, c.team]

def Causes.none : Causes := ⟨false, false, false, false⟩

/-- The union of two cause sets (R169 step 1). -/
def Causes.union (a b : Causes) : Causes :=
  ⟨a.presence || b.presence, a.cls || b.cls, a.battery || b.battery, a.team || b.team⟩

/-- A cause set with no cause raises no event (R41). -/
def Causes.any (c : Causes) : Bool := c.presence || c.cls || c.battery || c.team

/-- The latched flags byte of PORTSTAT (12.5). -/
def Port.flagsByte (p : Port) : Byte :=
  bitsByte [p.flagCheck, p.flagLength, p.flagSlot, p.flagOverrun, p.flagBreak]

/-- The five latched flags cleared (R59). -/
def Port.clearFlags (p : Port) : Port :=
  { p with flagCheck := false, flagLength := false, flagSlot := false, flagOverrun := false, flagBreak := false }

end Sys2Proof.Machine
end

