-- ==== Sys2Proof/Machine/Operands.lean ====
section
/-! DEFINITION. What the bytes from outside mean: fields of records and requests (12.1, 12.4, 12.5), the check of a link
frame, the tests of R142 and R143, handset frames (R55, R177), the tables of R159, and the length test of R158. -/

namespace Sys2Proof.Machine

/-! ## Fields -/

/-- The byte at place `i` of a record, as a number. -/
def u8 (r : List Byte) (i : Nat) : Nat := (r.getD i 0).toNat

/-- The two-byte field at place `i`, most significant byte first (12.1). -/
def u16 (r : List Byte) (i : Nat) : Nat := u8 r i * 256 + u8 r (i + 1)

/-- A flag byte of any value other than 0 is read as set (R177). -/
def flagAt (r : List Byte) (i : Nat) : Bool := r.getD i 0 != 0

/-- Two bytes, most significant first. -/
def be16 (n : Nat) : List Byte := [BitVec.ofNat 8 (n / 256), BitVec.ofNat 8 n]

/-- Four bytes, most significant first. -/
def be32 (n : Nat) : List Byte :=
  [BitVec.ofNat 8 (n / 16777216), BitVec.ofNat 8 (n / 65536), BitVec.ofNat 8 (n / 256), BitVec.ofNat 8 n]

/-- A signed two-byte field, two's complement. -/
def sbe16 (i : Int) : List Byte := be16 (BitVec.ofInt 16 i).toNat

/-- A signed four-byte field, two's complement. -/
def sbe32 (i : Int) : List Byte := be32 (BitVec.ofInt 32 i).toNat

/-- A number as one byte. -/
def byteOf (n : Nat) : Byte := BitVec.ofNat 8 n

/-- A value below n, or none. -/
def finOf (n x : Nat) : Option (Fin n) := if h : x < n then some ⟨x, h⟩ else none

/-- An optional number as a byte, 255 for none (12.1). -/
def optByte (x : Option Nat) : Byte :=
  match x with
  | some n => byteOf n
  | none => 255

/-- An optional index as a byte, 255 for none. -/
def optFin {n : Nat} (x : Option (Fin n)) : Byte := optByte (x.map Fin.val)

/-! ## The check of a link frame (R176) -/

/-- One bit of the division by x^16 + x^12 + x^5 + 1. -/
def crcBit (r : BitVec 16) : BitVec 16 := if r.getLsbD 15 then (r <<< 1) ^^^ 0x1021 else r <<< 1

/-- One byte fed, most significant bit first. -/
def crcByte (r : BitVec 16) (b : Byte) : BitVec 16 :=
  crcBit (crcBit (crcBit (crcBit (crcBit (crcBit (crcBit (crcBit (r ^^^ (b.setWidth 16 <<< 8)))))))))

/-- The 2-byte check over a run of bytes: register preset to all ones, no final inversion (R176). -/
def crc (bytes : List Byte) : BitVec 16 := bytes.foldl crcByte 0xFFFF

/-- The check of a frame, over class, length and payload (R176). -/
def Frame.check (f : Frame) : BitVec 16 := crc (f.cls :: byteOf f.payload.length :: f.payload)

/-- The bytes of a frame after its start mark (R176). -/
def Frame.body (f : Frame) : List Byte := f.cls :: byteOf f.payload.length :: f.payload ++ be16 f.check.toNat

/-- The start mark of a link frame (R176, 12.1). -/
def startMark : Byte := 165

/-- The bytes of a frame on a link (R176). -/
def Frame.wire (f : Frame) : List Byte := startMark :: f.body

/-- The class of a frame its link carries inward, with a length within the class's limits (R143). -/
def inwardGood (link : Link) (cls : Byte) (length : Nat) : Bool :=
  match link with
  | .console => (cls == 1 && length ≤ 250) || ((cls == 2 || cls == 3) && 2 ≤ length && length ≤ 250)
  | .wall => (cls == 9 && length == 1) || (cls == 6 && length ≤ 250)

/-- The bytes after a start mark make a complete frame (R142): class, length, as many payload bytes, and the check. -/
def frameComplete (bytes : List Byte) : Bool := bytes.length == u8 bytes 1 + 4

/-- R142: between two successive ones of these readings more than 8 ticks have passed. A byte never arrives before its
predecessor, so the ticks are the difference modulo 2^32 (log entry 13). -/
def gapped : List Time → Bool
  | [] => false
  | [_] => false
  | a :: b :: times => decide (8 < (b - a).toNat) || gapped (b :: times)

/-- R142 itself discards what a link receiver has collected since a start mark: the length is above 250, a gap between two of the
frame's bytes, its start mark among them, was longer than 8 ticks, or the frame is complete and its check is wrong. -/
def frameBroken (start : Time) (heard : List Heard) : Bool :=
  let bytes := heard.map (·.value)
  (2 ≤ bytes.length && 250 < u8 bytes 1)
    || (bytes.length ≤ u8 bytes 1 + 4 && gapped (start :: heard.map (·.time)))
    || (frameComplete bytes && u16 bytes (u8 bytes 1 + 2) != (crc (bytes.take (u8 bytes 1 + 2))).toNat)

/-- A link receiver discards what it has collected since a start mark: under R142, or as a complete frame whose class or length
R143 does not allow. -/
def frameDiscarded (link : Link) (start : Time) (heard : List Heard) : Bool :=
  let bytes := heard.map (·.value)
  frameBroken start heard || (frameComplete bytes && !inwardGood link (bytes.getD 0 0) (u8 bytes 1))

/-- The payload of a frame that arrived. -/
def payloadOf (a : Arrival) : List Byte := a.payload.map (·.value)

/-- The readings at which the bytes after a frame's start mark arrived. -/
def timesOf (a : Arrival) : List Time := a.cls :: a.length :: a.payload.map (·.time) ++ [a.checkHigh, a.checkLow]

/-- The bytes after the start mark of a frame of a class, as they arrived (R142, R176). -/
def heardOf (cls : Byte) (a : Arrival) : List Heard := List.zipWith Heard.mk (Frame.body ⟨cls, payloadOf a⟩) (timesOf a)

/-- R142 discards a frame of one of the classes: its length is above 250, or a gap between two of its bytes was too long. -/
def arrivalBroken (a : Arrival) : Bool := 250 < (payloadOf a).length || gapped (a.start :: timesOf a)

/-- A receiver hunts for a start mark through bytes it already has (R142): bytes before the first one are passed over, and
those after it are taken as a frame's. -/
def hunt : List Heard → Receiver
  | [] => .hunting
  | b :: bytes => if b.value = startMark then .collecting b.time bytes else hunt bytes

/-- The bytes a receiver has after the start mark of the frame in hand, of which these have come to an end as a frame: it may
hold more, from a discard before. -/
def Receiver.held (r : Receiver) (start : Time) (bytes : List Heard) : List Heard :=
  match r with
  | .hunting => bytes
  | .collecting begun held => if begun = start ∧ bytes.isPrefixOf held then held else bytes

/-- A receiver after the frame with this reading at its start mark and these bytes after it (R142): discarded as broken, it hunts
on from the byte after the start mark; otherwise from the byte after the frame. -/
def Receiver.after (r : Receiver) (start : Time) (bytes : List Heard) (broken : Bool) : Receiver :=
  hunt (if broken then r.held start bytes else (r.held start bytes).drop bytes.length)

/-! ## Handset frames (R55, R177, 12.3) -/

/-- The LENGTH test of R55: the kind names HELLO, PRESS or DIGITS, and the frame has that kind's length. The bytes are
those after the start mark. -/
def handsetLengthGood (bytes : List Byte) : Bool :=
  match u8 bytes 0 with
  | 1 => bytes.length == 4
  | 2 => bytes.length == 7
  | 3 => bytes.length == 8
  | _ => false

/-- The CHECK test of R55: every byte after the start mark sums to 0 modulo 256 (R176). -/
def handsetCheckGood (bytes : List Byte) : Bool := bytes.foldl (· + ·) (0 : Byte) == 0

/-- A press number above 3 is read modulo 4 (R177). -/
def readNumber (n : Nat) : Fin 4 := ⟨n % 4, Nat.mod_lt _ (by decide)⟩

/-- A beacon reference above 15 is read modulo 16 (R177). -/
def readReference (n : Nat) : Fin 16 := ⟨n % 16, Nat.mod_lt _ (by decide)⟩

/-- The frame of a good reception, its fields read as R177 states. -/
def readHandset (bytes : List Byte) : HandsetFrame :=
  match u8 bytes 0 with
  | 1 => .hello (bytes.getD 1 0) (flagAt bytes 2)
  | 2 => .press (bytes.getD 1 0) (readNumber (u8 bytes 2)) (readReference (u8 bytes 3)) (min (u16 bytes 4) 4095)
  | _ => .digits (u16 bytes 1) (readNumber (u8 bytes 3)) (readReference (u8 bytes 4)) (min (u16 bytes 5) 4095)

/-! ## Tables (R159, 12.5) -/

inductive Table
  | seats | teams | questions | cues | sequences | steps | portcfg | config
  | responses | buzzq | judged | scores | standings | commit | portstat
  deriving DecidableEq, Repr

def Table.number : Table → Byte
  | .seats => 1 | .teams => 2 | .questions => 3 | .cues => 4 | .sequences => 5 | .steps => 6 | .portcfg => 7 | .config => 8
  | .responses => 9 | .buzzq => 10 | .judged => 11 | .scores => 12 | .standings => 13 | .commit => 14 | .portstat => 15

def Table.ofNumber : Byte → Option Table
  | 1 => some .seats | 2 => some .teams | 3 => some .questions | 4 => some .cues | 5 => some .sequences | 6 => some .steps
  | 7 => some .portcfg | 8 => some .config | 9 => some .responses | 10 => some .buzzq | 11 => some .judged
  | 12 => some .scores | 13 => some .standings | 14 => some .commit | 15 => some .portstat | _ => none

/-- How many records the table can hold (R159). -/
def Table.count : Table → Nat
  | .seats => 256 | .teams => 16 | .questions => 128 | .cues => 64 | .sequences => 16 | .steps => 64 | .portcfg => 4
  | .config => 1 | .responses => 256 | .buzzq => 16 | .judged => 16 | .scores => 16 | .standings => 16 | .commit => 1
  | .portstat => 4

/-- The console may write the table (R159). -/
def Table.writable : Table → Bool
  | .seats => true | .teams => true | .questions => true | .cues => true | .sequences => true | .steps => true
  | .portcfg => true | .config => true | .responses => false | .buzzq => false | .judged => false | .scores => false
  | .standings => false | .commit => false | .portstat => false

/-- The length of a record in a READ REPLY (12.5). -/
def Table.readLength : Table → Nat
  | .seats => 10 | .teams => 16 | .questions => 27 | .cues => 6 | .sequences => 4 | .steps => 6 | .portcfg => 4
  | .config => 10 | .responses => 11 | .buzzq => 7 | .judged => 5 | .scores => 10 | .standings => 12 | .commit => 50
  | .portstat => 7

/-- The length of a record in a WRITE: the table's length, but for SEATS the team alone (12.5). -/
def Table.writeLength : Table → Nat
  | .seats => 1 | .teams => 16 | .questions => 27 | .cues => 6 | .sequences => 4 | .steps => 6 | .portcfg => 4
  | .config => 10 | .responses => 11 | .buzzq => 7 | .judged => 5 | .scores => 10 | .standings => 12 | .commit => 50
  | .portstat => 7

/-- The first `n` records of `len` bytes each. -/
def recordsOf (len : Nat) : Nat → List Byte → List (List Byte)
  | 0, _ => []
  | n + 1, bytes => bytes.take len :: recordsOf len n (bytes.drop len)

/-! ## Requests (R158, 12.4) -/

/-- The request kinds: READ 1, WRITE 2, ACT 3, PORT 4, SHOW 5, STATUS 6, RELOAD 7, RESTART 8. -/
def knownKind (kind : Nat) : Bool := 1 ≤ kind && kind ≤ 8

/-- The argument bytes an action takes, for the action codes of a kind; none for a code outside the kind's group. -/
def actionArguments (kind code : Nat) : Option Nat :=
  match kind, code with
  | 3, 1 => some 1
  | 3, 2 => some 0
  | 3, 3 => some 0
  | 3, 4 => some 0
  | 3, 5 => some 0
  | 3, 6 => some 2
  | 3, 7 => some 0
  | 3, 8 => some 3
  | 3, 9 => some 0
  | 4, 32 => some 1
  | 4, 33 => some 1
  | 4, 34 => some 1
  | 5, 16 => some 1
  | 5, 17 => some 0
  | 5, 18 => some 0
  | 5, 19 => some 0
  | 5, 20 => some 0
  | 5, 21 => some 0
  | 5, 22 => some 1
  | _, _ => none

/-- The payload's length fits the request's kind and the action or table it names (R158 check 3). -/
def payloadFits (payload : List Byte) : Bool :=
  match u8 payload 1 with
  | 1 => payload.length == 5
  | 2 =>
    4 ≤ payload.length &&
      (match Table.ofNumber (payload.getD 2 0) with
       | some t => 4 < payload.length && (payload.length - 4) % t.writeLength == 0
       | none => true)
  | 3 => 3 ≤ payload.length && actionArguments 3 (u8 payload 2) == some (payload.length - 3)
  | 4 => 3 ≤ payload.length && actionArguments 4 (u8 payload 2) == some (payload.length - 3)
  | 5 => 3 ≤ payload.length && actionArguments 5 (u8 payload 2) == some (payload.length - 3)
  | 6 => payload.length == 2
  | 7 => payload.length == 2
  | 8 => payload.length == 2
  | _ => false

end Sys2Proof.Machine
end

