-- ==== Sys2Proof/Machine/Layout.lean ====
section
/-! DEFINITION. The bytes the FQ256 sends (chapter 12): beacons, table records and READ headers, notices, SCORE and FILL
payloads. `fb j` is the open value for byte `j` of the frame or record at hand, used only where the layout gives a place and
no value (log entry 5). -/

namespace Sys2Proof.Machine

/-- A name field: its length and 12 bytes, the unused ones open. -/
def nameBytes (fb : Nat → Byte) (name : List Byte) : List Byte :=
  byteOf name.length :: (List.range 12).map fun i => name.getD i (fb i)

/-- A four-byte show time without a presence flag: 0 when absent (12.5). -/
def timeOr0 (t : Option Time) : List Byte :=
  match t with
  | some x => be32 x.toNat
  | none => [0, 0, 0, 0]

/-- A presence flag and a four-byte show time, open when the flag is clear. -/
def flaggedTime (fb : Nat → Byte) (t : Option Time) : List Byte :=
  match t with
  | some x => 1 :: be32 x.toNat
  | none => [0, fb 0, fb 1, fb 2, fb 3]

/-! ## Row lines (12.3) -/

def Feedback.bytes (e : Feedback) : List Byte := [byteOf e.position.val, optFin e.press, e.lamp.code]

/-- The round summary as a beacon or FILL carries it: question, window state, kind, options count. -/
def Summary.bytes (s : Summary) : List Byte :=
  [optFin s.question, s.window, (match s.kind with | some k => k.code | none => 255), optByte s.options]

/-- The bytes of a beacon after the start mark, without the check byte. -/
def Beacon.fields (b : Beacon) : List Byte :=
  [0, byteOf b.sequence.val] ++ b.summary.bytes ++ [flagByte b.roll, byteOf b.checks.length]
    ++ (List.range 4).map (fun i => optFin b.checks[i]?)
    ++ [byteOf b.feedback.length]
    ++ ((List.range 6).map fun i => match b.feedback[i]? with | some e => e.bytes | none => [255, 255, 255]).flatten

/-- The 33 bytes of a beacon: start mark 90, fields, and the check byte that makes the sum 0 modulo 256 (R176). -/
def Beacon.bytes (b : Beacon) : List Byte := 90 :: b.fields ++ [-(b.fields.foldl (· + ·) 0)]

/-! ## Table records (12.5) -/

def Seat.bytes (fb : Nat → Byte) (s : Seat) : List Byte :=
  [optFin s.team] ++ (match s.pending with | some t => [1, optFin t] | none => [0, fb 0])
    ++ [s.presence.code, (match s.cls with | some c => c.code | none => 255), flagByte s.battery, byteOf s.missed,
        optFin s.lastPress, s.lamp.code, flagByte s.queued]

/-- A TEAMS record with its derived counts (R30). -/
def Team.bytes (fb : Nat → Byte) (t : Team) (members present : Nat) : List Byte :=
  [flagByte t.active] ++ nameBytes fb t.name ++ [byteOf members, byteOf present]

def Question.bytes (q : Question) : List Byte :=
  [q.kind.code, byteOf q.options, q.correct] ++ be16 q.base ++ be16 q.speed ++ be16 q.penalty ++ be16 q.stealPoints
    ++ [byteOf q.steals, byteOf q.answerTime, byteOf q.guard] ++ be16 q.target ++ be16 q.tolerance ++ be16 q.window
    ++ [byteOf q.settle, byteOf q.changeLimit] ++ be16 q.eligible.toNat
    ++ [q.mode.code, flagByte q.resultLamps, optFin q.reveal]

def CueEntry.bytes (c : CueEntry) : List Byte :=
  [flagByte c.valid] ++ be16 c.number.toNat ++ [c.action.code, c.argument, flagByte c.absorb]

def Sequence.bytes (s : Sequence) : List Byte := [flagByte s.valid, byteOf s.first, byteOf s.count, flagByte s.loops]

def Step.bytes (s : Step) : List Byte :=
  [s.view.code, byteOf s.hold] ++ be16 s.highlight.toNat ++ [flagByte s.invert, byteOf s.team.val]

def PortCfg.bytes (p : PortCfg) : List Byte := [flagByte p.autostart, byteOf p.positions, byteOf p.period, byteOf p.skew]

def Config.bytes (c : Config) : List Byte :=
  be16 c.enabled.toNat ++ [byteOf c.tallyCount, byteOf c.tallyWait, byteOf c.seatWait, byteOf c.urgent,
    byteOf c.silentTimeout] ++ be16 c.mirror.toNat ++ [c.resting.code]

/-- An answer as two bytes: the option code or the value. -/
def Answer.bytes : Answer → List Byte
  | .option k => be16 k.val
  | .value v => be16 v

def Response.bytes (fb : Nat → Byte) (r : Response) : List Byte :=
  [r.state.code] ++ (match r.answer with | some a => a.bytes | none => be16 65535) ++ timeOr0 r.pressTime
    ++ [byteOf r.changes] ++ (match r.points with | some p => 1 :: sbe16 p | none => [0, fb 0, fb 1])

/-- The six option counts and the answered count, two bytes each. -/
def Tallies.bytes (t : Tallies) : List Byte := (t.counts.toList.map be16).flatten ++ be16 t.answered

/-- The header of a READ of RESPONSES, with the tallies (R76). -/
def Responses.headerBytes (fb : Nat → Byte) (r : Responses) : List Byte :=
  [optFin r.header.question, (match r.header.kind with | some k => k.code | none => 255)] ++ timeOr0 r.header.openTime
    ++ flaggedTime fb r.header.closeTime ++ [flagByte r.header.committed] ++ r.tallies.bytes

def BuzzEntry.bytes (e : BuzzEntry) : List Byte :=
  [byteOf e.seat.val, byteOf e.team.val] ++ be32 e.time.toNat ++ [e.marksByte]

def Judged.bytes (j : Judged) : List Byte :=
  [byteOf j.team.val, byteOf j.seat.val, j.verdict.code] ++ sbe16 j.points

def TeamScore.bytes (t : TeamScore) : List Byte := sbe32 t.total ++ be16 t.correct ++ sbe32 t.last

def Standing.bytes (e : Standing) : List Byte :=
  [byteOf e.rank, byteOf e.team.val] ++ sbe32 e.total ++ be16 e.correct ++ sbe32 e.last

def CommitRecord.bytes (c : CommitRecord) : List Byte :=
  [flagByte c.valid, optFin c.question]
    ++ ((List.finRange 16).map fun t => sbe16 c.points[t] ++ [byteOf c.correct[t]]).flatten

/-- A PORTSTAT record (R59). -/
def Port.statBytes (p : Port) : List Byte :=
  [p.state.code, byteOf p.lastSequence.val, flagByte p.roll.isSome, flagByte p.lampNext.isSome, byteOf p.inbox.length,
    byteOf p.feedback.length, p.flagsByte]

/-! ## Notices (12.6) -/

def SeatChange.bytes (e : SeatChange) : List Byte :=
  [byteOf e.seat.val, e.causes.byte, e.presence.code, optFin e.team, (match e.cls with | some c => c.code | none => 255),
    flagByte e.battery] ++ be32 e.time.toNat

/-- The option kind of a header as a byte. -/
def kindByte (k : Option QKind) : Byte := match k with | some x => x.code | none => 255

/-- The body of a notice. -/
def NoticeBody.bytes (fb : Nat → Byte) : NoticeBody → List Byte
  | .roundState st q mark snap =>
    [st.code, optFin q, flagByte mark] ++
      (match snap with
       | some v => 1 :: v.toList.map byteOf
       | none => 0 :: (List.range 16).map fb)
  | .cueRefused n st => be16 n.toNat ++ [st.code]
  | .openDropped q st => [byteOf q.val, st.code]
  | .committed q k pts cor tot sat =>
    [optFin q, kindByte k] ++ ((List.finRange 16).map fun t =>
      sbe16 pts[t] ++ [byteOf cor[t]] ++ sbe32 tot[t] ++ [flagByte sat[t]]).flatten
  | .revoked q pts cor tot =>
    [optFin q] ++ ((List.finRange 16).map fun t => sbe16 pts[t] ++ [byteOf cor[t]] ++ sbe32 tot[t]).flatten
  | .adjusted t req app tot => [byteOf t.val] ++ sbe16 req ++ sbe16 app ++ sbe32 tot
  | .cleared => []
  | .tally q k t => [optFin q, kindByte k] ++ t.bytes
  | .buzzQueued q e place =>
    [optFin q, byteOf e.seat.val, byteOf e.team.val] ++ be32 e.time.toNat ++ [e.marksByte, byteOf place]
  | .falseStart q seat team time m => [optFin q, byteOf seat.val, byteOf team.val] ++ be32 time.toNat ++ [m.byte]
  | .floor q e steals expiry =>
    [optFin q, byteOf e.seat.val, byteOf e.team.val] ++ be32 e.time.toNat ++ [e.marksByte, byteOf steals]
      ++ flaggedTime fb expiry
  | .verdict q j steals =>
    [optFin q, byteOf j.seat.val, byteOf j.team.val, j.verdict.code] ++ sbe16 j.points ++ [byteOf steals]
  | .seats es => byteOf es.length :: (es.map SeatChange.bytes).flatten
  | .rollDone p a b c => [byteOf p.val, byteOf a, byteOf b, byteOf c]
  | .breakBegin p => [byteOf p.val]
  | .breakEnd p => [byteOf p.val]
  | .help seat team st q time m =>
    [byteOf seat.val, optFin team, st.code, optFin q] ++ be32 time.toNat ++ [m.byte]
  | .answer seat team q a time m changes =>
    [byteOf seat.val, byteOf team.val, optFin q] ++ a.bytes ++ be32 time.toNat ++ [m.byte, byteOf changes]
  | .wallSilent r => match r with | some x => [1, x] | none => [0, fb 0]
  | .wallReturn r => [r]
  | .sequenceEnded s => [byteOf s.val]
  | .preset r n => r.code :: be16 n

/-- The payload of a NOTICE frame. -/
def Notice.payload (fb : Nat → Byte) (n : Notice) : List Byte :=
  [byteOf n.body.kind.code, n.body.subkind] ++ be32 n.time.toNat ++ n.body.bytes fb

/-! ## Wall frames (12.7) -/

/-- The marks byte of a SCORE row: highlight bit 5, invert bit 6, holder bit 7 (12.1). -/
def rowMarks (overtaken tie highlight invert holder stale clamped overrun : Bool) : Byte :=
  bitsByte [stale, clamped, overrun, overtaken, tie, highlight, invert, holder]

def Row.bytes (fb : Nat → Byte) : Row → List Byte
  | .team standing t name hl inv =>
    (match standing with
     | some e => [byteOf e.rank, byteOf t.val] ++ nameBytes fb name ++ sbe32 e.total ++ be16 e.correct ++ sbe32 e.last
     | none => [255, byteOf t.val] ++ nameBytes fb name ++ be32 0 ++ be16 0 ++ be32 0)
      ++ [rowMarks false false hl inv false false false false]
  | .buzz place e name holder hl inv =>
    [byteOf place, byteOf e.team.val] ++ nameBytes fb name
      ++ [byteOf e.seat.val, rowMarks e.overtaken e.tie hl inv holder false false false]
  | .option k count percent => [byteOf k] ++ be16 count ++ [byteOf percent]

/-- The four view bytes of a SCORE payload. -/
def ViewExtra.bytes : ViewExtra → List Byte
  | .none => [0, 0, 0, 0]
  | .card t => [byteOf t.val, 0, 0, 0]
  | .histogram q o a => [optFin q, optByte o] ++ be16 a
  | .buzz q h n => [optFin q, optFin h, byteOf n, 0]
  | .countdown q f => [optFin q, 0] ++ (match f with | some n => be16 n | .none => be16 65535)

/-- The view header of a SCORE payload. -/
def ViewImage.headerBytes (v : ViewImage) : List Byte :=
  [v.view.code, byteOf v.rows.length]
    ++ (match v.step with | some (s, k) => [byteOf s.val, byteOf k] | none => [255, 255])
    ++ be32 v.start.toNat ++ v.extra.bytes

/-- One SCORE frame of a burst (R148): burst number, index and count, refresh number, view header, its rows. `fb j` is open
byte `j` of the burst. -/
def scoreFrame (fb : Nat → Byte) (number : Byte) (index count : Nat) (b : Burst) (rows : List Row) : Frame :=
  ⟨7, [number, byteOf index, byteOf count] ++ (match b.refresh with | some r => [1, r] | none => [0, fb 4])
    ++ b.image.headerBytes
    ++ (rows.mapIdx fun i r => r.bytes fun j => fb (16 + 128 * index + 12 * i + j)).flatten⟩

/-- The SCORE frames of a burst: one for 0..8 rows, two for 9..16 (R148). -/
def scoreFrames (fb : Nat → Byte) (number : Byte) (b : Burst) : Frame × List Frame :=
  if b.image.rows.length ≤ 8 then (scoreFrame fb number 1 1 b b.image.rows, [])
  else (scoreFrame fb number 1 2 b (b.image.rows.take 8), [scoreFrame fb number 2 2 b (b.image.rows.drop 8)])

/-- The payload of a FILL frame (12.7). -/
def fillFrame (s : Summary) (built : Time) : Frame := ⟨8, s.bytes ++ be32 built.toNat⟩

end Sys2Proof.Machine
end

