-- ==== Sys2Proof/Machine/Ops.lean ====
section
/-! DEFINITION. The operations every family of steps shares: one update for each block of State, the notices of the Hub
Agent (10.7), the requests it decodes (10.1), the two transmitters of the Link Switch (9.4, 9.5), the composes and bursts of
the Scoreboard Composer (8.1, 8.2), and the trigger of the Standings Sorter (7.5). -/

namespace Sys2Proof.Machine

/-! ## Block updates -/

def State.withNow (s : State) (x : Time) : State := { s with now := x }

def State.withPorts (s : State) (x : Vector Port 4) : State := { s with ports := x }

def State.withStamper (s : State) (x : Stamper) : State := { s with stamper := x }

def State.withSeats (s : State) (x : Vector Seat 256) : State := { s with seats := x }

def State.withTeams (s : State) (x : Vector Team 16) : State := { s with teams := x }

def State.withQuestions (s : State) (x : Vector Question 128) : State := { s with questions := x }

def State.withCues (s : State) (x : Vector CueEntry 64) : State := { s with cues := x }

def State.withRound (s : State) (x : Round) : State := { s with round := x }

def State.withResp (s : State) (x : Responses) : State := { s with resp := x }

def State.withBuzz (s : State) (x : Buzz) : State := { s with buzz := x }

def State.withScore (s : State) (x : Score) : State := { s with score := x }

def State.withSorter (s : State) (x : Sorter) : State := { s with sorter := x }

def State.withComp (s : State) (x : Composer) : State := { s with comp := x }

def State.withLink (s : State) (x : LinkSwitch) : State := { s with link := x }

def State.withHub (s : State) (x : Hub) : State := { s with hub := x }

def State.withLoader (s : State) (x : Loader) : State := { s with loader := x }

def State.withFree (s : State) (x : Nat) : State := { s with free := x }

/-- Port p replaced. -/
def State.setPort (s : State) (p : Fin 4) (x : Port) : State := s.withPorts (s.ports.set p x)

/-- Seat k replaced. -/
def State.setSeat (s : State) (k : Fin 256) (x : Seat) : State := s.withSeats (s.seats.set k x)

/-- Every seat replaced by a function of its number and its record. -/
def State.mapSeats (s : State) (f : Fin 256 → Seat → Seat) : State :=
  s.withSeats (Vector.ofFn fun k => f k s.seats[k])

/-! ## The record of the question in play -/

/-- The Question Table record of the current question of the Round Record (R4). -/
def currentQuestion (s : State) : Question :=
  match s.round.current with
  | some q => s.questions[q]
  | none => Question.reset

/-- The Question Table record of the question in the Response Array header (R73). -/
def headerQuestion (s : State) : Question :=
  match s.resp.header.question with
  | some q => s.questions[q]
  | none => Question.reset

/-- The round summary of R24 as beacons and FILL frames carry it. -/
def roundSummary (s : State) : Summary where
  question := s.round.current
  window := s.round.state.windowCode
  kind := s.round.current.map fun q => s.questions[q].kind
  options := s.round.current.map fun q => s.questions[q].options

/-- The window remaining of the round summary (R24): absent while the window timer is STOPPED. -/
def windowRemaining (s : State) : Option Int :=
  match s.round.window with
  | .running deadline => some (since deadline s.now)
  | .paused remainder => some remainder
  | .stopped => none

/-- The open question's settle interval in ticks (R1). -/
def settleTicks (q : Question) : Nat := q.settle * 8

/-- The window of a question in ticks (R1). -/
def windowTicks (q : Question) : Nat := q.window * 800

/-! ## Notices (R167 to R170) -/

/-- The kind is in the notice enable set (R167). -/
def kindEnabled (k : NoticeKind) (s : State) : Bool := s.hub.config.enabled.getLsbD k.code

/-- One seat change taken into a list of changes: merged into the seat's entry, or appended (R169 steps 1 and 2). -/
def mergeChange (e : SeatChange) : List SeatChange → List SeatChange
  | [] => [e]
  | x :: xs => if x.seat = e.seat then { e with causes := x.causes.union e.causes } :: xs else x :: mergeChange e xs

/-- A list of seat changes taken one by one into another (R170 case 2). -/
def mergeChanges (old new : List SeatChange) : List SeatChange := new.foldl (fun acc e => mergeChange e acc) old

/-- R170 case 1: the queued TALLY notice takes the new notice's contents and build time, and keeps its place. -/
def replaceTally (n : Notice) : List Notice → Option (List Notice)
  | [] => none
  | x :: xs =>
    match x.body with
    | .tally .. => some (n :: xs)
    | _ => (replaceTally n xs).map (x :: ·)

/-- R170 case 2, on the queue newest first: the newest queued SEAT notice takes the merge if it holds at most 16 seats. -/
def mergeNewestSeat (es : List SeatChange) (time : Time) : List Notice → Option (List Notice)
  | [] => none
  | x :: xs =>
    match x.body with
    | .seats old =>
      if (mergeChanges old es).length ≤ 16 then some (⟨.seats (mergeChanges old es), time⟩ :: xs) else none
    | _ => (mergeNewestSeat es time xs).map (x :: ·)

/-- The Notice Queue with a notice replaced or merged into a queued one, when R170 case 1 or 2 applies. -/
def noticeMatched (n : Notice) (queue : List Notice) : Option (List Notice) :=
  match n.body with
  | .tally .. => replaceTally n queue
  | .seats es => (mergeNewestSeat es n.time queue.reverse).map List.reverse
  | _ => none

/-- A notice built (R170). -/
def enqueueNotice (n : Notice) (s : State) : State :=
  match noticeMatched n s.hub.notices with
  | some queue => s.withHub { s.hub with notices := queue }
  | none =>
    if s.hub.notices.length < 8 then s.withHub { s.hub with notices := s.hub.notices ++ [n] }
    else s.withHub { s.hub with noticeLost := true }

/-- A notice event of a kind that is built at once (R167): built when its kind is enabled, discarded otherwise. -/
def raiseNotice (b : NoticeBody) (s : State) : State := if kindEnabled b.kind s then enqueueNotice ⟨b, s.now⟩ s else s

/-- A TALLY notice built from the header and tallies as they stand (R168): the count becomes 0 and the timer stops. -/
def buildTally (s : State) : State :=
  enqueueNotice ⟨.tally s.resp.header.question s.resp.header.kind s.resp.tallies, s.now⟩
    (s.withHub { s.hub with tallyEvents := 0, tallyTimer := none })

/-- A TALLY event taken (R168). A written wait applies from the next first event, so a wait of 0 builds a notice at a first event
alone. -/
def raiseTally (s : State) : State :=
  if kindEnabled .tally s then
    let timer := if s.hub.tallyEvents = 0 then some (after s.now (s.hub.config.tallyWait * 8)) else s.hub.tallyTimer
    let s' := s.withHub { s.hub with tallyEvents := s.hub.tallyEvents + 1, tallyTimer := timer }
    if s.hub.config.tallyCount ≤ s.hub.tallyEvents + 1 ∨ (s.hub.tallyEvents = 0 ∧ s.hub.config.tallyWait = 0) then buildTally s'
    else s'
  else s

/-- A SEAT notice built from the pending list (R169): the list empties and the timer stops. -/
def buildSeat (s : State) : State :=
  enqueueNotice ⟨.seats s.hub.seatChanges, s.now⟩ (s.withHub { s.hub with seatChanges := [], seatTimer := none })

/-- A SEAT event for seat k with its causes (R41), taken by the Hub Agent (R169). An event without a cause is none. -/
def raiseSeat (k : Fin 256) (causes : Causes) (s : State) : State :=
  if kindEnabled .seat s && causes.any then
    let seat := s.seats[k]
    let change : SeatChange := ⟨k, causes, seat.presence, seat.team, seat.cls, seat.battery, s.now⟩
    let changes := mergeChange change s.hub.seatChanges
    let timer := if s.hub.seatChanges = [] then some (after s.now (s.hub.config.seatWait * 80)) else s.hub.seatTimer
    let s' := s.withHub { s.hub with seatChanges := changes, seatTimer := timer }
    if 16 ≤ changes.length ∨ s.hub.config.seatWait = 0 then buildSeat s' else s'
  else s

/-! ## Views and composes (R127 to R130) -/

/-- The step being shown, or none while the player is STOPPED. -/
def shownStep (s : State) : Option Playing :=
  match s.comp.player with
  | .stopped => none
  | .active _ p => some p

/-- The current view (R128). -/
def currentView (s : State) : View :=
  match shownStep s with
  | some p => p.view
  | none => s.hub.config.resting

/-- The floor holder's team (R89). -/
def holderTeam (s : State) : Option (Fin 16) := if s.buzz.held then (s.buzz.queue.head?).map (·.team) else none

/-- A team row (R127); `hl` is the highlight set and `inv` the invert flag of the step. -/
def teamRow (s : State) (hl : TeamSet) (inv : Bool) (standing : Option Standing) (t : Fin 16) : Row :=
  .team standing t s.teams[t].name (hl.mem t) inv

/-- A HISTOGRAM row's percent (R129). -/
def percentOf (c a : Nat) : Nat := if a = 0 then 0 else (200 * c + a) / (2 * a)

/-- The COUNTDOWN figure (R129). -/
def countdownFigure (s : State) : Option Nat :=
  match windowRemaining s with
  | some r => some (if 0 < r then (r.toNat + 799) / 800 else 0)
  | none => none

/-- The rows of a HISTOGRAM view (R127): one for each option in play on a CHOICE or POLL question. -/
def histogramRows (s : State) : List Row :=
  match s.resp.header.kind with
  | some .choice => rows
  | some .poll => rows
  | _ => []
where
  rows : List Row :=
    ((List.finRange 6).filter fun k => k.val < (headerQuestion s).options).map fun k =>
      .option k.val s.resp.tallies.counts[k] (percentOf s.resp.tallies.counts[k] s.resp.tallies.answered)

/-- The rows of a view (R127). The manual gives the condition of the highlight mark for a team row; a BUZZ_ORDER row has it when
its entry's team is in the step's highlight set: DESIGN CHOICE (log entry 29). -/
def viewRows (s : State) (v : View) (hl : TeamSet) (inv : Bool) (card : Fin 16) : List Row :=
  match v with
  | .standings => s.sorter.published.map fun e => teamRow s hl inv (some e) e.team
  | .topFive => (s.sorter.published.filter fun e => e.rank ≤ 5).map fun e => teamRow s hl inv (some e) e.team
  | .teamCard => [teamRow s hl inv (s.sorter.published.find? fun e => e.team = card) card]
  | .histogram => histogramRows s
  | .buzzOrder =>
    s.buzz.queue.mapIdx fun i e => .buzz (i + 1) e s.teams[e.team].name (s.buzz.held && i == 0) (hl.mem e.team) inv
  | .countdown => []
  | .blank => []

/-- The view-specific header fields of a view (R127). -/
def viewExtra (s : State) (v : View) (card : Fin 16) : ViewExtra :=
  match v with
  | .teamCard => .card card
  | .histogram =>
    .histogram s.resp.header.question (s.resp.header.question.map fun q => s.questions[q].options)
      s.resp.tallies.answered
  | .buzzOrder => .buzz s.resp.header.question (holderTeam s) s.buzz.stealsUsed
  | .countdown => .countdown s.round.current (countdownFigure s)
  | .standings => .none
  | .topFive => .none
  | .blank => .none

/-- The current view as a compose started now builds it: every datum is read in this one event (R130). -/
def composedView (s : State) : ViewImage :=
  match shownStep s with
  | some p => ⟨p.view, some (p.sequence, p.step), s.now, viewExtra s p.view p.team,
      viewRows s p.view p.highlight p.invert p.team⟩
  | none => ⟨s.hub.config.resting, none, s.now, viewExtra s s.hub.config.resting 0,
      viewRows s s.hub.config.resting 0 false 0⟩

/-- A compose starts (R130): the back buffer becomes COMPOSING the view of this moment. -/
def startCompose (s : State) : State :=
  s.withComp { s.comp with back := composedView s, backState := .composing, composeStart := s.now }

/-- A change of data for the current view (R130): a compose starts, or recompose-pending is set. -/
def recompose (s : State) : State :=
  match s.comp.backState with
  | .composing => s.withComp { s.comp with recompose := true }
  | .stale => startCompose s
  | .ready => startCompose s

/-- A change reported to the Composer, acted on when it counts for the current view (R128). -/
def reportChange (counts : View → Bool) (s : State) : State := if counts (currentView s) then recompose s else s

/-- The views for which a published list counts (R128). -/
def countsStandings : View → Bool
  | .standings => true
  | .topFive => true
  | .teamCard => true
  | _ => false

/-- The views for which a team name counts (R128). -/
def countsNames : View → Bool
  | .standings => true
  | .topFive => true
  | .teamCard => true
  | .buzzOrder => true
  | _ => false

def countsTallies (v : View) : Bool := v == .histogram

def countsBuzz (v : View) : Bool := v == .buzzOrder

def countsCountdown (v : View) : Bool := v == .countdown

/-- The tallies moved or were cleared (R84). -/
def reportTallies (s : State) : State := reportChange countsTallies s

/-- The Buzz Queue changed (R105). -/
def reportBuzz (s : State) : State := reportChange countsBuzz s

/-- A burst placed in the Score Out slot, replacing any unsent one (R132). -/
def placeBurst (image : ViewImage) (refresh : Option Byte) (s : State) : State :=
  s.withLink { s.link with scoreOut := some ⟨image, refresh⟩ }

/-- The BLANK view the curtain shows (R132): its header names the step being shown, if any (R127), and its compose start
time is open (log entry 6). -/
def curtainBlank (s : State) : ViewImage :=
  ⟨.blank, (shownStep s).map fun p => (p.sequence, p.step), Sys2Proof.Config.freeTime s.free, .none, []⟩

/-- A BLANK burst for the curtain, placed (R132). -/
def placeCurtainBlank (refresh : Option Byte) (s : State) : State :=
  (placeBurst (curtainBlank s) refresh s).withFree (s.free + 1)

/-! ## Ranking passes (R122 to R125) -/

/-- The order of the working list: total descending, correct count descending, team number ascending (R123). -/
def standingBefore (a b : Standing) : Bool :=
  b.total < a.total || (a.total == b.total && (b.correct < a.correct || (a.correct == b.correct && a.team < b.team)))

/-- An entry put at its place in an ordered list. -/
def insertStanding (e : Standing) : List Standing → List Standing
  | [] => [e]
  | x :: xs => if standingBefore e x then e :: x :: xs else x :: insertStanding e xs

/-- The active teams as copied at the start of a pass, not yet ordered (R123). -/
def activeStandings (s : State) : List Standing :=
  ((List.finRange 16).filter fun t => s.teams[t].active).map fun t =>
    ⟨t, s.score.table[t].total, s.score.table[t].correct, s.score.table[t].last, 0⟩

/-- Display ranks: 1 + the number of entries with a strictly greater total (R123). -/
def rankStandings (l : List Standing) : List Standing :=
  l.map fun e => { e with rank := 1 + (l.filter fun x => e.total < x.total).length }

/-- The working list of a pass that starts now (R123). -/
def rankedStandings (s : State) : List Standing := rankStandings ((activeStandings s).foldr insertStanding [])

/-- A ranking pass starts (R123). -/
def startRanking (s : State) : State :=
  s.withSorter { s.sorter with working := rankedStandings s, running := true, start := s.now }

/-- A trigger taken by the Sorter (R123, R125). -/
def triggerRanking (s : State) : State :=
  if s.sorter.running then s.withSorter { s.sorter with rerank := true } else startRanking s

/-! ## The transmitters (R149 to R153) -/

/-- The wall transmitter begins a burst (R150): it leaves the slot, and the burst counter moves (R148). -/
def sendBurst (b : Burst) (s : State) : State :=
  let frames := scoreFrames (Sys2Proof.Config.freeByte s.free) s.link.burstNext b
  (s.withLink { s.link with
    scoreOut := none
    burstNext := s.link.burstNext + 1
    wallTx := some ⟨frames.1, frames.2⟩
    fillTimer := none }).withFree (s.free + 1)

/-- HOLD after a removal from the Pass Queue (R146). -/
def holdAfterRemoval (hold : Bool) (occupancy : Nat) : Bool := if occupancy = 2 then false else hold

/-- HOLD after an arrival at the Pass Queue (R146). -/
def holdAfterArrival (hold : Bool) (occupancy : Nat) : Bool := if occupancy = 6 then true else hold

/-- The wall transmitter begins the oldest Pass Queue frame (R145). -/
def sendPassed (f : Frame) (queue : List Frame) (s : State) : State :=
  s.withLink { s.link with
    passQueue := queue
    hold := holdAfterRemoval s.link.hold queue.length
    wallTx := some ⟨f, []⟩
    fillTimer := none }

/-- The choice of the wall-port arbiter on an idle transmitter (R149). -/
def wallChoose (s : State) : State :=
  match s.link.wallTx, s.link.scoreOut, s.link.passQueue with
  | some _, _, _ => s
  | none, some b, [] => sendBurst b s
  | none, some b, f :: queue =>
    if queue.length + 1 < s.hub.config.urgent then sendBurst b s else sendPassed f queue s
  | none, none, f :: queue => sendPassed f queue s
  | none, none, [] => s

/-- The choice of the console-transmit arbiter on an idle transmitter (R153): the oldest REPLY, then REPORT, then NOTICE.
The count of replies owed falls as a REPLY leaves its queue (R152). -/
def consoleChoose (s : State) : State :=
  match s.link.consoleTx, s.link.replies, s.link.reports, s.hub.notices with
  | some _, _, _, _ => s
  | none, r :: rs, _, _ =>
    s.withLink { s.link with replies := rs, owed := s.link.owed - 1, consoleTx := some ⟨4, r⟩ }
  | none, [], r :: rs, _ => s.withLink { s.link with reports := rs, consoleTx := some ⟨6, r⟩ }
  | none, [], [], n :: ns =>
    ((s.withLink { s.link with consoleTx := some ⟨5, n.payload (Sys2Proof.Config.freeByte s.free)⟩ }).withHub
      { s.hub with notices := ns }).withFree (s.free + 1)
  | none, [], [], [] => s

/-- The end of every event: an idle transmitter takes what now waits for it (R149, R153; log entry 11). -/
def settleLinks (s : State) : State := wallChoose (consoleChoose s)

/-- The outcome of every step of the part. -/
def finish (s : State) : Host.Outcome State Fault Refusal := .next (settleLinks s)

/-! ## Requests (R157, R158) -/

/-- The decode of this payload has ended: the agent is DECODING it, and a tick has passed since its decode began. -/
def decodeEnds (payload : List Byte) (s : State) : Bool :=
  match s.hub.agent with
  | .decoding p began => p == payload && tickPassed began s.now
  | .idle => false
  | .restarting => false

/-- A REPLY placed in the Reply Queue (R152): tag, kind byte, status, body (12.4). -/
def placeReply (payload : List Byte) (status : Status) (body : List Byte) (s : State) : State :=
  s.withLink { s.link with replies := s.link.replies ++ [[payload.getD 0 0, payload.getD 1 0, status.code] ++ body] }

/-- A decode ends in DECODING: the oldest queued request is taken for decoding, or the agent is IDLE (R157). -/
def nextRequest (s : State) : State :=
  match s.hub.requests with
  | r :: rs => s.withHub { s.hub with agent := .decoding r s.now, requests := rs }
  | [] => s.withHub { s.hub with agent := .idle }

/-- What the execution of a request gives: the state, the status, and the body of its REPLY. -/
structure Executed where
  state : State
  status : Status
  body : List Byte

/-- The open body of a READ or WRITE REPLY whose request was not executed, within a frame's 250 payload bytes (log entry
7); the other kinds have none. -/
def openBody (payload : List Byte) (s : State) : List Byte :=
  if u8 payload 1 = 1 ∨ u8 payload 1 = 2 then (Sys2Proof.Config.freeBody s.free).take 247 else []

/-- A request refused by the Hub Agent before any owner saw it. -/
def notExecuted (payload : List Byte) (status : Status) (s : State) : Executed :=
  ⟨s.withFree (s.free + 1), status, openBody payload s⟩

/-- Checks 2 and 3 of R158 in their order, then the kind's own execution. -/
def checkedExecution (payload : List Byte) (execute : State → Executed) (s : State) : Executed :=
  if s.loader.running && u8 payload 1 != 6 then notExecuted payload .busy s
  else if payloadFits payload then execute s
  else ⟨s, .malformed, []⟩

/-- The execution event of a request at the end of its decode (R158): the owner's effect, the REPLY, the next request. When
no such decode ends now, no such event takes place (log entry 1). -/
def executeRequest (payload : List Byte) (execute : State → Executed) (s : State) :
    Host.Outcome State Fault Refusal :=
  if decodeEnds payload s then
    let e := checkedExecution payload execute s
    finish (nextRequest (placeReply payload e.status e.body e.state))
  else .next s

/-- An action of R162: its REPLY carries the owner's status and no body. -/
def actionReply (r : State × Status) : Executed := ⟨r.1, r.2, []⟩

/-- An event that takes place only when it is due; otherwise nothing happens (log entry 1). -/
def whenDue (due : Bool) (event : State → State) (s : State) : Host.Outcome State Fault Refusal :=
  if due then finish (event s) else .next s

end Sys2Proof.Machine
end

