-- ==== Sys2Proof/Machine/SeatOps.lean ====
section
/-! DEFINITION. What other blocks ask of the Seat Directory and of the Feedback Queues (chapters 2 and 3.6): queuing a
position, lamp requests, bulk lamp changes, presence, pending teams, and the counts derived from the Seat Table. -/

namespace Sys2Proof.Machine

/-! ## Seat numbers -/

/-- The row port of a seat: seat number = port × 64 + position. -/
def portOf (k : Fin 256) : Fin 4 := ⟨k.val / 64, by omega⟩

/-- The position of a seat on its row port. -/
def posOf (k : Fin 256) : Fin 64 := ⟨k.val % 64, by omega⟩

/-- The seat at a position of a port. -/
def seatOf (p : Fin 4) (pos : Fin 64) : Fin 256 := ⟨p.val * 64 + pos.val, by omega⟩

/-! ## Feedback Queues (R51, R53) -/

/-- The Feedback Queue emptied: the queued flag of every position that was in it is cleared (R38, R51). -/
def emptyFeedback (p : Fin 4) (s : State) : State :=
  (s.mapSeats fun k seat =>
    if portOf k = p ∧ posOf k ∈ s.ports[p].feedback then { seat with queued := false } else seat).setPort p
    { s.ports[p] with feedback := [] }

/-- A lamp sweep starts or restarts (R53). -/
def startLampSweep (p : Fin 4) (s : State) : State :=
  (emptyFeedback p s).setPort p { s.ports[p] with feedback := [], lampNext := some 0 }

/-- A request to queue seat k's position for feedback, as its port acts on it (R51). -/
def queueFeedback (k : Fin 256) (s : State) : State :=
  let port := s.ports[portOf k]
  if port.state ≠ .sweeping then s
  else if port.cfg.positions ≤ (posOf k).val then s
  else if posOf k ∈ port.feedback then s
  else if port.feedback.length < 16 then
    (s.setSeat k { s.seats[k] with queued := true }).setPort (portOf k)
      { port with feedback := port.feedback ++ [posOf k] }
  else startLampSweep (portOf k) s

/-! ## Lamps (R39, R40) -/

/-- A single-seat lamp request (R39). -/
def requestLamp (k : Fin 256) (lamp : Lamp) (s : State) : State :=
  if s.seats[k].lamp = lamp then s else queueFeedback k (s.setSeat k { s.seats[k] with lamp := lamp })

/-- Every lamp that `keep` does not keep becomes OFF, without queuing feedback (R40). -/
def lampsOff (keep : Lamp → Bool) (s : State) : State :=
  s.mapSeats fun _ seat => if keep seat.lamp then seat else { seat with lamp := .off }

/-- The lamps that stay lit at the end of a commit pass (R21 step 3). -/
def isResultLamp : Lamp → Bool
  | .right => true
  | .wrong => true
  | _ => false

/-! ## Presence (R34 to R36) -/

/-- A seat's presence set, with a SEAT event of cause PRESENCE when it changes and `loud` is set. -/
def setPresence (loud : Bool) (k : Fin 256) (seat : Seat) (s : State) : State :=
  let changed := seat.presence ≠ s.seats[k].presence
  raiseSeat k { Causes.none with presence := loud && decide changed } (s.setSeat k seat)

/-- Missed checks raised by 1, saturating at 3 (R34, R35). -/
def missedMore (n : Nat) : Nat := min (n + 1) 3

/-- An end-of-sweep report for seat k (R34, R35). -/
def reportCheck (answered roll : Bool) (k : Fin 256) (s : State) : State :=
  let seat := s.seats[k]
  if answered then s.setSeat k { seat with missed := 0 }
  else if roll then
    setPresence true k { seat with missed := missedMore seat.missed, presence := .absent, battery := false } s
  else if seat.presence = .present ∧ missedMore seat.missed = 3 then
    setPresence true k { seat with missed := missedMore seat.missed, presence := .silent } s
  else s.setSeat k { seat with missed := missedMore seat.missed }

/-- The seats of a port, by ascending position. This is the order in which a STOP and a break raise the SEAT events of the
port's seats: DESIGN CHOICE, the manual gives none (log entry 28). -/
def portSeats (p : Fin 4) : List (Fin 256) := (List.finRange 64).map (seatOf p)

/-- A break begins on port p (R36): its seats below the positions count become SILENT. -/
def silencePort (p : Fin 4) (s : State) : State :=
  ((portSeats p).filter fun k => (posOf k).val < s.ports[p].cfg.positions).foldl
    (fun s k => setPresence true k { s.seats[k] with presence := .silent } s) s

/-- Port p is stopped (R36): all its seats become ABSENT. A warm restart raises no SEAT event (R26). -/
def absentPort (loud : Bool) (p : Fin 4) (s : State) : State :=
  (portSeats p).foldl
    (fun s k => setPresence loud k { s.seats[k] with presence := .absent, missed := 0, battery := false } s) s

/-- How many of a port's seats below the positions count have a presence (R35). -/
def presenceCount (p : Fin 4) (x : Presence) (s : State) : Nat :=
  ((portSeats p).filter fun k => (posOf k).val < s.ports[p].cfg.positions && s.seats[k].presence == x).length

/-! ## Teams (R27 to R30) -/

/-- The member count of a team (R30). -/
def memberCount (t : Fin 16) (s : State) : Nat :=
  ((List.finRange 256).filter fun k => s.seats[k].team == some t).length

/-- The present count of a team (R30). -/
def presentCount (t : Fin 16) (s : State) : Nat :=
  ((List.finRange 256).filter fun k => s.seats[k].team == some t && s.seats[k].presence == .present).length

/-- The claims on a team by the seats other than k (R27): current teams, and pending teams. -/
def claims (t : Fin 16) (k : Fin 256) (s : State) : Nat :=
  ((List.finRange 256).filter fun j => j ≠ k && s.seats[j].team == some t).length
    + ((List.finRange 256).filter fun j => j ≠ k && s.seats[j].pending == some (some t)).length

/-- One seat's pending team applied (R29). -/
def applyPendingSeat (loud : Bool) (k : Fin 256) (s : State) : State :=
  match s.seats[k].pending with
  | none => s
  | some t =>
    raiseSeat k { Causes.none with team := loud && decide (t ≠ s.seats[k].team) }
      (s.setSeat k { s.seats[k] with team := t, pending := none })

/-- Every pending team applied, in ascending seat number (R29). -/
def applyPending (loud : Bool) (s : State) : State :=
  (List.finRange 256).foldl (fun s k => applyPendingSeat loud k s) s

/-- The seat's team may answer or buzz: it is not none, active, and in the eligible set (R77, R91). -/
def eligibleTeam (team : Option (Fin 16)) (s : State) : Option (Fin 16) :=
  match team with
  | some t => if s.teams[t].active && (headerQuestion s).eligible.mem t then some t else none
  | none => none

end Sys2Proof.Machine
end

