-- ==== Sys2Proof/Machine/BuzzOps.lean ====
section
/-! DEFINITION. The commit walk's beginning, the moves of the round state, and the Buzz Arbiter's operations (chapters 1 and
6): opening, closing, ending and cancelling a question, the grant test, the floor and its release. -/

namespace Sys2Proof.Machine

/-! ## Moves of the round state (R25) -/

/-- A seat counts as attending for a team (R18): its team field names the team, and it is PRESENT or ANSWERED; on an
ESTIMATE question it must be of class DIGIT too. -/
def attends (s : State) (t : Fin 16) (k : Fin 256) : Bool :=
  s.seats[k].team == some t
    && (s.seats[k].presence == .present || s.resp.records[k].state == .answered)
    && (s.resp.header.kind != some .estimate || s.seats[k].cls == some .digit)

/-- The attendance counts of this moment (R18). -/
def attendance (s : State) : Vector Nat 16 :=
  Vector.ofFn fun t => ((List.finRange 256).filter (attends s t)).length

/-- The attendance snapshot is taken (R18). -/
def takeSnapshot (s : State) : State := s.withRound { s.round with snapshot := some (attendance s) }

/-- The round state changes, with its STATE notice (R25), which carries the snapshot when `withSnapshot` is set. -/
def moveRound (st : RoundState) (withSnapshot : Bool) (s : State) : State :=
  raiseNotice (.roundState st s.round.current s.round.closedMark (if withSnapshot then s.round.snapshot else none))
    (s.withRound { s.round with state := st })

/-! ## Commit passes begin (R109) -/

/-- The Score Unit begins a commit pass (R109). -/
def beginWalk (s : State) : State :=
  s.withScore { s.score with walk :=
    ⟨true, s.now, 0, Vector.replicate 16 0, Vector.replicate 16 0, Vector.replicate 16 0⟩ }

/-- The round state becomes COMMITTING and the commit pass begins (R20). -/
def enterCommitting (withSnapshot : Bool) (s : State) : State := beginWalk (moveRound .committing withSnapshot s)

/-! ## The end of a question (R20, R90) -/

/-- The Buzz Arbiter stops both timers and holds no floor any more (R90); the release of a holder is reported. -/
def releaseFloor (s : State) : State :=
  let s' := s.withBuzz { s.buzz with held := false, headTimer := none, answerTimer := none }
  if s.buzz.held then reportBuzz s' else s'

/-- A question ends (R20): neither of its timers runs in the state it enters (R10). A move out of CLOSING takes the snapshot
and carries it (R18). -/
def endQuestion (s : State) : State :=
  let closing := s.round.state == .closing
  let s := releaseFloor s
  let s := s.withRound { s.round with settle := none, window := .stopped }
  let s := if closing then takeSnapshot s else s
  match (currentQuestion s).mode with
  | .held => moveRound .closed closing s
  | .auto => enterCommitting closing s

/-! ## The grant (R96, R97, R19) -/

/-- The Round Engine's part of a grant (R19): from OPEN the window pauses; from CLOSING the settle timer stops, the snapshot
is taken and the window-closed mark is set. The round state becomes FLOOR. -/
def floorGranted (s : State) : State :=
  if s.round.state = .closing then
    let s := takeSnapshot s
    moveRound .floor true (s.withRound { s.round with settle := none, closedMark := true })
  else
    let window := match s.round.window with
      | .running deadline => .paused (since deadline s.now).toNat
      | w => w
    moveRound .floor false (s.withRound { s.round with window := window })

/-- The answer timer a grant starts (R97 step 4). -/
def answerExpiry (s : State) : Option Time :=
  if (headerQuestion s).answerTime = 0 then none else some (after s.now ((headerQuestion s).answerTime * 8000))

/-- The head entry is granted the floor (R97). -/
def grantFloor (e : BuzzEntry) (s : State) : State :=
  let s := reportBuzz (s.withBuzz { s.buzz with held := true, headTimer := none })
  let s := requestLamp e.seat .floor (floorGranted s)
  let s := s.withBuzz { s.buzz with answerTimer := answerExpiry s }
  raiseNotice (.floor s.resp.header.question e s.buzz.stealsUsed s.buzz.answerTimer) s

/-- When the head settle interval ends: head press time + S (R96). -/
def headExpiry (e : BuzzEntry) (s : State) : Time := after e.time (settleTicks (headerQuestion s))

/-- The grant test (R96): in OPEN or CLOSING with no holder, the head is granted at once when its settle interval is over,
and its settle timer is started otherwise. -/
def grantTest (s : State) : State :=
  match s.buzz.queue with
  | [] => s
  | e :: _ =>
    if s.buzz.held ∨ ¬ (s.round.state = .opened ∨ s.round.state = .closing) then s
    else if atOrAfter s.now (headExpiry e s) then grantFloor e s
    else s.withBuzz { s.buzz with headTimer := some (headExpiry e s) }

/-! ## Closing (R15 to R17) -/

/-- The settle timer expires in CLOSING (R17). -/
def settleExpires (s : State) : State :=
  let s := s.withRound { s.round with settle := none }
  if (currentQuestion s).kind = .buzz ∧ s.buzz.queue ≠ [] then grantTest s else endQuestion s

/-- Answering closes in OPEN (R16, R15). A settle of 0 takes the move out of CLOSING in the same event (R17). -/
def closeAnswering (s : State) : State :=
  let ticks := settleTicks (currentQuestion s)
  let s := s.withResp { s.resp with header := { s.resp.header with closeTime := some s.now } }
  let s := s.withRound { s.round with window := .stopped, settle := some (after s.now ticks) }
  let s := moveRound .closing false s
  if ticks = 0 then settleExpires s else s

/-- The action CLOSE (R16). -/
def closeAction (s : State) : State × Status :=
  match s.round.state with
  | .opened => (closeAnswering s, .ok)
  | .floor =>
    if s.round.closedMark then (s, .badState)
    else
      ((s.withResp { s.resp with header := { s.resp.header with closeTime := some s.now } }).withRound
        { s.round with window := .stopped, closedMark := true }, .ok)
  | .idle => (s, .badState)
  | .closing => (s, .badState)
  | .closed => (s, .badState)
  | .committing => (s, .badState)

/-- The action COMMIT (R20). -/
def commitAction (s : State) : State × Status :=
  match s.round.state with
  | .closed => (enterCommitting false s, .ok)
  | .idle => (s, .badState)
  | .opened => (s, .badState)
  | .floor => (s, .badState)
  | .closing => (s, .badState)
  | .committing => (s, .badState)

/-- A CANCEL that is taken (R22, R104). -/
def cancelQuestion (s : State) : State :=
  let s := releaseFloor (s.withRound { s.round with window := .stopped, settle := none })
  lampsOff (fun _ => false) (applyPending true (moveRound .idle false s))

/-- The action CANCEL (R22). -/
def cancelAction (s : State) : State × Status :=
  match s.round.state with
  | .opened => (cancelQuestion s, .ok)
  | .floor => (cancelQuestion s, .ok)
  | .closing => (cancelQuestion s, .ok)
  | .closed => (cancelQuestion s, .ok)
  | .committing => (s, .busy)
  | .idle => (s, .badState)

/-! ## Opening (R11 to R14) -/

/-- R12 step 1: the array and the tallies are cleared and the header names the question. Unreported TALLY events are built
into a notice of the old question first (R168). -/
def clearResponses (q : Fin 128) (s : State) : State :=
  let s := if s.hub.tallyEvents = 0 then s else buildTally s
  reportTallies (s.withResp
    ⟨⟨some q, some s.questions[q].kind, some s.now, none, false⟩, Vector.replicate 256 Response.reset, Tallies.reset⟩)

/-- R12 step 3: every lamp OFF; reopening the question already current starts a lamp sweep on every SWEEPING port. -/
def openLamps (q : Fin 128) (s : State) : State :=
  let s' := lampsOff (fun _ => false) s
  if s.round.current = some q then
    (List.finRange 4).foldl (fun s p => if s.ports[p].state = .sweeping then startLampSweep p s else s) s'
  else s'

/-- R12 step 4: the Round Record of a question opened now, but for its state. -/
def openedRound (q : Fin 128) (s : State) : Round :=
  { s.round with
    current := some q
    window := .running (after s.now (windowTicks s.questions[q]))
    closedMark := false
    settle := none
    snapshot := none
    lastOpened := some q }

/-- An open of question q (R12). -/
def openQuestion (q : Fin 128) (s : State) : State :=
  let s := reportBuzz ((clearResponses q s).withBuzz Buzz.reset)
  let s := openLamps q s
  moveRound .opened false (s.withRound (openedRound q s))

/-- A question number whose record is not EMPTY (R11). -/
def openable (q : Option (Fin 128)) (s : State) : Option (Fin 128) :=
  match q with
  | some n => if s.questions[n].kind = .empty then none else some n
  | none => none

/-- OPEN of a chosen question, by round state (R11, R13). -/
def openChosen (q : Option (Fin 128)) (s : State) : State × Status :=
  match s.round.state with
  | .idle =>
    match openable q s with
    | some n => (openQuestion n s, .ok)
    | none => (s, .badValue)
  | .committing =>
    match openable q s with
    | some n => (s.withRound { s.round with pendingOpen := some n }, .ok)
    | none => (s, .badValue)
  | .opened => (s, .badState)
  | .floor => (s, .badState)
  | .closing => (s, .badState)
  | .closed => (s, .badState)

/-- The action OPEN q (R11). -/
def openAction (q : Byte) (s : State) : State × Status := openChosen (finOf 128 q.toNat) s

/-- The question NEXT chooses (R13). -/
def nextQuestion (s : State) : Option (Fin 128) :=
  (List.finRange 128).find? fun q =>
    s.questions[q].kind != .empty &&
      (match s.round.lastOpened with
       | some l => l.val < q.val
       | none => true)

/-- The action NEXT (R13). -/
def nextAction (s : State) : State × Status := openChosen (nextQuestion s) s

/-- The pending open at the end of a commit pass (R14). -/
def takePendingOpen (s : State) : State :=
  match s.round.pendingOpen with
  | none => s
  | some q =>
    let s := s.withRound { s.round with pendingOpen := none }
    if s.questions[q].kind = .empty then raiseNotice (.openDropped q .badValue) s else openQuestion q s

/-- The Round Engine at the end of a commit pass (R21). -/
def roundAfterCommit (s : State) : State :=
  takePendingOpen (lampsOff isResultLamp (applyPending true (moveRound .idle false s)))

/-! ## Verdicts (R98 to R102) -/

/-- The floor is open again (R19): the window resumes, or the settle timer starts anew when the window has closed. -/
def floorOpenAgain (s : State) : State :=
  if s.round.closedMark then
    moveRound .closing false
      (s.withRound { s.round with settle := some (after s.now (settleTicks (currentQuestion s))) })
  else
    let window := match s.round.window with
      | .paused remainder => .running (after s.now remainder)
      | w => w
    moveRound .opened false (s.withRound { s.round with window := window })

/-- The points of a verdict (R100). -/
def verdictPoints (v : Verdict) (s : State) : Int :=
  match v with
  | .right => if s.buzz.judged = [] then (headerQuestion s).base else (headerQuestion s).stealPoints
  | .wrong => -((headerQuestion s).penalty : Int)
  | .timeout => 0

/-- The lamp of a verdict (R100). -/
def Verdict.lamp : Verdict → Lamp
  | .right => .right
  | .wrong => .wrong
  | .timeout => .wrong

/-- Steals used after the release of a verdict (R101, R102 case 1). -/
def stealsAfter (v : Verdict) (rest : List BuzzEntry) (s : State) : Nat :=
  if v = .right then s.buzz.stealsUsed
  else if s.buzz.stealsUsed < (headerQuestion s).steals ∧ rest ≠ [] then s.buzz.stealsUsed + 1
  else s.buzz.stealsUsed

/-- The release after a WRONG or TIMEOUT (R102), given the steals used before it. -/
def releaseWrong (used : Nat) (s : State) : State :=
  if used < (headerQuestion s).steals ∧ (s.buzz.queue ≠ [] ∨ ¬ s.round.closedMark) then grantTest (floorOpenAgain s)
  else endQuestion s

/-- The verdict recorded (R100): the Judged List entry, the lamp, and the VERDICT notice with the steals used after the
release. The answer timer stops (R99). -/
def recordVerdict (v : Verdict) (e : BuzzEntry) (rest : List BuzzEntry) (s : State) : State :=
  let entry : Judged := ⟨e.team, e.seat, v, verdictPoints v s⟩
  let used := stealsAfter v rest s
  let s := s.withBuzz { s.buzz with judged := s.buzz.judged ++ [entry], answerTimer := none }
  raiseNotice (.verdict s.resp.header.question entry used) (requestLamp e.seat v.lamp s)

/-- A verdict for the holder e, with the queue's rest behind it (R100 to R102). -/
def judgeHolder (v : Verdict) (e : BuzzEntry) (rest : List BuzzEntry) (s : State) : State :=
  let before := s.buzz.stealsUsed
  let used := stealsAfter v rest s
  let s := recordVerdict v e rest s
  if v = .right then endQuestion s
  else
    let s := reportBuzz (s.withBuzz { s.buzz with
      queue := rest
      held := false
      locked := s.buzz.locked.insert e.team
      stealsUsed := used })
    releaseWrong before (reportBuzz s)

/-- The action JUDGE (R98). -/
def judgeAction (team verdict : Byte) (s : State) : State × Status :=
  match finOf 16 team.toNat, Verdict.ofJudge verdict with
  | some t, some v =>
    if s.buzz.judged.any (fun j => j.team == t) then (s, .staleJudge)
    else if s.round.state ≠ .floor then (s, .badState)
    else
      match s.buzz.held, s.buzz.queue with
      | true, e :: rest => if e.team = t then (judgeHolder v e rest s, .ok) else (s, .staleJudge)
      | _, _ => (s, .staleJudge)
  | _, _ => (s, .badValue)

/-- The answer timer expires in FLOOR (R99): the holder is judged TIMEOUT. -/
def answerTimeout (s : State) : State :=
  match s.buzz.held, s.buzz.queue with
  | true, e :: rest => judgeHolder .timeout e rest s
  | _, _ => s

/-! ## Buzzes (R91 to R95) -/

/-- The order of the queue: ascending press time, then ascending seat number (R94). -/
def buzzBefore (a b : BuzzEntry) : Bool := earlier a.time b.time || (a.time == b.time && decide (a.seat < b.seat))

/-- An entry put at its place among ordered entries (R94). -/
def insertBuzz (e : BuzzEntry) : List BuzzEntry → List BuzzEntry
  | [] => [e]
  | x :: xs => if buzzBefore e x then e :: x :: xs else x :: insertBuzz e xs

/-- Entries with the press time of a new one have their TIE mark set (R94). -/
def markTies (time : Time) (q : List BuzzEntry) : List BuzzEntry :=
  q.map fun x => if x.time = time then { x with tie := true } else x

/-- The new entry with its OVERTAKEN mark (R95) and TIE mark (R94). -/
def newEntry (k : Fin 256) (t : Fin 16) (time : Time) (marks : Marks) (b : Buzz) : BuzzEntry :=
  let e : BuzzEntry := ⟨k, t, time, marks, false, b.queue.any fun x => x.time == time⟩
  match b.held, b.queue with
  | true, h :: _ => { e with overtaken := buzzBefore e h }
  | _, _ => e

/-- The queue with a new entry: behind the holder while the floor is held (R95), in order of the whole queue otherwise
(R94). -/
def queueWith (e : BuzzEntry) (b : Buzz) : List BuzzEntry :=
  match b.held, markTies e.time b.queue with
  | true, h :: rest => h :: insertBuzz e rest
  | _, q => insertBuzz e q

/-- A buzz that passes every test is inserted (R94, R95). A new head is put to the grant test at once (R96). -/
def insertEntry (k : Fin 256) (t : Fin 16) (time : Time) (marks : Marks) (s : State) : State :=
  let e := newEntry k t time marks s.buzz
  let queue := queueWith e s.buzz
  let place := (queue.findIdx fun x => x.team == t) + 1
  let held := s.buzz.held
  let s := reportBuzz (s.withBuzz { s.buzz with queue := queue })
  let s := raiseNotice (.buzzQueued s.resp.header.question e place) (requestLamp k .queued s)
  if place = 1 ∧ held = false then grantTest s else s

/-- A false start (R92): the seat's record is locked (R83), its lamp is LOCKED, and the event is raised. -/
def falseStart (k : Fin 256) (t : Fin 16) (time : Time) (marks : Marks) (s : State) : State :=
  let s := s.withResp { s.resp with records := s.resp.records.set k ⟨.locked, none, none, 0, s.resp.records[k].points⟩ }
  raiseNotice (.falseStart s.resp.header.question k t time marks) (requestLamp k .locked s)

/-- A press time is at or after the close time, when one is set (R79, R93). -/
def isLate (time : Time) (s : State) : Bool :=
  match s.resp.header.closeTime with
  | some c => atOrAfter time c
  | none => false

/-- A press time is earlier than the open time (R78, R92). -/
def isEarly (time : Time) (s : State) : Bool :=
  match s.resp.header.openTime with
  | some o => earlier time o
  | none => false

/-- A press time is earlier than open time − G, so that the buzz is stray (R92). -/
def isStray (time : Time) (s : State) : Bool :=
  match s.resp.header.openTime with
  | some o => earlier time (o - BitVec.ofNat 32 ((headerQuestion s).guard * 80))
  | none => false

/-- The Buzz Arbiter takes a BUZZ key: the eight tests of section 6.2 in order (R91 to R95). -/
def takeBuzz (k : Fin 256) (team : Option (Fin 16)) (time : Time) (marks : Marks) (s : State) : State :=
  match eligibleTeam team s with
  | none => requestLamp k .notEligible s
  | some t =>
    if s.buzz.locked.mem t then
      if s.buzz.judged.any (fun j => j.seat == k) then s else requestLamp k .locked s
    else
      match s.buzz.queue.find? (fun e => e.team == t) with
      | some e => if e.seat = k then s else requestLamp k .queued s
      | none =>
        if s.resp.records[k].state = .locked then requestLamp k .locked s
        else if isStray time s then s
        else if isEarly time s then falseStart k t time marks s
        else if isLate time s then s
        else insertEntry k t time marks s

end Sys2Proof.Machine
end

