-- ==== Sys2Proof/Machine/PressOps.lean ====
section
/-! DEFINITION. From an Inbox to the record of an answer: the arbiter and the stamp (chapter 4), the Seat Directory's taking
of a frame (2.3, 2.5), the routing of a press (R23) and the Response Collector's judgement (chapter 5). -/

namespace Sys2Proof.Machine

/-! ## The Press Stamper (R65 to R71) -/

/-- The port the arbiter chooses (R66): the first after the last-served port whose Inbox holds an entry. -/
def arbiterChoice (s : State) : Option (Fin 4) :=
  [s.stamper.lastServed + 1, s.stamper.lastServed + 2, s.stamper.lastServed + 3, s.stamper.lastServed].find?
    fun p => s.ports[p].inbox ≠ []

/-- The departure time a reference stands for, when it is valid (R68). -/
def validReference (p : Fin 4) (e : InboxEntry) (reference : Fin 16) (s : State) : Option Time :=
  match s.stamper.history[p][reference] with
  | some b => if (e.sequence - reference).val ≤ 7 ∧ since b e.departure ≤ 0 then some b else none
  | none => none

/-- The press time and marks of a PRESS or DIGITS frame (R69, R70, R71). -/
def stampTime (p : Fin 4) (e : InboxEntry) (reference : Fin 16) (offset : Nat) (s : State) : Time × Marks :=
  let skew := s.ports[p].cfg.skew
  let valid := validReference p e reference s
  let raw := match valid with
    | some b => after (after b skew) offset
    | none => after e.departure skew
  if since raw e.arrival ≤ 0 then (raw, ⟨valid.isNone, false, e.overrun⟩)
  else (e.arrival, ⟨valid.isNone, true, e.overrun⟩)

/-- The stamp of an Inbox entry (R67 to R71): none for a HELLO. -/
def stampOf (p : Fin 4) (e : InboxEntry) (s : State) : Option (Time × Marks) :=
  match e.frame with
  | .hello _ _ => none
  | .press _ _ reference offset => some (stampTime p e reference offset s)
  | .digits _ _ reference offset => some (stampTime p e reference offset s)

/-- The Press Stamper takes the oldest entry of port p's Inbox (R65). -/
def takeEntry (p : Fin 4) (s : State) : State :=
  match s.ports[p].inbox with
  | [] => s
  | e :: rest =>
    (s.setPort p { s.ports[p] with inbox := rest }).withStamper
      { s.stamper with lastServed := p, inHand := some ⟨p, e.position, e.frame, stampOf p e s⟩ }

/-! ## The Response Collector (R77 to R87) -/

/-- The tally of one option moved by a signed amount (R80, R81). -/
def Tallies.bump (t : Tallies) (k : Fin 6) (up : Bool) : Tallies :=
  { t with counts := t.counts.set k (if up then t.counts[k] + 1 else t.counts[k] - 1) }

/-- The option tallies moved by an answer (R80, R81); a value moves none (R82). -/
def Tallies.move (t : Tallies) (a : Answer) (up : Bool) : Tallies :=
  match a with
  | .option k => t.bump k up
  | .value _ => t

/-- An ANSWER event, when the team is mirrored (R86). -/
def raiseAnswer (k : Fin 256) (t : Fin 16) (a : Answer) (time : Time) (marks : Marks) (s : State) : State :=
  if s.hub.config.mirror.mem t then
    raiseNotice (.answer k t s.resp.header.question a time marks s.resp.records[k].changes) s
  else s

/-- Seat k's record and the live tallies are set. A movement of the tallies is reported to the Composer (R84); a changed value of
an ESTIMATE question moves none (R82). -/
def recordAnswer (k : Fin 256) (record : Response) (tallies : Tallies) (s : State) : State :=
  let s' := s.withResp { s.resp with records := s.resp.records.set k record, tallies := tallies }
  if tallies = s.resp.tallies then s' else reportTallies s'

/-- What follows a first answer or an accepted change: the lamp, the TALLY event and the ANSWER event (R80 steps 3 to 5, R81). -/
def answerTaken (k : Fin 256) (t : Fin 16) (a : Answer) (time : Time) (marks : Marks) (s : State) : State :=
  raiseAnswer k t a time marks (raiseTally (requestLamp k .answered s))

/-- A seat's first answer (R80). -/
def firstAnswer (k : Fin 256) (t : Fin 16) (a : Answer) (time : Time) (marks : Marks) (s : State) : State :=
  let record : Response := { s.resp.records[k] with state := .answered, answer := some a, pressTime := some time, changes := 0 }
  let tallies := s.resp.tallies.move a true
  answerTaken k t a time marks (recordAnswer k record { tallies with answered := tallies.answered + 1 } s)

/-- An accepted change of answer (R81). -/
def acceptedChange (k : Fin 256) (t : Fin 16) (old a : Answer) (time : Time) (marks : Marks) (s : State) : State :=
  let record := s.resp.records[k]
  answerTaken k t a time marks (recordAnswer k
    { record with answer := some a, pressTime := some time, changes := record.changes + 1 }
    ((s.resp.tallies.move old false).move a true) s)

/-- A press taken as an answer (R80, R81). -/
def takeAnswer (k : Fin 256) (t : Fin 16) (a : Answer) (time : Time) (marks : Marks) (s : State) : State :=
  match s.resp.records[k].state, s.resp.records[k].answer with
  | .answered, some old =>
    if old = a then s
    else if s.resp.records[k].changes < (headerQuestion s).changeLimit then acceptedChange k t old a time marks s
    else requestLamp k .locked s
  | _, _ => firstAnswer k t a time marks s

/-- The state an EARLY press leaves (R78), and the state a LATE press leaves (R79). -/
def ResponseState.afterEarly : ResponseState → ResponseState
  | .none => .early
  | x => x

def ResponseState.afterLate : ResponseState → ResponseState
  | .none => .late
  | .early => .late
  | x => x

/-- Seat k's record put in a state (R78, R79). -/
def setResponseState (k : Fin 256) (x : ResponseState) (s : State) : State :=
  s.withResp { s.resp with records := s.resp.records.set k { s.resp.records[k] with state := x } }

/-- The order of section 5.2 from the eligibility test on: `answer` is none for a key or a value that is ignored. -/
def judgePress (k : Fin 256) (team : Option (Fin 16)) (answer : Option Answer) (time : Time) (marks : Marks) (s : State) :
    State :=
  match eligibleTeam team s, answer with
  | none, _ => requestLamp k .notEligible s
  | some _, none => s
  | some t, some a =>
    if isEarly time s then setResponseState k s.resp.records[k].state.afterEarly s
    else if isLate time s then setResponseState k s.resp.records[k].state.afterLate s
    else takeAnswer k t a time marks s

/-- Keys A..F name options 1..6; a key is an option at or below the options count (R77). -/
def keyAnswer (key : Byte) (options : Nat) : Option Answer :=
  match finOf 6 key.toNat with
  | some k => if k.val < options then some (.option k) else none
  | none => none

/-- The class and value test of R82. -/
def valueAnswer (cls : Option HandsetClass) (value : Nat) : Option Answer :=
  if cls = some .digit ∧ value ≤ 9999 then some (.value value) else none

/-- A HELP key (R87). -/
def takeHelp (k : Fin 256) (team : Option (Fin 16)) (time : Time) (marks : Marks) (s : State) : State :=
  raiseNotice (.help k team s.round.state s.resp.header.question time marks) s

/-! ## Routing (R23) -/

/-- A question is being answered: the round states in which the Response Collector is given presses. -/
def collecting (s : State) : Bool := s.round.state == .opened || s.round.state == .closing

/-- The Round Engine routes a PRESS (R23, R177). Key codes: A..F 0..5, BUZZ 6, HELP 7. -/
def routeKey (k : Fin 256) (team : Option (Fin 16)) (key : Byte) (time : Time) (marks : Marks) (s : State) : State :=
  if 7 < key.toNat then s
  else if key = 7 then takeHelp k team time marks s
  else
    match s.resp.header.kind with
    | some .choice => if collecting s then judgePress k team (keyAnswer key (headerQuestion s).options) time marks s else s
    | some .poll => if collecting s then judgePress k team (keyAnswer key (headerQuestion s).options) time marks s else s
    | some .buzz =>
      if key = 6 ∧ (collecting s ∨ s.round.state = .floor) then takeBuzz k team time marks s else s
    | some .estimate => s
    | some .empty => s
    | none => s

/-- The Round Engine routes a DIGITS frame (R23). -/
def routeDigits (k : Fin 256) (team : Option (Fin 16)) (value : Nat) (time : Time) (marks : Marks) (s : State) : State :=
  if s.resp.header.kind = some .estimate ∧ collecting s then
    judgePress k team (valueAnswer s.seats[k].cls value) time marks s
  else s

/-! ## The Seat Directory takes a frame (R32, R33, R37) -/

/-- The seat record after step 1 of R32. -/
def Seat.heard (seat : Seat) : Seat := { seat with missed := 0, presence := .present }

/-- A HELLO's class and battery flag recorded (R33); a class code above 2 leaves the class (R177). -/
def Seat.hello (seat : Seat) (cls : Byte) (battery : Bool) : Seat :=
  { seat with cls := (match HandsetClass.ofCode cls with | some c => some c | none => seat.cls), battery := battery }

/-- The causes of the SEAT event of a frame (R32 step 5, R41). -/
def frameCauses (old new : Seat) : Causes :=
  ⟨decide (old.presence ≠ new.presence), decide (old.cls ≠ new.cls), !old.battery && new.battery, false⟩

/-- A HELLO taken (R32, R33). -/
def takeHello (k : Fin 256) (cls : Byte) (battery : Bool) (s : State) : State :=
  let old := s.seats[k]
  let new := old.heard.hello cls battery
  raiseSeat k (frameCauses old new) (s.setSeat k new)

/-- A PRESS or DIGITS frame taken (R32): presence, the duplicate test (R37), the feedback request, the SEAT event, and then
the dispatch of a press that is no duplicate. -/
def takePress (k : Fin 256) (number : Fin 4) (route : State → State) (s : State) : State :=
  let old := s.seats[k]
  let new := { old.heard with lastPress := some number }
  let s := raiseSeat k (frameCauses old new) (queueFeedback k (s.setSeat k new))
  if old.lastPress = some number then s else route s

/-- The stamped frame taken by the Seat Directory (R32): discarded when its port is not SWEEPING. -/
def takeFrame (f : Stamped) (s : State) : State :=
  let k := seatOf f.port f.position
  if s.ports[f.port].state ≠ .sweeping then s
  else
    match f.frame, f.stamp with
    | .hello cls battery, _ => takeHello k cls battery s
    | .press key number _ _, some (time, marks) =>
      takePress k number (routeKey k s.seats[k].team key time marks) s
    | .digits value number _ _, some (time, marks) =>
      takePress k number (routeDigits k s.seats[k].team value time marks) s
    | .press _ _ _ _, none => s
    | .digits _ _ _ _, none => s

/-- The hand-off (R65): the Press Stamper holds nothing once the Seat Directory has taken the frame. -/
def handOff (f : Stamped) (s : State) : State :=
  takeFrame f (s.withStamper { s.stamper with inHand := none })

end Sys2Proof.Machine
end

