-- ==== Sys2Proof/Machine/PortOps.lean ====
section
/-! DEFINITION. The Row Port Controllers' operations (chapter 3): starting and stopping, beacons and their check positions
and feedback entries, the reports at the end of a sweep, reception and the Inbox, and line breaks. -/

namespace Sys2Proof.Machine

/-! ## START and STOP (R45, R47) -/

/-- The port enters WAKING and starts its wake timer (R45): 160 ticks. -/
def wakePort (p : Fin 4) (s : State) : State :=
  s.setPort p { s.ports[p] with state := .waking, wakeTimer := some (after s.now 160) }

/-- START on a port (R45). -/
def startPort (p : Fin 4) (s : State) : State × Status :=
  if s.ports[p].state = .stopped then (wakePort p s, .ok) else (s, .badState)

/-- Every written flag of a port's Beacon History is cleared (R64). -/
def clearHistory (p : Fin 4) (s : State) : State :=
  s.withStamper { s.stamper with history := s.stamper.history.set p (Vector.replicate 16 none) }

/-- The port's own part of a STOP (R47): everything but PORTCFG, the check pointer and the latched flags is stopped or
emptied. -/
def Port.stopped (p : Port) : Port :=
  { p with
    state := .stopped
    lastSequence := 15
    wakeTimer := none
    sweepTimer := none
    idleTimer := none
    sweep := none
    inbox := []
    feedback := []
    lampNext := none
    roll := none }

/-- STOP on a port (R47). A warm restart takes it without SEAT events (R60). -/
def stopPort (loud : Bool) (p : Fin 4) (s : State) : State :=
  let s := emptyFeedback p s
  absentPort loud p (clearHistory p (s.setPort p s.ports[p].stopped))

/-! ## Roll calls (R54) -/

/-- A roll call starts (R54): the pointer is 0 and the pass has ceil(positions / 4) beacons. -/
def startRoll (p : Fin 4) (s : State) : State :=
  s.setPort p { s.ports[p] with checkPointer := 0, roll := some ((s.ports[p].cfg.positions + 3) / 4) }

/-- A ROLL_CALL request (R54). -/
def rollCall (p : Fin 4) (s : State) : State × Status :=
  if s.ports[p].state ≠ .sweeping then (s, .badState)
  else if s.ports[p].roll.isSome then (s, .busy)
  else (startRoll p s, .ok)

/-! ## Beacons (R49, R50, R52, R53) -/

/-- A position number, taken into 0..63. -/
def position (n : Nat) : Fin 64 := ⟨n % 64, Nat.mod_lt _ (by decide)⟩

/-- This beacon belongs to a roll-call pass (R54): beacons are still to build in it. -/
def Port.inRoll (p : Port) : Bool :=
  match p.roll with
  | some (_ + 1) => true
  | _ => false

/-- The check pointer as a beacon build takes it (R50). -/
def Port.pointer (p : Port) : Nat := if p.cfg.positions ≤ p.checkPointer then 0 else p.checkPointer

/-- How many positions this beacon checks (R50): up to 4, and within a roll-call pass no further than its end. -/
def Port.checkCount (p : Port) : Nat :=
  if p.inRoll then min 4 (p.cfg.positions - p.pointer) else min 4 p.cfg.positions

/-- The check positions of this beacon (R50), upward from the pointer and wrapping. -/
def Port.checks (p : Port) : List (Fin 64) :=
  (List.range p.checkCount).map fun i => position ((p.pointer + i) % p.cfg.positions)

/-- The positions a running lamp sweep puts into this beacon (R53): up to 6, ascending. -/
def Port.lampPositions (p : Port) : List (Fin 64) :=
  match p.lampNext with
  | some n => (List.range (min 6 (p.cfg.positions - n))).map fun i => position (n + i)
  | none => []

/-- The lamp-sweep progress after this beacon (R53): none once the beacon has carried the last position. -/
def Port.lampAfter (p : Port) : Option Nat :=
  match p.lampNext with
  | some n => if p.cfg.positions ≤ n + 6 then none else some (n + 6)
  | none => none

/-- How many queued positions this beacon takes (R52, R53): what the lamp sweep leaves of 6, and none while it goes on. -/
def Port.queueRoom (p : Port) : Nat :=
  match p.lampAfter with
  | some _ => 0
  | none => 6 - p.lampPositions.length

/-- One feedback entry, read from the seat record now (R52). -/
def feedbackEntry (p : Fin 4) (s : State) (pos : Fin 64) : Feedback :=
  ⟨pos, s.seats[seatOf p pos].lastPress, s.seats[seatOf p pos].lamp⟩

/-- The beacon port p builds now (R49). -/
def builtBeacon (p : Fin 4) (s : State) : Beacon where
  sequence := s.ports[p].lastSequence + 1
  summary := roundSummary s
  roll := s.ports[p].inRoll
  checks := s.ports[p].checks
  feedback := (s.ports[p].lampPositions ++ s.ports[p].feedback.take s.ports[p].queueRoom).map (feedbackEntry p s)

/-- Port p after it has built a beacon and sent it now (R48 to R53). -/
def Port.afterBeacon (p : Port) (b : Beacon) (now : Time) : Port :=
  { p with
    lastSequence := b.sequence
    sweepTimer := some (after now (p.cfg.period * 8))
    sweep := some ⟨b, b.bytes, now, [], [], false, p.sweep.isNone⟩
    feedback := p.feedback.drop p.queueRoom
    lampNext := p.lampAfter
    checkPointer := (p.pointer + p.checkCount) % p.cfg.positions
    roll := match p.roll with
      | some (n + 1) => some n
      | r => r }

/-- A sweep starts (R48): the beacon departs, the positions it took from the queue are no longer queued, and the Press
Stamper records the departure (R63). -/
def startSweep (p : Fin 4) (s : State) : State :=
  let port := s.ports[p]
  let b := builtBeacon p s
  let s := s.mapSeats fun k seat =>
    if portOf k = p ∧ posOf k ∈ port.feedback.take port.queueRoom then { seat with queued := false } else seat
  let s := s.setPort p (port.afterBeacon b s.now)
  s.withStamper { s.stamper with
    history := s.stamper.history.set p (s.stamper.history[p].set b.sequence (some s.now)) }

/-- The wake timer expires (R46). -/
def enterSweeping (p : Fin 4) (s : State) : State :=
  let s := s.setPort p { s.ports[p] with state := .sweeping, wakeTimer := none }
  startSweep p (startLampSweep p (startRoll p s))

/-! ## The end of a sweep (R48, R50, R54) -/

/-- The end of the last slot of a sweep (R48). -/
def Port.sweepEnd (p : Port) (sw : Sweep) : Time := after sw.departure (16 + 2 * p.cfg.positions)

/-- The reports of a sweep's check positions (R50). They are all reported at the sweep's end, and the manual gives them no
order: DESIGN CHOICE, the order of the beacon's check list (log entry 28). -/
def reportChecks (p : Fin 4) (sw : Sweep) (s : State) : State :=
  sw.beacon.checks.foldl
    (fun s pos => reportCheck (decide (pos ∈ sw.hellos)) sw.beacon.roll (seatOf p pos) s) s

/-- A roll-call pass is finished (R54): this sweep's beacon was its last. -/
def finishRoll (p : Fin 4) (sw : Sweep) (s : State) : State :=
  if sw.beacon.roll ∧ s.ports[p].roll = some 0 then
    raiseNotice (.rollDone p (presenceCount p .present s) (presenceCount p .absent s) (presenceCount p .silent s))
      (s.setPort p { s.ports[p] with roll := none })
  else s

/-- A sweep ends (R48, R50). -/
def endSweep (p : Fin 4) (sw : Sweep) (s : State) : State :=
  let s := reportChecks p sw (s.setPort p { s.ports[p] with sweep := some { sw with ended := true } })
  finishRoll p sw s

/-! ## Reception (R55, R56) -/

/-- The slot of a reception (R55, R48): the position whose slot holds both the start mark and the last byte. -/
def slotOf (positions : Nat) (departure start last : Time) : Option (Fin 64) :=
  let a := since start departure
  let b := since last departure
  let n := ((a - 16) / 2).toNat
  if 16 ≤ a ∧ 16 ≤ b ∧ (a - 16) / 2 = (b - 16) / 2 ∧ n < positions then some (position n) else none

/-- A good frame enters the Inbox (R56); with 4 entries held it replaces the newest. -/
def Port.enterInbox (p : Port) (e : InboxEntry) : Port :=
  if p.inbox.length < 4 then { p with inbox := p.inbox ++ [e] }
  else { p with inbox := p.inbox.dropLast ++ [{ e with overrun := true }], flagOverrun := true }

/-- A frame that has passed SLOT in the slot of `pos` meets LENGTH and CHECK, and enters the Inbox (R55, R56). A HELLO is
noted for the end-of-sweep report (R50). -/
def Port.slotFrame (p : Port) (sw : Sweep) (pos : Fin 64) (bytes : List Byte) (now : Time) : Port :=
  let used := { sw with usedSlots := pos :: sw.usedSlots }
  if !handsetLengthGood bytes then { p with sweep := some used, flagLength := true }
  else if !handsetCheckGood bytes then { p with sweep := some used, flagCheck := true }
  else
    let hellos := if u8 bytes 0 = 1 then pos :: used.hellos else used.hellos
    ({ p with sweep := some { used with hellos := hellos } }).enterInbox
      ⟨readHandset bytes, pos, now, sw.beacon.sequence, sw.departure, false⟩

/-- The whole ticks a beacon's 660 µs fills: a start mark in one of them would be heard while the FQ256 sends (R55, 12.3). -/
def beaconTicks : Int := 5

/-- A start mark that the port hears (R55): not while the FQ256 sends the beacon of this sweep, nor before it entered SWEEPING.
Before the departure of the first sweep the port was WAKING, BROKEN or STOPPED. -/
def Sweep.hears (sw : Sweep) (start : Time) : Bool :=
  decide (beaconTicks ≤ since start sw.departure) || (!sw.first && decide (since start sw.departure < 0))

/-- A reception ends on a SWEEPING port (R55). It is tested by the slots of the sweep that runs as the reception ends: a frame of the
last slot of one sweep whose reception ends after the next departure has no slot in that one, and sets SLOT (DESIGN CHOICE, log
entry 30). -/
def Port.receive (p : Port) (start last : Time) (bytes : List Byte) (now : Time) : Port :=
  match p.state, p.sweep with
  | .sweeping, some sw =>
    if sw.hears start then
      match slotOf p.cfg.positions sw.departure start last with
      | none => { p with flagSlot := true }
      | some pos => if pos ∈ sw.usedSlots then { p with flagSlot := true } else p.slotFrame sw pos bytes now
    else p
  | _, _ => p

/-! ## Breaks (R57, R58) -/

/-- The ticks for which a line held active from `active` to `now` counts toward a break (R57): those in which the FQ256 did
not send. What lies within the beacon of this sweep does not count, nor what lies before the port entered SWEEPING. -/
def Sweep.activeTicks (sw : Sweep) (active now : Time) : Int :=
  let begun := since active sw.departure
  let run := since now sw.departure
  if beaconTicks ≤ begun then run - begun
  else if sw.first ∨ 0 ≤ begun then run - beaconTicks
  else run - beaconTicks - begun

/-- A line held active from `active` on makes a break now (R57): the beacon of this sweep has been sent (R48), and the line has
been active for more than 8 ticks outside it. -/
def Port.breakDue (p : Port) (active now : Time) : Bool :=
  match p.state, p.sweep with
  | .sweeping, some sw => decide (beaconTicks ≤ since now sw.departure) && decide (8 < sw.activeTicks active now)
  | _, _ => false

/-- The idle timer's run (R58): 400 ticks. -/
def idleExpiry (now : Time) : Time := after now 400

/-- The port's own part of a break's beginning (R57). -/
def Port.broken (p : Port) (lineIdle : Bool) (now : Time) : Port :=
  { p with
    state := .broken
    sweep := none
    sweepTimer := none
    roll := none
    lampNext := none
    feedback := []
    flagBreak := true
    idleTimer := if lineIdle then some (idleExpiry now) else none }

/-- A break begins (R57). -/
def beginBreak (p : Fin 4) (lineIdle : Bool) (s : State) : State :=
  let s := emptyFeedback p s
  let s := silencePort p (s.setPort p (s.ports[p].broken lineIdle s.now))
  raiseNotice (.breakBegin p) s

/-- The line of a BROKEN port changes (R58). -/
def lineChanged (p : Fin 4) (active : Bool) (s : State) : State :=
  s.setPort p { s.ports[p] with idleTimer := if active then none else some (idleExpiry s.now) }

/-- A break ends (R58). -/
def endBreak (p : Fin 4) (s : State) : State :=
  let s := raiseNotice (.breakEnd p) (s.setPort p { s.ports[p] with idleTimer := none })
  wakePort p s

/-- PORT actions name a port 0..3; any other is answered BAD_VALUE and touches no port (R162). -/
def onPort (port : Byte) (act : Fin 4 → State × Status) (s : State) : State × Status :=
  match finOf 4 port.toNat with
  | some p => act p
  | none => (s, .badValue)

/-- STOP as a request takes it: OK in every port state (R47). -/
def stopAction (p : Fin 4) (s : State) : State × Status := (stopPort true p s, .ok)

end Sys2Proof.Machine
end

