-- ==== Sys2Proof/Machine/ScoreOps.lean ====
section
/-! DEFINITION. The Scoreboard Composer's marks, sequences and resting view (chapter 8), and the Score Unit's walk,
application step, REVOKE, ADJUST and CLEAR_SCORES, with the Sorter's publication (chapter 7). -/

namespace Sys2Proof.Machine

/-! ## Reveal sequences (R136 to R138) -/

/-- A step number, taken into 0..63. -/
def stepIndex (n : Nat) : Fin 64 := ⟨n % 64, Nat.mod_lt _ (by decide)⟩

/-- The player in step n of the sequence it holds (R136): the step record is read now. -/
def Playing.inStep (p : Playing) (n : Nat) (r : Step) : Playing :=
  { p with step := n, view := r.view, highlight := r.highlight, invert := r.invert, team := r.team, hold := r.hold }

/-- The player enters step n (R136): a change of the current view. -/
def enterStep (p : Playing) (n : Nat) (s : State) : State :=
  recompose (s.withComp { s.comp with player := .active false (p.inStep n s.comp.steps[stepIndex n]) })

/-- A REVEAL that is taken (R136). -/
def playSequence (n : Fin 16) (s : State) : State :=
  let r := s.comp.sequences[n]
  enterStep ⟨n, r.first, r.count, r.loops, r.first, .blank, 0, false, 0, 0⟩ r.first s

/-- REVEAL s (R136). -/
def revealAction (n : Byte) (s : State) : State × Status :=
  match finOf 16 n.toNat with
  | some k => if s.comp.sequences[k].valid then (playSequence k s, .ok) else (s, .badValue)
  | none => (s, .badValue)

/-- The reveal a commit pass plays (R115 step 7): an invalid sequence is not played, and the pass goes on (R136). -/
def revealAfterCommit (r : Option (Fin 16)) (s : State) : State :=
  match r with
  | some k => if s.comp.sequences[k].valid then playSequence k s else s
  | none => s

/-- STOP_SEQUENCE (R138). -/
def stopSequence (s : State) : State × Status :=
  match s.comp.player with
  | .stopped => (s, .ok)
  | .active _ _ => (recompose (s.withComp { s.comp with player := .stopped }), .ok)

/-- The resting view written (R138): a change of the current view when it differs and the player is STOPPED. -/
def setResting (v : View) (s : State) : State :=
  let s' := s.withHub { s.hub with config := { s.hub.config with resting := v } }
  match s.comp.player with
  | .stopped => if v = s.hub.config.resting then s' else recompose s'
  | .active _ _ => s'

/-- SHOW RESTING (R138). -/
def restingAction (v : Byte) (s : State) : State × Status :=
  match View.ofResting v with
  | some x => (setResting x s, .ok)
  | none => (s, .badValue)

/-! ## Freeze and curtain (R133) -/

def freezeAction (s : State) : State × Status := (s.withComp { s.comp with freeze := true }, .ok)

def thawAction (s : State) : State × Status := (s.withComp { s.comp with freeze := false }, .ok)

def curtainOnAction (s : State) : State × Status :=
  if s.comp.curtain then (s, .ok) else (placeCurtainBlank none (s.withComp { s.comp with curtain := true }), .ok)

def curtainOffAction (s : State) : State × Status :=
  if s.comp.curtain then (placeBurst s.comp.front none (s.withComp { s.comp with curtain := false }), .ok) else (s, .ok)

/-! ## Marks (R131, R137, R139) -/

/-- R131 step 2: a READY back buffer swaps when not frozen, and a burst is placed (R132). -/
def swapBuffers (refresh : Option Byte) (s : State) : State :=
  if s.comp.backState = .ready ∧ ¬ s.comp.freeze then
    let s' := s.withComp { s.comp with front := s.comp.back, back := s.comp.front, backState := .stale }
    if s.comp.curtain then placeCurtainBlank refresh s' else placeBurst s.comp.back refresh s'
  else s

/-- The step being shown has run out its hold (R137). -/
def stepRunsOut (p : Playing) (s : State) : State :=
  if p.step + 1 < p.first + p.count then enterStep p (p.step + 1) s
  else if p.loops then enterStep p p.first s
  else raiseNotice (.sequenceEnded p.sequence) (s.withComp { s.comp with player := .active true { p with hold := 0 } })

/-- R131 step 3: the hold of the step being shown falls by 1 (R137). -/
def countStep (s : State) : State :=
  if s.comp.freeze then s
  else
    match s.comp.player with
    | .active false p =>
      if p.hold ≤ 1 then stepRunsOut p s
      else s.withComp { s.comp with player := .active false { p with hold := p.hold - 1 } }
    | _ => s

/-- The window timer is RUNNING. -/
def windowRuns (s : State) : Bool :=
  match s.round.window with
  | .running _ => true
  | _ => false

/-- R131 step 4: the countdown rule (R128). -/
def countdownRule (s : State) : State :=
  let counts := windowRuns s || s.comp.countdownRunning
  let s' := if counts then reportChange countsCountdown s else s
  s'.withComp { s'.comp with countdownRunning := windowRuns s }

/-- Steps 2 to 4 of a mark (R131); the refresh number is none for an internal mark. -/
def markSteps (refresh : Option Byte) (s : State) : State := countdownRule (countStep (swapBuffers refresh s))

/-- The wall-silent timeout in ticks (R139). -/
def silentTicks (s : State) : Nat := s.hub.config.silentTimeout * 80

/-- R131 step 1: the wall state at a MARK, with RETURN when the wall was silent (R139). -/
def markWall (refresh : Byte) (s : State) : State :=
  let s' := s.withComp { s.comp with
    silentTimer := some (after s.now (silentTicks s))
    silent := false
    markTimer := if s.comp.silent then none else s.comp.markTimer
    lastRefresh := some refresh }
  if s.comp.silent then raiseNotice (.wallReturn refresh) s' else s'

/-- A MARK taken (R131). -/
def takeMark (refresh : Byte) (s : State) : State := markSteps (some refresh) (markWall refresh s)

/-- The wall-silent timer expires (R139). -/
def wallFallsSilent (s : State) : State :=
  raiseNotice (.wallSilent s.comp.lastRefresh) (s.withComp { s.comp with
    silent := true
    silentTimer := none
    markTimer := some (after s.now 320) })

/-- An internal mark (R139, R131). -/
def takeInternalMark (s : State) : State :=
  markSteps none (s.withComp { s.comp with markTimer := some (after s.now 320) })

/-- A compose ends (R130). -/
def endCompose (s : State) : State :=
  if s.comp.recompose then startCompose (s.withComp { s.comp with recompose := false })
  else s.withComp { s.comp with backState := .ready }

/-! ## Seat points (R110 to R112) -/

/-- The bonus of a right answer (R110): L is the press time less the open time. -/
def bonus (q : Question) (l : Int) : Int :=
  if l < windowTicks q then (q.speed : Int) * (windowTicks q - l) / windowTicks q else 0

/-- L of R110, the signed difference of press time and open time. -/
def answerDelay (s : State) (r : Response) : Int :=
  match r.pressTime, s.resp.header.openTime with
  | some p, some o => since p o
  | _, _ => 0

/-- An answer is in the correct set. -/
def rightOption (q : Question) (a : Option Answer) : Bool :=
  match a with
  | some (.option k) => q.correct.getLsbD k.val
  | _ => false

/-- Points of an ANSWERED record on a CHOICE question (R110). -/
def choicePoints (s : State) (q : Question) (r : Response) : Int :=
  if rightOption q r.answer then q.base + bonus q (answerDelay s r) else -(q.penalty : Int)

/-- Points of an ANSWERED record on an ESTIMATE question (R111). -/
def estimatePoints (q : Question) (r : Response) : Int :=
  match r.answer with
  | some (.value v) =>
    let e : Int := ((v : Int) - q.target).natAbs
    if e < q.tolerance then (q.base : Int) * (q.tolerance - e) / q.tolerance else 0
  | _ => 0

/-- Points of a seat on a BUZZ question (R112): the sum of the Judged List entries that name it. -/
def judgedPoints (s : State) (k : Fin 256) : Int :=
  ((s.buzz.judged.filter fun j => j.seat == k).map (·.points)).sum

/-- The points of seat k for the question in the header (R110 to R112). -/
def seatPoints (s : State) (k : Fin 256) : Int :=
  let r := s.resp.records[k]
  match s.resp.header.kind with
  | some .choice => if r.state = .answered then choicePoints s (headerQuestion s) r else 0
  | some .estimate => if r.state = .answered then estimatePoints (headerQuestion s) r else 0
  | some .buzz => judgedPoints s k
  | some .poll => 0
  | some .empty => 0
  | none => 0

/-- The kinds whose walk feeds the running sums (R109): all but BUZZ (R112). On a POLL every seat adds 0 points. -/
def sumsKind (k : Option QKind) : Bool :=
  match k with
  | some .choice => true
  | some .estimate => true
  | some .poll => true
  | _ => false

/-- The team whose running sums a visited seat enters (R109). -/
def summedTeam (s : State) (k : Fin 256) : Option (Fin 16) :=
  if sumsKind s.resp.header.kind && s.resp.records[k].state == .answered then eligibleTeam s.seats[k].team s else none

/-- The running sums with one seat's points added (R109). -/
def Walk.add (w : Walk) (t : Fin 16) (points : Int) : Walk :=
  { w with
    sums := w.sums.set t (w.sums[t] + points)
    answered := w.answered.set t (w.answered[t] + 1)
    correct := w.correct.set t (if 0 < points then w.correct[t] + 1 else w.correct[t]) }

/-- The walk visits seat k (R109). -/
def visitSeat (k : Fin 256) (s : State) : State :=
  let points := seatPoints s k
  let walk := match summedTeam s k with
    | some t => s.score.walk.add t points
    | none => s.score.walk
  (s.withResp { s.resp with records := s.resp.records.set k { s.resp.records[k] with points := some points } }).withScore
    { s.score with walk := { walk with position := s.score.walk.position + 1 } }

/-! ## The application step (R113 to R117) -/

/-- n of R113: the snapshot count, raised to the answered count. -/
def divisor (s : State) (t : Fin 16) : Nat :=
  max ((match s.round.snapshot with
    | some v => v[t]
    | none => 0)) s.score.walk.answered[t]

/-- The mean of R113, rounded to nearest with halves toward plus infinity. -/
def meanPoints (sum : Int) (n : Nat) : Int := if n = 0 then 0 else (2 * sum + n) / (2 * n)

/-- A team's contribution (R112 to R114). -/
def contribution (s : State) (t : Fin 16) : Int :=
  match s.resp.header.kind with
  | some .choice => meanPoints s.score.walk.sums[t] (divisor s t)
  | some .estimate => meanPoints s.score.walk.sums[t] (divisor s t)
  | some .buzz => ((s.buzz.judged.filter fun j => j.team == t).map (·.points)).sum
  | some .poll => 0
  | some .empty => 0
  | none => 0

/-- A team's correct delta (R112 to R114). -/
def correctDelta (s : State) (t : Fin 16) : Nat :=
  match s.resp.header.kind with
  | some .choice => s.score.walk.correct[t]
  | some .estimate => s.score.walk.correct[t]
  | some .buzz => if s.buzz.judged.any (fun j => j.team == t && j.verdict == .right) then 1 else 0
  | some .poll => 0
  | some .empty => 0
  | none => 0

/-- The saturation of a total and of a correct count (R107). -/
def clampTotal (x : Int) : Int := clampInt x (-9999) 99999

def clampCorrect (x : Nat) : Nat := min x 65535

/-- The applied points delta of a commit for one team (R115 step 1). -/
def appliedPoints (s : State) (t : Fin 16) : Int :=
  clampTotal (s.score.table[t].total + contribution s t) - s.score.table[t].total

/-- The applied correct delta of a commit for one team (R115 step 1). -/
def appliedCorrect (s : State) (t : Fin 16) : Nat :=
  clampCorrect (s.score.table[t].correct + correctDelta s t) - s.score.table[t].correct

/-- A team's record after the commit (R115 step 1). -/
def committedScore (s : State) (t : Fin 16) : TeamScore :=
  ⟨clampTotal (s.score.table[t].total + contribution s t), clampCorrect (s.score.table[t].correct + correctDelta s t),
    appliedPoints s t⟩

/-- Either clamp changed its value (R115 step 1). -/
def saturated (s : State) (t : Fin 16) : Bool :=
  clampTotal (s.score.table[t].total + contribution s t) != s.score.table[t].total + contribution s t
    || clampCorrect (s.score.table[t].correct + correctDelta s t) != s.score.table[t].correct + correctDelta s t

/-- Steps 1 to 3 of R115: the table, the Commit Record and the committed flag. -/
def applyCommit (s : State) : State :=
  (s.withScore { s.score with
    table := Vector.ofFn (committedScore s)
    commit := ⟨true, s.resp.header.question, Vector.ofFn (appliedPoints s), Vector.ofFn (appliedCorrect s)⟩ }).withResp
    { s.resp with header := { s.resp.header with committed := true } }

/-- The result lamps (R116), in ascending seat number. -/
def resultLamps (s : State) : State :=
  if (headerQuestion s).resultLamps ∧ s.resp.header.kind = some .choice then
    (List.finRange 256).foldl
      (fun s k =>
        if s.resp.records[k].state = .answered then
          requestLamp k (if rightOption (headerQuestion s) s.resp.records[k].answer then .right else .wrong) s
        else s) s
  else s

/-- The COMMITTED event (R117), of the commit that `before` was in when it was applied. -/
def committedNotice (before s : State) : NoticeBody :=
  .committed s.resp.header.question s.resp.header.kind s.score.commit.points s.score.commit.correct
    (Vector.ofFn fun t => s.score.table[t].total) (Vector.ofFn (saturated before))

/-- The application step (R115), steps 1 to 8. -/
def applicationStep (s : State) : State :=
  let s1 := resultLamps (applyCommit s)
  let s2 := triggerRanking (raiseNotice (committedNotice s s1) s1)
  let s3 := revealAfterCommit (headerQuestion s2).reveal s2
  roundAfterCommit (s3.withScore { s3.score with walk := { s3.score.walk with walking := false } })

/-! ## REVOKE, ADJUST, CLEAR_SCORES (R119 to R121) -/

/-- A team's record after a REVOKE (R119). -/
def revokedScore (s : State) (t : Fin 16) : TeamScore :=
  ⟨s.score.table[t].total - s.score.commit.points[t], s.score.table[t].correct - s.score.commit.correct[t],
    -s.score.commit.points[t]⟩

/-- A REVOKE that is taken (R119). -/
def revoke (s : State) : State :=
  let s' := s.withScore { s.score with
    table := Vector.ofFn (revokedScore s)
    commit := { s.score.commit with valid := false } }
  triggerRanking (raiseNotice
    (.revoked s.score.commit.question s.score.commit.points s.score.commit.correct
      (Vector.ofFn fun t => s'.score.table[t].total)) s')

/-- REVOKE (R119). -/
def revokeAction (s : State) : State × Status :=
  if s.round.state ≠ .idle then (s, .badState)
  else if s.score.commit.valid then (revoke s, .ok)
  else (s, .badValue)

/-- A team's record after an ADJUST by a clamped delta (R120 step 3). -/
def adjustedScore (r : TeamScore) (delta : Int) : TeamScore :=
  { r with total := clampTotal (r.total + delta), last := clampTotal (r.total + delta) - r.total }

/-- ADJUST (R120). -/
def adjustAction (team : Byte) (requested : Int) (s : State) : State × Status :=
  match finOf 16 team.toNat with
  | none => (s, .badValue)
  | some t =>
    let delta := clampInt requested (-999) 999
    let old := s.score.table[t]
    let new := adjustedScore old delta
    let s' := s.withScore { s.score with
      table := s.score.table.set t new
      commit := { s.score.commit with valid := false } }
    (triggerRanking (raiseNotice (.adjusted t requested new.last new.total) s'),
      if delta ≠ requested ∨ new.total ≠ old.total + delta then .clamped else .ok)

/-- CLEAR_SCORES (R121). -/
def clearScoresAction (s : State) : State × Status :=
  if s.round.state ≠ .idle then (s, .badState)
  else
    (triggerRanking (raiseNotice .cleared (s.withScore { s.score with
      table := Vector.replicate 16 ⟨0, 0, 0⟩
      commit := { s.score.commit with valid := false } })), .ok)

/-! ## Publication (R124) -/

/-- The publication step (R124). -/
def publish (s : State) : State :=
  let s' := reportChange countsStandings
    (s.withSorter { s.sorter with published := s.sorter.working, working := [], running := false })
  if s'.sorter.rerank then startRanking (s'.withSorter { s'.sorter with rerank := false }) else s'

end Sys2Proof.Machine
end

