-- ==== Sys2Proof/Machine/Tables.lean ====
section
/-! DEFINITION. The tables as READ and WRITE see them (10.2): the records of a READ REPLY, and the check, clamp and outcome
that each owner gives a written record. The Preset Loader uses the same record outcomes (R173). -/

namespace Sys2Proof.Machine

/-! ## Writes, one record at a time -/

/-- A record stored: CLAMPED if any field was clamped, OK otherwise. -/
def storedStatus (clamped : Bool) : Status := if clamped then .clamped else .ok

/-- A written team value (R27 check 1): a team, or none, or neither. -/
def teamValue (b : Byte) : Option (Option (Fin 16)) :=
  if b = 255 then some none
  else
    match finOf 16 b.toNat with
    | some t => some (some t)
    | none => none

/-- An accepted team write to seat k (R28). -/
def assignTeam (k : Fin 256) (team : Option (Fin 16)) (s : State) : State :=
  let seat := s.seats[k]
  if s.round.state = .idle then
    raiseSeat k { Causes.none with team := decide (team ≠ seat.team) }
      (s.setSeat k { seat with team := team, pending := none })
  else if team = seat.team then s.setSeat k { seat with pending := none }
  else s.setSeat k { seat with pending := some team }

/-- A WRITE of one SEATS record (R27, R28). -/
def writeSeat (k : Fin 256) (r : List Byte) (s : State) : State × Status :=
  match teamValue (r.getD 0 0) with
  | none => (s, .badValue)
  | some none => (assignTeam k none s, .ok)
  | some (some t) => if 64 ≤ claims t k s then (s, .badValue) else (assignTeam k (some t) s, .ok)

/-- The name field of a TEAMS record: none when longer than 12 or with a character outside 32..126 (R31 check 1). -/
def nameField (r : List Byte) : Option (List Byte) :=
  let name := (r.drop 2).take (u8 r 1)
  if u8 r 1 ≤ 12 && name.all (fun c => 32 ≤ c.toNat && c.toNat ≤ 126) then some name else none

/-- Team t's roster record replaced, with the ranking pass and the name report a change asks for (R31). -/
def storeTeam (t : Fin 16) (new : Team) (s : State) : State :=
  let old := s.teams[t]
  let s := s.withTeams (s.teams.set t new)
  let s := if new.active = old.active then s else triggerRanking s
  if new.name = old.name then s else reportChange countsNames s

/-- A WRITE of one TEAMS record (R31). -/
def writeTeam (t : Fin 16) (r : List Byte) (s : State) : State × Status :=
  match nameField r with
  | none => (s, .badValue)
  | some name =>
    if flagAt r 0 ≠ s.teams[t].active ∧ s.round.state ≠ .idle then (s, .inUse)
    else (storeTeam t ⟨flagAt r 0, name⟩ s, .ok)

/-- A reveal sequence field: 255 is none, and a present number is clamped to 0..15 (R1, R3). -/
def revealField (b : Nat) : Option (Fin 16) := if b = 255 then none else some ⟨min b 15, by omega⟩

/-- A QUESTIONS record as it is stored, its kind and commit mode read (R3). -/
def questionRecord (kind : QKind) (mode : CommitMode) (r : List Byte) : Question where
  kind := kind
  options := clampNat (u8 r 1) 2 6
  correct :=
    if kind = .choice then r.getD 2 0 else r.getD 2 0 &&& optionMask (clampNat (u8 r 1) 2 6)
  base := clampNat (u16 r 3) 0 999
  speed := clampNat (u16 r 5) 0 999
  penalty := clampNat (u16 r 7) 0 999
  stealPoints := clampNat (u16 r 9) 0 999
  steals := clampNat (u8 r 11) 0 15
  answerTime := clampNat (u8 r 12) 0 60
  guard := u8 r 13
  target := clampNat (u16 r 14) 0 9999
  tolerance := clampNat (u16 r 16) 1 9999
  window := clampNat (u16 r 18) 1 600
  settle := u8 r 20
  changeLimit := clampNat (u8 r 21) 0 3
  eligible := BitVec.ofNat 16 (u16 r 22)
  mode := mode
  resultLamps := flagAt r 25
  reveal := revealField (u8 r 26)

/-- A numeric field of a QUESTIONS record was clamped (R3). -/
def questionClamped (r : List Byte) : Bool :=
  u8 r 1 < 2 || 6 < u8 r 1 || 999 < u16 r 3 || 999 < u16 r 5 || 999 < u16 r 7 || 999 < u16 r 9 || 15 < u8 r 11
    || 60 < u8 r 12 || 9999 < u16 r 14 || u16 r 16 < 1 || 9999 < u16 r 16 || u16 r 18 < 1 || 600 < u16 r 18
    || 3 < u8 r 21 || (15 < u8 r 26 && u8 r 26 != 255)

/-- R2 check 4: an empty correct set, or one with a key beyond the clamped options count. -/
def badCorrectSet (r : List Byte) : Bool :=
  let set := r.getD 2 0
  set == 0 || (set &&& optionMask (clampNat (u8 r 1) 2 6)) != set

/-- A WRITE of one QUESTIONS record (R2, R3). -/
def writeQuestion (q : Fin 128) (r : List Byte) (s : State) : State × Status :=
  if s.resp.header.question = some q ∧ s.round.state ≠ .idle then (s, .inUse)
  else
    match QKind.ofCode (r.getD 0 0), CommitMode.ofCode (r.getD 24 0) with
    | some kind, some mode =>
      if kind = .choice ∧ badCorrectSet r then (s, .badValue)
      else (s.withQuestions (s.questions.set q (questionRecord kind mode r)), storedStatus (questionClamped r))
    | _, _ => (s, .badValue)

/-- The largest argument of a cue action that takes one (R6). -/
def CueAction.limit : CueAction → Option Nat
  | .openQuestion => some 127
  | .reveal => some 15
  | _ => none

/-- The argument of a CUES record as it is stored, and whether it was clamped (R6). -/
def cueArgument (a : CueAction) (arg : Byte) : Byte × Bool :=
  match a.limit with
  | some m => if m < arg.toNat then (byteOf m, true) else (arg, false)
  | none => (arg, false)

/-- Another valid entry holds the cue number (R6 check 2). -/
def duplicateCue (i : Fin 64) (number : BitVec 16) (s : State) : Bool :=
  (List.finRange 64).any fun j => j ≠ i && s.cues[j].valid && s.cues[j].number == number

/-- A WRITE of one CUES entry (R6). -/
def writeCue (i : Fin 64) (r : List Byte) (s : State) : State × Status :=
  match CueAction.ofCode (r.getD 3 0) with
  | none => (s, .badValue)
  | some a =>
    let number := BitVec.ofNat 16 (u16 r 1)
    if flagAt r 0 ∧ duplicateCue i number s then (s, .duplicate)
    else
      (s.withCues (s.cues.set i ⟨flagAt r 0, number, a, (cueArgument a (r.getD 4 0)).1, flagAt r 5⟩),
        storedStatus (cueArgument a (r.getD 4 0)).2)

/-- A WRITE of one SEQUENCES record (R134). -/
def writeSequence (i : Fin 16) (r : List Byte) (s : State) : State × Status :=
  let first := clampNat (u8 r 1) 0 63
  let count := clampNat (u8 r 2) 1 64
  if 64 < first + count then (s, .badValue)
  else
    (s.withComp { s.comp with sequences := s.comp.sequences.set i ⟨flagAt r 0, first, count, flagAt r 3⟩ },
      storedStatus (first != u8 r 1 || count != u8 r 2))

/-- A WRITE of one STEPS record (R135). -/
def writeStep (i : Fin 64) (r : List Byte) (s : State) : State × Status :=
  match View.ofCode (r.getD 0 0) with
  | none => (s, .badValue)
  | some v =>
    let team : Fin 16 := ⟨min (u8 r 5) 15, by omega⟩
    let record : Step := ⟨v, clampNat (u8 r 1) 1 255, BitVec.ofNat 16 (u16 r 2), flagAt r 4, team⟩
    (s.withComp { s.comp with steps := s.comp.steps.set i record },
      storedStatus (u8 r 1 < 1 || 15 < u8 r 5))

/-- The least sweep period in ms for a positions count (R44). -/
def minPeriod (positions : Nat) : Nat := (16 + 2 * positions + 7) / 8

/-- A PORTCFG record as it is stored (R44). -/
def portRecord (r : List Byte) : PortCfg where
  autostart := flagAt r 0
  positions := clampNat (u8 r 1) 1 64
  period := max (clampNat (u8 r 2) 8 64) (minPeriod (clampNat (u8 r 1) 1 64))
  skew := u8 r 3

/-- A WRITE of one PORTCFG record (R44). -/
def writePort (p : Fin 4) (r : List Byte) (s : State) : State × Status :=
  let new := portRecord r
  let old := s.ports[p].cfg
  if s.ports[p].state ≠ .stopped ∧ (new.positions ≠ old.positions ∨ new.period ≠ old.period) then (s, .inUse)
  else
    (s.setPort p { s.ports[p] with cfg := new },
      storedStatus (new.positions != u8 r 1 || new.period != u8 r 2))

/-- A CONFIG record as it is stored, its resting view read (R163). -/
def configRecord (resting : View) (r : List Byte) : Config where
  enabled := BitVec.ofNat 16 (u16 r 0) &&& 0x1FF
  tallyCount := clampNat (u8 r 2) 1 255
  tallyWait := u8 r 3
  seatWait := u8 r 4
  urgent := clampNat (u8 r 5) 1 8
  silentTimeout := clampNat (u8 r 6) 10 255
  mirror := BitVec.ofNat 16 (u16 r 7)
  resting := resting

/-- A kind leaves the enable set (R167). -/
def kindRemoved (k : NoticeKind) (old new : Config) : Bool :=
  old.enabled.getLsbD k.code && !new.enabled.getLsbD k.code

/-- The coalescing state of a kind that leaves the enable set is discarded (R167). -/
def dropCoalescing (old new : Config) (s : State) : State :=
  let s := if kindRemoved .tally old new then s.withHub { s.hub with tallyEvents := 0, tallyTimer := none } else s
  if kindRemoved .seat old new then s.withHub { s.hub with seatChanges := [], seatTimer := none } else s

/-- CONFIG replaced (R163, R167, R138). -/
def storeConfig (new : Config) (s : State) : State :=
  let old := s.hub.config
  let s := dropCoalescing old new s
  setResting new.resting (s.withHub { s.hub with config := { new with resting := old.resting } })

/-- A WRITE of the CONFIG record (R163). -/
def writeConfigRecord (r : List Byte) (s : State) : State × Status :=
  match View.ofResting (r.getD 9 0) with
  | none => (s, .badValue)
  | some v =>
    (storeConfig (configRecord v r) s,
      storedStatus (u8 r 2 < 1 || u8 r 5 < 1 || 8 < u8 r 5 || u8 r 6 < 10))

/-- A record handed to an index outside the table; R159 lets none come so far. -/
def onIndex (n i : Nat) (write : Fin n → State × Status) (s : State) : State × Status :=
  match finOf n i with
  | some k => write k
  | none => (s, .badIndex)

/-- One record of a table taken by its owner at index i (R161, R173). -/
def writeRecord (t : Table) (i : Nat) (r : List Byte) (s : State) : State × Status :=
  match t with
  | .seats => onIndex 256 i (fun k => writeSeat k r s) s
  | .teams => onIndex 16 i (fun k => writeTeam k r s) s
  | .questions => onIndex 128 i (fun k => writeQuestion k r s) s
  | .cues => onIndex 64 i (fun k => writeCue k r s) s
  | .sequences => onIndex 16 i (fun k => writeSequence k r s) s
  | .steps => onIndex 64 i (fun k => writeStep k r s) s
  | .portcfg => onIndex 4 i (fun k => writePort k r s) s
  | .config => writeConfigRecord r s
  | .responses => (s, .badTable)
  | .buzzq => (s, .badTable)
  | .judged => (s, .badTable)
  | .scores => (s, .badTable)
  | .standings => (s, .badTable)
  | .commit => (s, .badTable)
  | .portstat => (s, .badTable)

/-- What the records of a run of writes have come to (R161): applied, refused, clamped, and the lowest refused record's
index and status. -/
structure Written where
  state : State
  applied : Nat
  refused : Nat
  clamped : Bool
  lowest : Option (Nat × Status)

/-- One more record taken (R161). -/
def Written.take (w : Written) (t : Table) (i : Nat) (r : List Byte) : Written :=
  let x := writeRecord t i r w.state
  if x.2.refuses then
    { w with state := x.1, refused := w.refused + 1, lowest := match w.lowest with | some l => some l | none => some (i, x.2) }
  else { w with state := x.1, applied := w.applied + 1, clamped := w.clamped || x.2 == .clamped }

/-- The records of a WRITE or of a section taken in ascending index (R161, R173). -/
def writeRecords (t : Table) : Nat → List (List Byte) → Written → Written
  | _, [], w => w
  | i, r :: rs, w => writeRecords t (i + 1) rs (w.take t i r)

/-- The REPLY status of a run of writes (R161). -/
def Written.status (w : Written) : Status :=
  match w.lowest with
  | some l => l.2
  | none => storedStatus w.clamped

/-- The body of a WRITE REPLY (12.4); the index is open when no record was refused. -/
def Written.body (fb : Nat → Byte) (w : Written) : List Byte :=
  [byteOf w.applied, byteOf w.refused] ++
    (match w.lowest with
     | some l => [1, byteOf l.1]
     | none => [0, fb 0])

/-- The execution of a WRITE of a writable table (R159, R161). -/
def executeWrite (t : Table) (tag first : Byte) (records : List Byte) (s : State) : Executed :=
  let n := records.length / t.writeLength
  if t.count < first.toNat + n then notExecuted [tag, 2] .badIndex s
  else
    let w := writeRecords t first.toNat (recordsOf t.writeLength n records) ⟨s, 0, 0, false, none⟩
    ⟨w.state.withFree (w.state.free + 1), w.status, w.body (Sys2Proof.Config.freeByte w.state.free)⟩

/-- A WRITE request: its payload and its execution (12.4). -/
def runWrite (t : Table) (tag first : Byte) (records : List Byte) (s : State) : Host.Outcome State Fault Refusal :=
  executeRequest ([tag, 2, t.number, first] ++ records) (executeWrite t tag first records) s

/-! ## Reads (R160) -/

/-- The derived counts and record of a team (R30). -/
def teamBytes (fb : Nat → Byte) (s : State) (t : Fin 16) : List Byte :=
  s.teams[t].bytes fb (memberCount t s) (presentCount t s)

/-- The header of a READ of BUZZQ (R106); the question's steals are sent as absent with no question. -/
def buzzHeader (fb : Nat → Byte) (s : State) : List Byte :=
  [optFin s.resp.header.question, optFin (holderTeam s), byteOf s.buzz.stealsUsed,
    optByte (s.resp.header.question.map fun q => s.questions[q].steals)]
    ++ be16 s.buzz.locked.toNat ++ flaggedTime fb s.buzz.answerTimer ++ [byteOf s.buzz.queue.length]

/-- The header of a READ of STANDINGS (R126). -/
def standingsHeader (s : State) : List Byte :=
  [flagByte s.sorter.running, flagByte s.sorter.rerank, byteOf s.sorter.published.length]

/-- The READ header of a table (R159). -/
def tableHeader (fb : Nat → Byte) (t : Table) (s : State) : List Byte :=
  match t with
  | .responses => s.resp.headerBytes fb
  | .buzzq => buzzHeader fb s
  | .standings => standingsHeader s
  | _ => []

/-- The records of a table as they stand, in the table's order. `fb i j` is open byte j of record i. -/
def tableRecords (fb : Nat → Nat → Byte) (t : Table) (s : State) : List (List Byte) :=
  match t with
  | .seats => (List.finRange 256).map fun k => s.seats[k].bytes (fb k.val)
  | .teams => (List.finRange 16).map fun k => teamBytes (fb k.val) s k
  | .questions => (List.finRange 128).map fun k => s.questions[k].bytes
  | .cues => (List.finRange 64).map fun k => s.cues[k].bytes
  | .sequences => (List.finRange 16).map fun k => s.comp.sequences[k].bytes
  | .steps => (List.finRange 64).map fun k => s.comp.steps[k].bytes
  | .portcfg => (List.finRange 4).map fun k => s.ports[k].cfg.bytes
  | .config => [s.hub.config.bytes]
  | .responses => (List.finRange 256).map fun k => s.resp.records[k].bytes (fb k.val)
  | .buzzq => s.buzz.queue.map BuzzEntry.bytes
  | .judged => s.buzz.judged.map Judged.bytes
  | .scores => (List.finRange 16).map fun k => s.score.table[k].bytes
  | .standings => s.sorter.published.map Standing.bytes
  | .commit => [s.score.commit.bytes]
  | .portstat => (List.finRange 4).map fun k => s.ports[k].statBytes

/-- How many whole records fit in a REPLY behind its own 6 bytes and the header (R160; log entry 9). -/
def roomFor (t : Table) (header : List Byte) : Nat := (250 - 6 - header.length) / t.readLength

/-- The records a READ returns (R160). -/
def returnedRecords (t : Table) (header : List Byte) (first count : Nat) (records : List (List Byte)) :
    List (List Byte) :=
  (records.drop first).take (min count (roomFor t header))

/-- A READ of PORTSTAT clears the latched flags of each port it returns (R59, R160). -/
def clearReadFlags (t : Table) (first returned : Nat) (s : State) : State :=
  if t = .portstat then
    s.withPorts (Vector.ofFn fun p =>
      if first ≤ p.val ∧ p.val < first + returned then s.ports[p].clearFlags else s.ports[p])
  else s

/-- The execution of a READ of a table (R159, R160). -/
def executeRead (t : Table) (tag first count : Byte) (s : State) : Executed :=
  if t.count ≤ first.toNat then notExecuted [tag, 1] .badIndex s
  else
    let fb := Sys2Proof.Config.freeByte s.free
    let header := tableHeader fb t s
    let records := returnedRecords t header first.toNat count.toNat (tableRecords (fun i j => fb (64 + 16 * i + j)) t s)
    ⟨(clearReadFlags t first.toNat records.length s).withFree (s.free + 1), .ok,
      [t.number, first, byteOf records.length] ++ header ++ records.flatten⟩

/-- A READ request: its payload and its execution (12.4). -/
def runRead (t : Table) (tag first count : Byte) (s : State) : Host.Outcome State Fault Refusal :=
  executeRequest [tag, 1, t.number, first, count] (executeRead t tag first count) s

end Sys2Proof.Machine
end

