-- ==== Sys2Proof/Machine/Preset.lean ====
section
/-! DEFINITION. The Preset Loader (chapter 11): the beginning of a load, the walk of the image section by section, and the
three ends of a load; and the meanings of PRESET_SECTION and LOAD_END. -/

namespace Sys2Proof.Machine

/-! ## The image (12.8) -/

/-- A byte of the flash; a flash that does not answer is read as 255 (R172). -/
def flashByte (image : List Byte) (i : Nat) : Nat := (image.getD i 255).toNat

/-- The marker is found (R172). -/
def markerFound (image : List Byte) : Bool := flashByte image 0 == 81 && flashByte image 1 == 113

/-- The length field: the bytes of all sections. -/
def imageLength (image : List Byte) : Nat := flashByte image 2 * 256 + flashByte image 3

/-- Byte i of the sections. -/
def sectionByte (image : List Byte) (i : Nat) : Nat := flashByte image (4 + i)

/-- `n` bytes of the sections from byte i on. -/
def sectionBytes (image : List Byte) (i n : Nat) : List Byte :=
  (List.range n).map fun j => BitVec.ofNat 8 (sectionByte image (i + j))

/-- The image's check agrees with the length field and the section bytes (R172, R176). -/
def imageCheckGood (image : List Byte) : Bool :=
  let n := imageLength image
  (crc (BitVec.ofNat 8 (flashByte image 2) :: BitVec.ofNat 8 (flashByte image 3) :: sectionBytes image 0 n)).toNat
    == sectionByte image n * 256 + sectionByte image (n + 1)

/-- A section header read at place i: its table, first index and count, when it names a writable table and its records end
within the length (R172). -/
def sectionAt (image : List Byte) (i : Nat) : Option (Table × Nat × Nat) :=
  match Table.ofNumber (BitVec.ofNat 8 (sectionByte image i)) with
  | some t =>
    let count := sectionByte image (i + 2) * 256 + sectionByte image (i + 3)
    if t.writable && i + 4 + count * t.writeLength ≤ imageLength image then some (t, sectionByte image (i + 1), count)
    else none
  | none => none

/-! ## A load (R172 to R174) -/

/-- A load begins (R172). -/
def Loader.begin (l : Loader) (flash : List Byte) : Loader :=
  { l with running := true, image := flash, position := 0, fault := false, count := 0 }

/-- The refused count of a load raised, saturating at 65 535 (R173). -/
def addRefused (count n : Nat) : Nat := min (count + n) 65535

/-- The records of a section applied as a WRITE would apply them (R173). -/
def applySection (t : Table) (first count : Nat) (bytes : List Byte) (s : State) : State :=
  if t.count < first + count then
    s.withLoader { s.loader with count := addRefused s.loader.count count }
  else
    let w := writeRecords t first (recordsOf t.writeLength count bytes) ⟨s, 0, 0, false, none⟩
    w.state.withLoader { w.state.loader with count := addRefused w.state.loader.count w.refused }

/-- The next section is to be walked: a load runs, its marker was found, no fault was met, and the length is not used up. -/
def sectionDue (s : State) : Bool :=
  s.loader.running && markerFound s.loader.image && !s.loader.fault
    && decide (s.loader.position < imageLength s.loader.image)

/-- The loader walks the next section (R172, R173); a header that does not fit is a structure fault. -/
def walkSection (s : State) : State :=
  match sectionAt s.loader.image s.loader.position with
  | none => s.withLoader { s.loader with fault := true }
  | some (t, first, count) =>
    let s' := applySection t first count
      (sectionBytes s.loader.image (s.loader.position + 4) (count * t.writeLength)) s
    s'.withLoader { s'.loader with position := s.loader.position + 4 + count * t.writeLength }

/-- The result a running load ends with now, if it ends now (R172). -/
def loadResult (s : State) : Option LoadResult :=
  if !s.loader.running then none
  else if !markerFound s.loader.image then some .empty
  else if s.loader.fault then some .failed
  else if s.loader.position < imageLength s.loader.image then none
  else if imageCheckGood s.loader.image then some .loaded
  else some .failed

/-- A FAILED load (R174): the tables an image can write go back to their hard-reset values, each as a write would set it. -/
def resetTables (s : State) : State :=
  let s := (List.finRange 256).foldl (fun s k => assignTeam k none s) s
  let s := (List.finRange 16).foldl (fun s t => storeTeam t Team.reset s) s
  let s := s.withQuestions (Vector.replicate 128 Question.reset)
  let s := s.withCues (Vector.replicate 64 CueEntry.reset)
  let s := s.withComp { s.comp with
    sequences := Vector.replicate 16 Sequence.reset
    steps := Vector.replicate 64 Step.reset }
  let s := s.withPorts (Vector.ofFn fun p => { s.ports[p] with cfg := PortCfg.reset })
  storeConfig Config.reset s

/-- A LOADED load (R174): the ports whose autostart flag is set are started, in ascending port number. -/
def autostart (s : State) : State :=
  (List.finRange 4).foldl (fun s p => if s.ports[p].cfg.autostart then (startPort p s).1 else s) s

/-- The result's own action (R174 step 2). -/
def loadAction (r : LoadResult) (s : State) : State :=
  match r with
  | .failed => resetTables s
  | .loaded => autostart s
  | .empty => s
  | .none => s

/-- A load ends (R174). -/
def endLoad (r : LoadResult) (s : State) : State :=
  let s := loadAction r (s.withLoader { s.loader with result := r, refused := s.loader.count })
  raiseNotice (.preset r s.loader.refused) (s.withLoader { s.loader with running := false })

/-! ## Meanings -/

/-- PRESET_SECTION (R173). -/
def execPresetSection (s : State) : Host.Outcome State Fault Refusal := whenDue (sectionDue s) walkSection s

/-- LOAD_END (R174). -/
def execLoadEnd (s : State) : Host.Outcome State Fault Refusal :=
  match loadResult s with
  | some r => finish (endLoad r s)
  | none => .next s

end Sys2Proof.Machine
end

