-- ==== Sys2Proof/Machine/Resets.lean ====
section
/-! DEFINITION. HARD_RESET, WARM_RESTART and SHOW_TIME_TICK: the three steps that bear on every block or on the clock. -/

namespace Sys2Proof.Machine

/-! ## Hard reset -/

/-- The loader at the end of a hard reset: a load begins when the strap is set (R171, R172). -/
def resetLoader (strap : Bool) (flash : List Byte) : Loader :=
  if strap then Loader.reset.begin flash else Loader.reset

/-- Every block at its hard-reset values, with the strap read and the BLANK burst on its way (R60, R140, R155, R171). -/
def hardReset (strap : Bool) (flash : List Byte) (s : State) : State :=
  { State.reset with
    link := LinkSwitch.reset s.free
    loader := resetLoader strap flash
    free := s.free + 1
    pending := s.pending }

/-- HARD_RESET (R60). -/
def execHardReset (strap : Bool) (flash : List Byte) (s : State) : Host.Outcome State Fault Refusal :=
  .next (hardReset strap flash s)

/-! ## Warm restart (R166) -/

/-- The Link Switch at a warm restart (R156): a frame on the wall is finished, the rest of its burst is not sent. A
frame in reception on either link is discarded without a flag. -/
def LinkSwitch.restarted (l : LinkSwitch) (now : Time) : LinkSwitch :=
  { l with
    passQueue := []
    hold := false
    reports := []
    replies := []
    owed := 0
    scoreOut := none
    burstNext := 0
    wallTx := l.wallTx.map fun t => { t with rest := [] }
    consoleTx := none
    consoleRx := .hunting
    wallRx := .hunting
    fillTimer := if l.wallTx.isSome then none else some (after now 160)
    linkCheck := false
    passOverrun := false
    requestDropped := false }

/-- The Hub Agent at a warm restart (R166): CONFIG is kept. -/
def Hub.restarted (h : Hub) : Hub :=
  { h with
    agent := .idle
    requests := []
    notices := []
    tallyEvents := 0
    tallyTimer := none
    seatChanges := []
    seatTimer := none
    noticeLost := false }

/-- A seat at a warm restart, its pending team already applied (R26). -/
def Seat.restarted (k : Seat) : Seat :=
  { k with presence := .absent, battery := false, missed := 0, lastPress := none, lamp := .off, queued := false }

/-- The Round Record at a warm restart (R9). -/
def Round.restarted (r : Round) : Round := { Round.reset with lastOpened := r.lastOpened }

/-- The Score Unit at a warm restart (R107, R108, R109, R118): the walk is abandoned and the record is no longer valid. -/
def Score.restarted (x : Score) : Score :=
  { x with commit := { x.commit with valid := false }, walk := Walk.reset }

/-- The Composer at a warm restart (R140), before its BLANK burst and its first compose. -/
def Composer.restarted (c : Composer) (silentTicks : Nat) : Composer :=
  { Composer.reset with
    back := ViewImage.blank
    backState := .stale
    sequences := c.sequences
    steps := c.steps
    silentTimer := some (after 0 silentTicks) }

/-- One port at a warm restart (R60): stopped and started again unless it was STOPPED, its latched flags cleared. -/
def restartPort (p : Fin 4) (s : State) : State :=
  let running := s.ports[p].state ≠ .stopped
  let s := stopPort false p s
  let s := if running then (startPort p s).1 else s
  s.setPort p s.ports[p].clearFlags

/-- The ports at a warm restart, in ascending number. -/
def restartPorts (s : State) : State := (List.finRange 4).foldl (fun s p => restartPort p s) s

/-- A warm restart takes effect (R166): every block at its warm-restart values, from show time 0 on. -/
def warmRestart (s : State) : State :=
  let s := restartPorts (applyPending false (s.withNow 0))
  let s := s.mapSeats fun _ seat => seat.restarted
  let s := s.withStamper Stamper.reset
  let s := (s.withRound s.round.restarted).withResp Responses.reset
  let s := (s.withBuzz Buzz.reset).withScore s.score.restarted
  let s := (s.withHub s.hub.restarted).withLink (s.link.restarted s.now)
  let s := s.withComp (s.comp.restarted (silentTicks s))
  let s := startRanking (s.withSorter { s.sorter with working := [], running := false, rerank := false })
  startCompose (placeBurst ViewImage.blank none s)

/-- The frame on the console link is the REPLY with OK of a RESTART request: kind byte 8, status 0 (12.4). -/
def isRestartReply (f : Frame) : Bool := f.cls == 4 && f.payload.drop 1 == [8, 0]

/-- The last byte of the RESTART REPLY is being sent (R156, R166). -/
def restartEnding (s : State) : Bool :=
  match s.hub.agent, s.link.consoleTx with
  | .restarting, some f => isRestartReply f
  | _, _ => false

/-- WARM_RESTART (R166): at the end of the RESTART REPLY. -/
def execWarmRestart (s : State) : Host.Outcome State Fault Refusal := whenDue (restartEnding s) warmRestart s

/-! ## The clock -/

/-- SHOW_TIME_TICK (R61). -/
def execShowTimeTick (s : State) : Host.Outcome State Fault Refusal := .next (s.withNow (s.now + 1))

end Sys2Proof.Machine
end

