-- ==== Sys2Proof/Machine/Links.lean ====
section
/-! DEFINITION. The meanings of the link steps (chapter 9): frames taken and discarded, and the ends of the frames sent. -/

namespace Sys2Proof.Machine

/-- The receiver of a link goes on after the frame with these bytes since its start mark (R142). -/
def receiveOn (link : Link) (start : Time) (bytes : List Heard) (broken : Bool) (s : State) : State :=
  match link with
  | .console => s.withLink { s.link with consoleRx := s.link.consoleRx.after start bytes broken }
  | .wall => s.withLink { s.link with wallRx := s.link.wallRx.after start bytes broken }

/-- A frame is discarded under R142 (broken) or R143: LINK_CHECK is set (R154), and the receiver hunts on. -/
def discardFrame (link : Link) (start : Time) (bytes : List Heard) (broken : Bool) (s : State) : State :=
  receiveOn link start bytes broken (s.withLink { s.link with linkCheck := true })

/-- LINK_FRAME_DISCARDED (R142). Bytes that do not make a frame the receiver discards are no such event (log entry 1). -/
def execLinkFrameDiscarded (link : Link) (start : Time) (bytes : List Heard) (s : State) :
    Host.Outcome State Fault Refusal :=
  whenDue (frameDiscarded link start bytes) (discardFrame link start bytes (frameBroken start bytes)) s

/-- A PASS or CUE frame offered to the Pass Queue (R145, R146). -/
def offerPass (f : Frame) (s : State) : State :=
  if s.link.passQueue.length < 8 then
    s.withLink { s.link with
      passQueue := s.link.passQueue ++ [f]
      hold := holdAfterArrival s.link.hold (s.link.passQueue.length + 1) }
  else s.withLink { s.link with passOverrun := true }

/-- A good frame taken from a link (R143): its taker acts, and the receiver hunts on from the byte after it (R142). -/
def taken (link : Link) (cls : Byte) (a : Arrival) (take : State → State) (s : State) : State :=
  receiveOn link a.start (heardOf cls a) false (take s)

/-- A frame of a class, taken when no gap between its bytes was too long and its length is within the class's limits, and discarded
otherwise (R142, R143). -/
def takeGood (link : Link) (cls : Byte) (a : Arrival) (take : List Byte → State → State) (s : State) :
    Host.Outcome State Fault Refusal :=
  if !arrivalBroken a && inwardGood link cls (payloadOf a).length then finish (taken link cls a (take (payloadOf a)) s)
  else finish (discardFrame link a.start (heardOf cls a) (arrivalBroken a) s)

/-- PASS (R144, R145). -/
def execPass (a : Arrival) (s : State) : Host.Outcome State Fault Refusal :=
  takeGood .console 1 a (fun payload => offerPass ⟨1, payload⟩) s

/-! ## Cues (R7, R8) -/

/-- The cue action taken by its owner, as the same ACT or SHOW request would be (R5, R7). -/
def cueAction (a : CueAction) (argument : Byte) (s : State) : State × Status :=
  match a with
  | .openQuestion => openAction argument s
  | .next => nextAction s
  | .close => closeAction s
  | .commit => commitAction s
  | .cancel => cancelAction s
  | .reveal => revealAction argument s
  | .stopSequence => stopSequence s
  | .freeze => freezeAction s
  | .thaw => thawAction s
  | .curtainOn => curtainOnAction s
  | .curtainOff => curtainOffAction s

/-- The cue number of a CUE payload (R143). -/
def cueNumber (payload : List Byte) : BitVec 16 := BitVec.ofNat 16 (u16 payload 0)

/-- The valid entry that holds a cue number (R7). -/
def matchedCue (number : BitVec 16) (s : State) : Option CueEntry :=
  ((List.finRange 64).map fun i => s.cues[i]).find? fun c => c.valid && c.number == number

/-- A matched action handed to its owner; a refusal, or any action while the Preset Loader runs, raises CUE_REFUSED (R7,
R8). -/
def runCue (c : CueEntry) (s : State) : State :=
  if s.loader.running then raiseNotice (.cueRefused c.number .busy) s
  else
    let r := cueAction c.action c.argument s
    if r.2.refuses then raiseNotice (.cueRefused c.number r.2) r.1 else r.1

/-- A CUE frame taken (R7, R8, R144): the action first, then the offer unless the entry absorbs the frame. A burst that the
action places on an idle wall transmitter is taken as it arrives, before the offer (R149). -/
def takeCue (payload : List Byte) (s : State) : State :=
  match matchedCue (cueNumber payload) s with
  | none => offerPass ⟨2, payload⟩ s
  | some c => if c.absorb then runCue c s else offerPass ⟨2, payload⟩ (wallChoose (runCue c s))

/-- CUE (R7). -/
def execCue (a : Arrival) (s : State) : Host.Outcome State Fault Refusal := takeGood .console 2 a takeCue s

/-! ## Requests handed on (R144, R152, R157) -/

/-- The Hub Agent acts on a request handed on (R157). -/
def handOn (payload : List Byte) (s : State) : State :=
  match s.hub.agent with
  | .idle => s.withHub { s.hub with agent := .decoding payload s.now }
  | .decoding _ _ => queueRequest
  | .restarting => queueRequest
where
  queueRequest : State :=
    if s.hub.requests.length < 2 then s.withHub { s.hub with requests := s.hub.requests ++ [payload] }
    else placeReply payload .busy [] s

/-- A HUB_REQUEST frame routed (R144): dropped while 4 replies are owed. -/
def takeRequest (payload : List Byte) (s : State) : State :=
  if 4 ≤ s.link.owed then s.withLink { s.link with requestDropped := true }
  else handOn payload (s.withLink { s.link with owed := s.link.owed + 1 })

/-- HUB_REQUEST (R144). -/
def execHubRequest (a : Arrival) (s : State) : Host.Outcome State Fault Refusal := takeGood .console 3 a takeRequest s

/-! ## From the wall -/

/-- MARK (R131, R147). -/
def execMark (a : Arrival) (s : State) : Host.Outcome State Fault Refusal :=
  takeGood .wall 9 a (fun payload => takeMark (payload.getD 0 0)) s

/-- A REPORT frame routed (R147). -/
def takeReport (payload : List Byte) (s : State) : State :=
  if s.link.reports.length < 2 then s.withLink { s.link with reports := s.link.reports ++ [payload] }
  else s.withLink { s.link with passOverrun := true }

/-- REPORT (R147). -/
def execReport (a : Arrival) (s : State) : Host.Outcome State Fault Refusal := takeGood .wall 6 a takeReport s

/-! ## The ends of frames sent -/

/-- The idle-fill timer starts (R151): 160 ticks. -/
def startFill (s : State) : State := s.withLink { s.link with fillTimer := some (after s.now 160) }

/-- A frame ends on the wall link (R149, R150): the next frame of its burst follows without a choice. -/
def endWallFrame (t : WallTx) (s : State) : State :=
  let s := startFill s
  match t.rest with
  | f :: rest => s.withLink { s.link with wallTx := some ⟨f, rest⟩ }
  | [] => s.withLink { s.link with wallTx := none }

/-- WALL_FRAME_END (R149). -/
def execWallFrameEnd (s : State) : Host.Outcome State Fault Refusal :=
  match s.link.wallTx with
  | some t => finish (endWallFrame t s)
  | none => .next s

/-- The idle-fill timer has expired on an idle wall transmitter (R151). -/
def fillDue (s : State) : Bool := expired s.link.fillTimer s.now && s.link.wallTx.isNone

/-- A FILL frame is built and sent (R151). -/
def sendFill (s : State) : State :=
  s.withLink { s.link with wallTx := some ⟨fillFrame (roundSummary s) s.now, []⟩, fillTimer := none }

/-- IDLE_FILL_EXPIRY (R151). -/
def execIdleFillExpiry (s : State) : Host.Outcome State Fault Refusal := whenDue (fillDue s) sendFill s

/-- A frame ends on the console link (R153); the end of the RESTART REPLY is the warm restart (R156). -/
def endConsoleFrame (s : State) : State :=
  if restartEnding s then warmRestart s else s.withLink { s.link with consoleTx := none }

/-- CONSOLE_FRAME_END (R153). -/
def execConsoleFrameEnd (s : State) : Host.Outcome State Fault Refusal :=
  whenDue s.link.consoleTx.isSome endConsoleFrame s

end Sys2Proof.Machine
end

