-- ==== Sys2Proof/Machine/Requests.lean ====
section
/-! DEFINITION. The meanings of the requests at the end of their decode (chapter 10): READ, WRITE, ACT, PORT, SHOW, STATUS,
RELOAD, RESTART and the malformed ones. Each is the execution event of R158 for its payload (12.4). -/

namespace Sys2Proof.Machine

/-! ## Malformed requests and unknown tables (R158, R159) -/

/-- REQUEST_MALFORMED (R158): an unknown kind comes before BUSY, BUSY before a length that does not fit. A payload that is
well formed is another row's event. -/
def execRequestMalformed (payload : List Byte) (s : State) : Host.Outcome State Fault Refusal :=
  if decodeEnds payload s then
    if !knownKind (u8 payload 1) then finish (nextRequest (placeReply payload .malformed [] s))
    else if payloadFits payload then .next s
    else executeRequest payload (fun s => ⟨s, .malformed, []⟩) s
  else .next s

/-- READ_UNKNOWN_TABLE (R159): a table number that names no table. A known number is another row's event. -/
def execReadUnknownTable (tag table first count : Byte) (s : State) : Host.Outcome State Fault Refusal :=
  match Table.ofNumber table with
  | some _ => .next s
  | none => executeRequest [tag, 1, table, first, count] (notExecuted [tag, 1] .badTable) s

/-- The table number of a WRITE that no table takes: read-only, or naming none (R159). -/
def refusesWrites (table : Byte) : Bool :=
  match Table.ofNumber table with
  | some t => !t.writable
  | none => true

/-- WRITE_READ_ONLY_TABLE (R159). A writable table is another row's event. -/
def execWriteReadOnlyTable (tag table first : Byte) (records : List Byte) (s : State) :
    Host.Outcome State Fault Refusal :=
  if refusesWrites table then
    executeRequest ([tag, 2, table, first] ++ records) (notExecuted [tag, 2] .badTable) s
  else .next s

/-! ## READ (R160) -/

/-- READ_SEATS (R26). -/
def execReadSeats (tag first count : Byte) (s : State) : Host.Outcome State Fault Refusal :=
  runRead .seats tag first count s

/-- READ_TEAMS (R30). -/
def execReadTeams (tag first count : Byte) (s : State) : Host.Outcome State Fault Refusal :=
  runRead .teams tag first count s

/-- READ_QUESTIONS (R4). -/
def execReadQuestions (tag first count : Byte) (s : State) : Host.Outcome State Fault Refusal :=
  runRead .questions tag first count s

/-- READ_CUES (R6). -/
def execReadCues (tag first count : Byte) (s : State) : Host.Outcome State Fault Refusal :=
  runRead .cues tag first count s

/-- READ_SEQUENCES (R134). -/
def execReadSequences (tag first count : Byte) (s : State) : Host.Outcome State Fault Refusal :=
  runRead .sequences tag first count s

/-- READ_STEPS (R135). -/
def execReadSteps (tag first count : Byte) (s : State) : Host.Outcome State Fault Refusal :=
  runRead .steps tag first count s

/-- READ_PORTCFG (R43). -/
def execReadPortcfg (tag first count : Byte) (s : State) : Host.Outcome State Fault Refusal :=
  runRead .portcfg tag first count s

/-- READ_CONFIG (R163). -/
def execReadConfig (tag first count : Byte) (s : State) : Host.Outcome State Fault Refusal :=
  runRead .config tag first count s

/-- READ_RESPONSES (R76). -/
def execReadResponses (tag first count : Byte) (s : State) : Host.Outcome State Fault Refusal :=
  runRead .responses tag first count s

/-- READ_BUZZQ (R106). -/
def execReadBuzzq (tag first count : Byte) (s : State) : Host.Outcome State Fault Refusal :=
  runRead .buzzq tag first count s

/-- READ_JUDGED (R106). -/
def execReadJudged (tag first count : Byte) (s : State) : Host.Outcome State Fault Refusal :=
  runRead .judged tag first count s

/-- READ_SCORES (R107). -/
def execReadScores (tag first count : Byte) (s : State) : Host.Outcome State Fault Refusal :=
  runRead .scores tag first count s

/-- READ_STANDINGS (R126). -/
def execReadStandings (tag first count : Byte) (s : State) : Host.Outcome State Fault Refusal :=
  runRead .standings tag first count s

/-- READ_COMMIT (R108). -/
def execReadCommit (tag first count : Byte) (s : State) : Host.Outcome State Fault Refusal :=
  runRead .commit tag first count s

/-- READ_PORTSTAT (R59). -/
def execReadPortstat (tag first count : Byte) (s : State) : Host.Outcome State Fault Refusal :=
  runRead .portstat tag first count s

/-! ## WRITE (R161) -/

/-- WRITE_SEATS (R27). -/
def execWriteSeats (tag first : Byte) (records : List Byte) (s : State) : Host.Outcome State Fault Refusal :=
  runWrite .seats tag first records s

/-- WRITE_TEAMS (R31). -/
def execWriteTeams (tag first : Byte) (records : List Byte) (s : State) : Host.Outcome State Fault Refusal :=
  runWrite .teams tag first records s

/-- WRITE_QUESTIONS (R2). -/
def execWriteQuestions (tag first : Byte) (records : List Byte) (s : State) : Host.Outcome State Fault Refusal :=
  runWrite .questions tag first records s

/-- WRITE_CUES (R6). -/
def execWriteCues (tag first : Byte) (records : List Byte) (s : State) : Host.Outcome State Fault Refusal :=
  runWrite .cues tag first records s

/-- WRITE_SEQUENCES (R134). -/
def execWriteSequences (tag first : Byte) (records : List Byte) (s : State) : Host.Outcome State Fault Refusal :=
  runWrite .sequences tag first records s

/-- WRITE_STEPS (R135). -/
def execWriteSteps (tag first : Byte) (records : List Byte) (s : State) : Host.Outcome State Fault Refusal :=
  runWrite .steps tag first records s

/-- WRITE_PORTCFG (R44). -/
def execWritePortcfg (tag first : Byte) (records : List Byte) (s : State) : Host.Outcome State Fault Refusal :=
  runWrite .portcfg tag first records s

/-- WRITE_CONFIG (R163). -/
def execWriteConfig (tag first : Byte) (records : List Byte) (s : State) : Host.Outcome State Fault Refusal :=
  runWrite .config tag first records s

/-! ## ACT, PORT and SHOW (R162) -/

/-- A request of one action: its execution is the owner's, its REPLY the owner's status. -/
def runAction (payload : List Byte) (act : State → State × Status) (s : State) : Host.Outcome State Fault Refusal :=
  executeRequest payload (fun s => actionReply (act s)) s

/-- OPEN (R11). -/
def execActOpen (tag question : Byte) (s : State) : Host.Outcome State Fault Refusal :=
  runAction [tag, 3, 1, question] (openAction question) s

/-- NEXT (R13). -/
def execActNext (tag : Byte) (s : State) : Host.Outcome State Fault Refusal :=
  runAction [tag, 3, 2] nextAction s

/-- CLOSE (R16). -/
def execActClose (tag : Byte) (s : State) : Host.Outcome State Fault Refusal :=
  runAction [tag, 3, 3] closeAction s

/-- COMMIT (R20). -/
def execActCommit (tag : Byte) (s : State) : Host.Outcome State Fault Refusal :=
  runAction [tag, 3, 4] commitAction s

/-- CANCEL (R22). -/
def execActCancel (tag : Byte) (s : State) : Host.Outcome State Fault Refusal :=
  runAction [tag, 3, 5] cancelAction s

/-- JUDGE (R98). -/
def execActJudge (tag team verdict : Byte) (s : State) : Host.Outcome State Fault Refusal :=
  runAction [tag, 3, 6, team, verdict] (judgeAction team verdict) s

/-- REVOKE (R119). -/
def execActRevoke (tag : Byte) (s : State) : Host.Outcome State Fault Refusal :=
  runAction [tag, 3, 7] revokeAction s

/-- ADJUST (R120). -/
def execActAdjust (tag team : Byte) (delta : BitVec 16) (s : State) : Host.Outcome State Fault Refusal :=
  runAction ([tag, 3, 8, team] ++ be16 delta.toNat) (adjustAction team delta.toInt) s

/-- CLEAR_SCORES (R121). -/
def execActClearScores (tag : Byte) (s : State) : Host.Outcome State Fault Refusal :=
  runAction [tag, 3, 9] clearScoresAction s

/-- START (R45). -/
def execPortStart (tag port : Byte) (s : State) : Host.Outcome State Fault Refusal :=
  runAction [tag, 4, 32, port] (fun s => onPort port (fun p => startPort p s) s) s

/-- STOP (R47). -/
def execPortStop (tag port : Byte) (s : State) : Host.Outcome State Fault Refusal :=
  runAction [tag, 4, 33, port] (fun s => onPort port (fun p => stopAction p s) s) s

/-- ROLL_CALL (R54). -/
def execPortRollCall (tag port : Byte) (s : State) : Host.Outcome State Fault Refusal :=
  runAction [tag, 4, 34, port] (fun s => onPort port (fun p => rollCall p s) s) s

/-- REVEAL (R136). -/
def execShowReveal (tag sequence : Byte) (s : State) : Host.Outcome State Fault Refusal :=
  runAction [tag, 5, 16, sequence] (revealAction sequence) s

/-- STOP_SEQUENCE (R138). -/
def execShowStopSequence (tag : Byte) (s : State) : Host.Outcome State Fault Refusal :=
  runAction [tag, 5, 17] stopSequence s

/-- FREEZE (R133). -/
def execShowFreeze (tag : Byte) (s : State) : Host.Outcome State Fault Refusal := runAction [tag, 5, 18] freezeAction s

/-- THAW (R133). -/
def execShowThaw (tag : Byte) (s : State) : Host.Outcome State Fault Refusal := runAction [tag, 5, 19] thawAction s

/-- CURTAIN_ON (R133). -/
def execShowCurtainOn (tag : Byte) (s : State) : Host.Outcome State Fault Refusal :=
  runAction [tag, 5, 20] curtainOnAction s

/-- CURTAIN_OFF (R133). -/
def execShowCurtainOff (tag : Byte) (s : State) : Host.Outcome State Fault Refusal :=
  runAction [tag, 5, 21] curtainOffAction s

/-- RESTING (R138). -/
def execShowResting (tag view : Byte) (s : State) : Host.Outcome State Fault Refusal :=
  runAction [tag, 5, 22, view] (restingAction view) s

/-! ## STATUS, RELOAD, RESTART (R164 to R166) -/

/-- The player state, and the sequence and step shown, 255 when STOPPED (R141, 12.4). -/
def playerBytes (s : State) : List Byte :=
  match s.comp.player with
  | .stopped => [0, 255, 255]
  | .active ended p => [Player.code (.active ended p), byteOf p.sequence.val, byteOf p.step]

/-- The 27 bytes of the STATUS body (R164, 12.4). -/
def statusBody (s : State) : List Byte :=
  be32 s.now.toNat ++ [s.round.state.code, optFin s.round.current]
    ++ ((List.finRange 4).map fun p => s.ports[p].state.code)
    ++ [flagByte s.sorter.running, flagByte s.sorter.rerank,
        s.comp.backState.code, flagByte s.comp.freeze, flagByte s.comp.curtain, flagByte s.comp.silent]
    ++ playerBytes s
    ++ [flagByte s.loader.running, s.loader.result.code] ++ be16 s.loader.refused
    ++ [flagByte s.link.linkCheck, flagByte s.link.passOverrun, flagByte s.link.requestDropped, flagByte s.hub.noticeLost]

/-- The four latched flags cleared after a STATUS reply is built (R154, R164, R170). -/
def clearLatched (s : State) : State :=
  (s.withLink { s.link with linkCheck := false, passOverrun := false, requestDropped := false }).withHub
    { s.hub with noticeLost := false }

/-- STATUS (R164). -/
def execStatus (tag : Byte) (s : State) : Host.Outcome State Fault Refusal :=
  executeRequest [tag, 6] (fun s => ⟨clearLatched s, .ok, statusBody s⟩) s

/-- A RELOAD is taken in IDLE with every port STOPPED (R165). -/
def reloadAllowed (s : State) : Bool :=
  s.round.state == .idle && (List.finRange 4).all fun p => s.ports[p].state == .stopped

/-- RELOAD as the Hub Agent takes it (R165). -/
def reloadAction (flash : List Byte) (s : State) : State × Status :=
  if reloadAllowed s then (s.withLoader (s.loader.begin flash), .ok) else (s, .badState)

/-- RELOAD (R165). -/
def execReload (tag : Byte) (flash : List Byte) (s : State) : Host.Outcome State Fault Refusal :=
  runAction [tag, 7] (reloadAction flash) s

/-- RESTART as the Hub Agent takes it (R166): the agent enters RESTARTING and takes no request from its queue. -/
def restartTaken (tag : Byte) (s : State) : State :=
  let s := placeReply [tag, 8] .ok [] s
  s.withHub { s.hub with agent := .restarting }

/-- RESTART (R166): answered BUSY while the Preset Loader runs (R158). -/
def execRestart (tag : Byte) (s : State) : Host.Outcome State Fault Refusal :=
  if decodeEnds [tag, 8] s then
    if s.loader.running then finish (nextRequest (placeReply [tag, 8] .busy [] s)) else finish (restartTaken tag s)
  else .next s

end Sys2Proof.Machine
end

