-- ==== Sys2Proof/Machine/Events.lean ====
section
/-! DEFINITION. The meanings of the part's own events: the row ports', the press path's, the round's and the buzz race's
timers, the commit pass and the ranking pass, the Composer's, and the Hub Agent's coalescing timers. Each takes place only
when it is due (log entry 1). -/

namespace Sys2Proof.Machine

/-! ## Row ports (chapter 3) -/

/-- The wake timer has expired in WAKING (R46). -/
def wakeDue (p : Fin 4) (s : State) : Bool := s.ports[p].state == .waking && expired s.ports[p].wakeTimer s.now

/-- WAKE_TIMER_EXPIRY (R46). -/
def execWakeTimerExpiry (p : Fin 4) (s : State) : Host.Outcome State Fault Refusal :=
  whenDue (wakeDue p s) (enterSweeping p) s

/-- The sweep before has ended, so that a new one may start (R48). -/
def Port.betweenSweeps (p : Port) : Bool :=
  match p.sweep with
  | some sw => sw.ended
  | none => true

/-- A sweep starts P ticks after the one before it (R48). -/
def sweepStartDue (p : Fin 4) (s : State) : Bool :=
  s.ports[p].state == .sweeping && s.ports[p].betweenSweeps && expired s.ports[p].sweepTimer s.now

/-- SWEEP_START (R48). -/
def execSweepStart (p : Fin 4) (s : State) : Host.Outcome State Fault Refusal :=
  whenDue (sweepStartDue p s) (startSweep p) s

/-- SWEEP_END (R50): at the end of the last slot of the running sweep. -/
def execSweepEnd (p : Fin 4) (s : State) : Host.Outcome State Fault Refusal :=
  match s.ports[p].sweep with
  | some sw => whenDue (!sw.ended && atOrAfter s.now (s.ports[p].sweepEnd sw)) (endSweep p sw) s
  | none => .next s

/-- HANDSET_FRAME_RECEIVED (R55). -/
def execHandsetFrameReceived (p : Fin 4) (start last : Time) (bytes : List Byte) (s : State) :
    Host.Outcome State Fault Refusal :=
  finish (s.setPort p (s.ports[p].receive start last bytes s.now))

/-- BREAK_BEGIN (R57): a break is watched for in SWEEPING alone, outside the FQ256's own transmission (R42). -/
def execBreakBegin (p : Fin 4) (line : HeldLine) (s : State) : Host.Outcome State Fault Refusal :=
  whenDue (s.ports[p].breakDue line.active s.now) (beginBreak p line.idle) s

/-- LINE_IDLE_CHANGE (R58): watched in BROKEN alone. -/
def execLineIdleChange (p : Fin 4) (active : Bool) (s : State) : Host.Outcome State Fault Refusal :=
  whenDue (s.ports[p].state == .broken) (lineChanged p active) s

/-- BREAK_END (R58): the idle timer has expired in BROKEN. -/
def execBreakEnd (p : Fin 4) (s : State) : Host.Outcome State Fault Refusal :=
  whenDue (s.ports[p].state == .broken && expired s.ports[p].idleTimer s.now) (endBreak p) s

/-! ## Presses (chapters 2 and 4) -/

/-- INBOX_TAKE (R65): the Press Stamper holds nothing and an Inbox holds an entry. -/
def execInboxTake (s : State) : Host.Outcome State Fault Refusal :=
  match s.stamper.inHand, arbiterChoice s with
  | none, some p => finish (takeEntry p s)
  | none, none => .next s
  | some _, _ => .next s

/-- FRAME_HANDOFF (R32). -/
def execFrameHandoff (s : State) : Host.Outcome State Fault Refusal :=
  match s.stamper.inHand with
  | some f => finish (handOff f s)
  | none => .next s

/-! ## The round's timers (chapters 1 and 6) -/

/-- The window timer has expired in OPEN (R15). -/
def windowDue (s : State) : Bool :=
  match s.round.state, s.round.window with
  | .opened, .running deadline => atOrAfter s.now deadline
  | _, _ => false

/-- WINDOW_EXPIRY (R15). -/
def execWindowExpiry (s : State) : Host.Outcome State Fault Refusal := whenDue (windowDue s) closeAnswering s

/-- The settle timer has expired in CLOSING (R17). -/
def settleDue (s : State) : Bool := s.round.state == .closing && expired s.round.settle s.now

/-- SETTLE_EXPIRY (R17). -/
def execSettleExpiry (s : State) : Host.Outcome State Fault Refusal := whenDue (settleDue s) settleExpires s

/-- The head settle timer has expired (R96). -/
def headDue (s : State) : Bool := expired s.buzz.headTimer s.now

/-- HEAD_SETTLE_EXPIRY (R96): the grant test is applied again. -/
def execHeadSettleExpiry (s : State) : Host.Outcome State Fault Refusal := whenDue (headDue s) grantTest s

/-- The answer timer has expired in FLOOR (R99). -/
def answerDue (s : State) : Bool := s.round.state == .floor && expired s.buzz.answerTimer s.now

/-- ANSWER_TIMER_EXPIRY (R99). -/
def execAnswerTimerExpiry (s : State) : Host.Outcome State Fault Refusal := whenDue (answerDue s) answerTimeout s

/-! ## The commit pass and the ranking pass (chapter 7) -/

/-- The next seat of a running walk (R109). -/
def walkSeat (s : State) : Option (Fin 256) := if s.score.walk.walking then finOf 256 s.score.walk.position else none

/-- WALK_SEAT_VISIT (R109). -/
def execWalkSeatVisit (s : State) : Host.Outcome State Fault Refusal :=
  match walkSeat s with
  | some k => finish (visitSeat k s)
  | none => .next s

/-- The walk has visited seat 255, 1 tick or more after its beginning (R109). -/
def applicationDue (s : State) : Bool :=
  s.score.walk.walking && decide (256 ≤ s.score.walk.position) && tickPassed s.score.walk.start s.now

/-- APPLICATION_STEP (R115). -/
def execApplicationStep (s : State) : Host.Outcome State Fault Refusal := whenDue (applicationDue s) applicationStep s

/-- A ranking pass ends 1 tick or more after its start (R123). -/
def publicationDue (s : State) : Bool := s.sorter.running && tickPassed s.sorter.start s.now

/-- PUBLICATION_STEP (R124). -/
def execPublicationStep (s : State) : Host.Outcome State Fault Refusal := whenDue (publicationDue s) publish s

/-! ## The Composer (chapter 8) -/

/-- A compose ends 1 tick or more after its start (R130). -/
def composeDue (s : State) : Bool := s.comp.backState == .composing && tickPassed s.comp.composeStart s.now

/-- COMPOSE_END (R130). -/
def execComposeEnd (s : State) : Host.Outcome State Fault Refusal := whenDue (composeDue s) endCompose s

/-- The wall-silent timer has expired with the state clear (R139). -/
def silentDue (s : State) : Bool := !s.comp.silent && expired s.comp.silentTimer s.now

/-- WALL_SILENT_EXPIRY (R139). -/
def execWallSilentExpiry (s : State) : Host.Outcome State Fault Refusal := whenDue (silentDue s) wallFallsSilent s

/-- The internal mark timer has expired while the wall is silent (R139). -/
def internalMarkDue (s : State) : Bool := s.comp.silent && expired s.comp.markTimer s.now

/-- INTERNAL_MARK (R139). -/
def execInternalMark (s : State) : Host.Outcome State Fault Refusal := whenDue (internalMarkDue s) takeInternalMark s

/-! ## The coalescing timers (chapter 10) -/

/-- TALLY_TIMER_EXPIRY (R168). -/
def execTallyTimerExpiry (s : State) : Host.Outcome State Fault Refusal :=
  whenDue (expired s.hub.tallyTimer s.now) buildTally s

/-- SEAT_TIMER_EXPIRY (R169). -/
def execSeatTimerExpiry (s : State) : Host.Outcome State Fault Refusal :=
  whenDue (expired s.hub.seatTimer s.now) buildSeat s

end Sys2Proof.Machine
end

