-- ==== Sys2Proof/Machine/Dispatch.lean ====
section
/-! DEFINITION. The dispatcher: one arm for each command, one direct call of its meaning. -/

namespace Sys2Proof.Machine

def exec (i : Instr) (s : State) : Host.Outcome State Fault Refusal :=
  match i with
  | .hardReset strap flash => Sys2Proof.Machine.execHardReset strap flash s
  | .warmRestart => Sys2Proof.Machine.execWarmRestart s
  | .showTimeTick => Sys2Proof.Machine.execShowTimeTick s
  | .linkFrameDiscarded link start bytes => Sys2Proof.Machine.execLinkFrameDiscarded link start bytes s
  | .pass frame => Sys2Proof.Machine.execPass frame s
  | .cue frame => Sys2Proof.Machine.execCue frame s
  | .hubRequest frame => Sys2Proof.Machine.execHubRequest frame s
  | .mark frame => Sys2Proof.Machine.execMark frame s
  | .report frame => Sys2Proof.Machine.execReport frame s
  | .wallFrameEnd => Sys2Proof.Machine.execWallFrameEnd s
  | .idleFillExpiry => Sys2Proof.Machine.execIdleFillExpiry s
  | .consoleFrameEnd => Sys2Proof.Machine.execConsoleFrameEnd s
  | .requestMalformed payload => Sys2Proof.Machine.execRequestMalformed payload s
  | .readSeats tag first count => Sys2Proof.Machine.execReadSeats tag first count s
  | .readTeams tag first count => Sys2Proof.Machine.execReadTeams tag first count s
  | .readQuestions tag first count => Sys2Proof.Machine.execReadQuestions tag first count s
  | .readCues tag first count => Sys2Proof.Machine.execReadCues tag first count s
  | .readSequences tag first count => Sys2Proof.Machine.execReadSequences tag first count s
  | .readSteps tag first count => Sys2Proof.Machine.execReadSteps tag first count s
  | .readPortcfg tag first count => Sys2Proof.Machine.execReadPortcfg tag first count s
  | .readConfig tag first count => Sys2Proof.Machine.execReadConfig tag first count s
  | .readResponses tag first count => Sys2Proof.Machine.execReadResponses tag first count s
  | .readBuzzq tag first count => Sys2Proof.Machine.execReadBuzzq tag first count s
  | .readJudged tag first count => Sys2Proof.Machine.execReadJudged tag first count s
  | .readScores tag first count => Sys2Proof.Machine.execReadScores tag first count s
  | .readStandings tag first count => Sys2Proof.Machine.execReadStandings tag first count s
  | .readCommit tag first count => Sys2Proof.Machine.execReadCommit tag first count s
  | .readPortstat tag first count => Sys2Proof.Machine.execReadPortstat tag first count s
  | .writeSeats tag first records => Sys2Proof.Machine.execWriteSeats tag first records s
  | .writeTeams tag first records => Sys2Proof.Machine.execWriteTeams tag first records s
  | .writeQuestions tag first records => Sys2Proof.Machine.execWriteQuestions tag first records s
  | .writeCues tag first records => Sys2Proof.Machine.execWriteCues tag first records s
  | .writeSequences tag first records => Sys2Proof.Machine.execWriteSequences tag first records s
  | .writeSteps tag first records => Sys2Proof.Machine.execWriteSteps tag first records s
  | .writePortcfg tag first records => Sys2Proof.Machine.execWritePortcfg tag first records s
  | .writeConfig tag first records => Sys2Proof.Machine.execWriteConfig tag first records s
  | .writeReadOnlyTable tag table first records => Sys2Proof.Machine.execWriteReadOnlyTable tag table first records s
  | .actOpen tag question => Sys2Proof.Machine.execActOpen tag question s
  | .actNext tag => Sys2Proof.Machine.execActNext tag s
  | .actClose tag => Sys2Proof.Machine.execActClose tag s
  | .actCommit tag => Sys2Proof.Machine.execActCommit tag s
  | .actCancel tag => Sys2Proof.Machine.execActCancel tag s
  | .actJudge tag team verdict => Sys2Proof.Machine.execActJudge tag team verdict s
  | .actRevoke tag => Sys2Proof.Machine.execActRevoke tag s
  | .actAdjust tag team delta => Sys2Proof.Machine.execActAdjust tag team delta s
  | .actClearScores tag => Sys2Proof.Machine.execActClearScores tag s
  | .portStart tag port => Sys2Proof.Machine.execPortStart tag port s
  | .portStop tag port => Sys2Proof.Machine.execPortStop tag port s
  | .portRollCall tag port => Sys2Proof.Machine.execPortRollCall tag port s
  | .showReveal tag sequence => Sys2Proof.Machine.execShowReveal tag sequence s
  | .showStopSequence tag => Sys2Proof.Machine.execShowStopSequence tag s
  | .showFreeze tag => Sys2Proof.Machine.execShowFreeze tag s
  | .showThaw tag => Sys2Proof.Machine.execShowThaw tag s
  | .showCurtainOn tag => Sys2Proof.Machine.execShowCurtainOn tag s
  | .showCurtainOff tag => Sys2Proof.Machine.execShowCurtainOff tag s
  | .showResting tag view => Sys2Proof.Machine.execShowResting tag view s
  | .status tag => Sys2Proof.Machine.execStatus tag s
  | .reload tag flash => Sys2Proof.Machine.execReload tag flash s
  | .restart tag => Sys2Proof.Machine.execRestart tag s
  | .wakeTimerExpiry port => Sys2Proof.Machine.execWakeTimerExpiry port s
  | .sweepStart port => Sys2Proof.Machine.execSweepStart port s
  | .sweepEnd port => Sys2Proof.Machine.execSweepEnd port s
  | .handsetFrameReceived port start last bytes => Sys2Proof.Machine.execHandsetFrameReceived port start last bytes s
  | .breakBegin port line => Sys2Proof.Machine.execBreakBegin port line s
  | .lineIdleChange port active => Sys2Proof.Machine.execLineIdleChange port active s
  | .breakEnd port => Sys2Proof.Machine.execBreakEnd port s
  | .inboxTake => Sys2Proof.Machine.execInboxTake s
  | .frameHandoff => Sys2Proof.Machine.execFrameHandoff s
  | .windowExpiry => Sys2Proof.Machine.execWindowExpiry s
  | .settleExpiry => Sys2Proof.Machine.execSettleExpiry s
  | .headSettleExpiry => Sys2Proof.Machine.execHeadSettleExpiry s
  | .answerTimerExpiry => Sys2Proof.Machine.execAnswerTimerExpiry s
  | .applicationStep => Sys2Proof.Machine.execApplicationStep s
  | .publicationStep => Sys2Proof.Machine.execPublicationStep s
  | .composeEnd => Sys2Proof.Machine.execComposeEnd s
  | .wallSilentExpiry => Sys2Proof.Machine.execWallSilentExpiry s
  | .internalMark => Sys2Proof.Machine.execInternalMark s
  | .tallyTimerExpiry => Sys2Proof.Machine.execTallyTimerExpiry s
  | .seatTimerExpiry => Sys2Proof.Machine.execSeatTimerExpiry s
  | .presetSection => Sys2Proof.Machine.execPresetSection s
  | .loadEnd => Sys2Proof.Machine.execLoadEnd s
  | .walkSeatVisit => Sys2Proof.Machine.execWalkSeatVisit s
  | .readUnknownTable tag table first count => Sys2Proof.Machine.execReadUnknownTable tag table first count s

end Sys2Proof.Machine
end

