-- ==== Sys2Proof/Safety.lean ====
section
/-! DEFINITION. The words the statements use: what a command leaves unchanged, what a request's end and a notice event look
like, and the laws of the manual that every step keeps. -/

namespace Sys2Proof.Machine

/-! ## Frames -/

/-- The pieces of state a frame names: the blocks of 00_scope.md, with the Link Switch and the Hub Agent cut into the parts
that different commands change. -/
inductive Block
  | now | ports | stamper | seats | teams | questions | cues | round | resp | buzz | score | sorter | comp
  | passing | reports | replies | scoreOut | sending | receivers | linkFlags
  | agent | notices | noticeLost | tally | seatList | config
  | loader | pending
  deriving DecidableEq, Repr

/-- The piece is the same in both states. -/
def Block.same (b : Block) (s u : State) : Prop :=
  match b with
  | .now => u.now = s.now
  | .ports => u.ports = s.ports
  | .stamper => u.stamper = s.stamper
  | .seats => u.seats = s.seats
  | .teams => u.teams = s.teams
  | .questions => u.questions = s.questions
  | .cues => u.cues = s.cues
  | .round => u.round = s.round
  | .resp => u.resp = s.resp
  | .buzz => u.buzz = s.buzz
  | .score => u.score = s.score
  | .sorter => u.sorter = s.sorter
  | .comp => u.comp = s.comp
  | .passing => u.link.passQueue = s.link.passQueue ∧ u.link.hold = s.link.hold
  | .reports => u.link.reports = s.link.reports
  | .replies => u.link.replies = s.link.replies ∧ u.link.owed = s.link.owed
  | .scoreOut => u.link.scoreOut = s.link.scoreOut
  | .sending =>
    u.link.burstNext = s.link.burstNext ∧ u.link.wallTx = s.link.wallTx ∧ u.link.consoleTx = s.link.consoleTx
      ∧ u.link.fillTimer = s.link.fillTimer
  | .receivers => u.link.consoleRx = s.link.consoleRx ∧ u.link.wallRx = s.link.wallRx
  | .linkFlags =>
    u.link.linkCheck = s.link.linkCheck ∧ u.link.passOverrun = s.link.passOverrun
      ∧ u.link.requestDropped = s.link.requestDropped
  | .agent => u.hub.agent = s.hub.agent ∧ u.hub.requests = s.hub.requests
  | .notices => u.hub.notices = s.hub.notices
  | .noticeLost => u.hub.noticeLost = s.hub.noticeLost
  | .tally => u.hub.tallyEvents = s.hub.tallyEvents ∧ u.hub.tallyTimer = s.hub.tallyTimer
  | .seatList => u.hub.seatChanges = s.hub.seatChanges ∧ u.hub.seatTimer = s.hub.seatTimer
  | .config => u.hub.config = s.hub.config
  | .loader => u.loader = s.loader
  | .pending => u.pending = s.pending

/-- Every piece of state outside the named ones is the same. -/
def Keeps (changed : List Block) (s u : State) : Prop := ∀ b, b ∉ changed → b.same s u

/-- The command answers a next state: that of a state u with the property, once its idle transmitters have taken what waits
for them (R149, R153). -/
def Completes (c : Instr) (s : State) (P : State → Prop) : Prop := ∃ u, exec c s = .next (settleLinks u) ∧ P u

/-! ## Requests -/

/-- The decode of this payload ends: the agent is DECODING it since at least one tick (R158). -/
def Decoding (payload : List Byte) (s : State) : Prop := ∃ b, s.hub.agent = .decoding payload b ∧ 0 < since s.now b

/-- The decode of this payload ends while the Preset Loader does not run. -/
def Executing (payload : List Byte) (s : State) : Prop := Decoding payload s ∧ s.loader.running = false

/-- After an execution the agent decodes its oldest queued request, or is IDLE (R157). -/
def TakesNext (s u : State) : Prop :=
  match s.hub.requests with
  | [] => u.hub.agent = .idle ∧ u.hub.requests = []
  | r :: rs => u.hub.agent = .decoding r s.now ∧ u.hub.requests = rs

/-- The REPLY is placed behind those that wait, the count of replies owed stands, and the agent goes on (R152, R157). -/
def Replied (reply : List Byte) (s u : State) : Prop :=
  u.link.replies = s.link.replies ++ [reply] ∧ u.link.owed = s.link.owed ∧ TakesNext s u

/-- The REPLY of a WRITE of one record that is stored: the last byte is open (12.4). -/
def WroteOne (tag : Byte) (st : Status) (s u : State) : Prop := ∃ x, Replied [tag, 2, st.code, 1, 0, 0, x] s u

/-- The REPLY of a WRITE of one record that its owner refuses: none applied, one refused, its index (12.4). -/
def RefusedOne (tag first : Byte) (st : Status) (s u : State) : Prop := Replied [tag, 2, st.code, 0, 1, 1, first] s u

/-- The request payload whose decode a request row ends (12.4). -/
def requestOf : Instr → Option (List Byte)
  | .requestMalformed payload => some payload
  | .readSeats tag first count => some [tag, 1, 1, first, count]
  | .readTeams tag first count => some [tag, 1, 2, first, count]
  | .readQuestions tag first count => some [tag, 1, 3, first, count]
  | .readCues tag first count => some [tag, 1, 4, first, count]
  | .readSequences tag first count => some [tag, 1, 5, first, count]
  | .readSteps tag first count => some [tag, 1, 6, first, count]
  | .readPortcfg tag first count => some [tag, 1, 7, first, count]
  | .readConfig tag first count => some [tag, 1, 8, first, count]
  | .readResponses tag first count => some [tag, 1, 9, first, count]
  | .readBuzzq tag first count => some [tag, 1, 10, first, count]
  | .readJudged tag first count => some [tag, 1, 11, first, count]
  | .readScores tag first count => some [tag, 1, 12, first, count]
  | .readStandings tag first count => some [tag, 1, 13, first, count]
  | .readCommit tag first count => some [tag, 1, 14, first, count]
  | .readPortstat tag first count => some [tag, 1, 15, first, count]
  | .readUnknownTable tag table first count => some [tag, 1, table, first, count]
  | .writeSeats tag first records => some ([tag, 2, 1, first] ++ records)
  | .writeTeams tag first records => some ([tag, 2, 2, first] ++ records)
  | .writeQuestions tag first records => some ([tag, 2, 3, first] ++ records)
  | .writeCues tag first records => some ([tag, 2, 4, first] ++ records)
  | .writeSequences tag first records => some ([tag, 2, 5, first] ++ records)
  | .writeSteps tag first records => some ([tag, 2, 6, first] ++ records)
  | .writePortcfg tag first records => some ([tag, 2, 7, first] ++ records)
  | .writeConfig tag first records => some ([tag, 2, 8, first] ++ records)
  | .writeReadOnlyTable tag table first records => some ([tag, 2, table, first] ++ records)
  | .actOpen tag question => some [tag, 3, 1, question]
  | .actNext tag => some [tag, 3, 2]
  | .actClose tag => some [tag, 3, 3]
  | .actCommit tag => some [tag, 3, 4]
  | .actCancel tag => some [tag, 3, 5]
  | .actJudge tag team verdict => some [tag, 3, 6, team, verdict]
  | .actRevoke tag => some [tag, 3, 7]
  | .actAdjust tag team delta => some ([tag, 3, 8, team] ++ be16 delta.toNat)
  | .actClearScores tag => some [tag, 3, 9]
  | .portStart tag port => some [tag, 4, 32, port]
  | .portStop tag port => some [tag, 4, 33, port]
  | .portRollCall tag port => some [tag, 4, 34, port]
  | .showReveal tag sequence => some [tag, 5, 16, sequence]
  | .showStopSequence tag => some [tag, 5, 17]
  | .showFreeze tag => some [tag, 5, 18]
  | .showThaw tag => some [tag, 5, 19]
  | .showCurtainOn tag => some [tag, 5, 20]
  | .showCurtainOff tag => some [tag, 5, 21]
  | .showResting tag view => some [tag, 5, 22, view]
  | .status tag => some [tag, 6]
  | .reload tag _ => some [tag, 7]
  | .restart tag => some [tag, 8]
  | _ => none

/-- The request that names the same action as a cue entry (R5): its row and its kind byte. -/
def requestFor (tag : Byte) (c : CueEntry) : Instr × Byte :=
  match c.action with
  | .openQuestion => (.actOpen tag c.argument, 3)
  | .next => (.actNext tag, 3)
  | .close => (.actClose tag, 3)
  | .commit => (.actCommit tag, 3)
  | .cancel => (.actCancel tag, 3)
  | .reveal => (.showReveal tag c.argument, 5)
  | .stopSequence => (.showStopSequence tag, 5)
  | .freeze => (.showFreeze tag, 5)
  | .thaw => (.showThaw tag, 5)
  | .curtainOn => (.showCurtainOn tag, 5)
  | .curtainOff => (.showCurtainOff tag, 5)

/-- The READ row of a table (12.4). -/
def readOf (t : Table) (tag first count : Byte) : Instr :=
  match t with
  | .seats => .readSeats tag first count
  | .teams => .readTeams tag first count
  | .questions => .readQuestions tag first count
  | .cues => .readCues tag first count
  | .sequences => .readSequences tag first count
  | .steps => .readSteps tag first count
  | .portcfg => .readPortcfg tag first count
  | .config => .readConfig tag first count
  | .responses => .readResponses tag first count
  | .buzzq => .readBuzzq tag first count
  | .judged => .readJudged tag first count
  | .scores => .readScores tag first count
  | .standings => .readStandings tag first count
  | .commit => .readCommit tag first count
  | .portstat => .readPortstat tag first count

/-- How many whole records of a table a READ REPLY holds at most (R160, log entry 9). -/
def readRoom : Table → Nat
  | .seats => 24 | .teams => 15 | .questions => 9 | .cues => 40 | .sequences => 61 | .steps => 40 | .portcfg => 61
  | .config => 24 | .responses => 19 | .buzzq => 33 | .judged => 48 | .scores => 24 | .standings => 20 | .commit => 4
  | .portstat => 34

/-- The WRITE row of a table; the read-only tables share one (12.4). -/
def writeOf (t : Table) (tag first : Byte) (records : List Byte) : Instr :=
  match t with
  | .seats => .writeSeats tag first records
  | .teams => .writeTeams tag first records
  | .questions => .writeQuestions tag first records
  | .cues => .writeCues tag first records
  | .sequences => .writeSequences tag first records
  | .steps => .writeSteps tag first records
  | .portcfg => .writePortcfg tag first records
  | .config => .writeConfig tag first records
  | t => .writeReadOnlyTable tag t.number first records

/-- The outcomes that the owner of a table gives the records of a WRITE, taken in ascending index, and the state after the
last (R161). -/
def recordOutcomes (t : Table) : Nat → List (List Byte) → State → List Status × State
  | _, [], s => ([], s)
  | i, r :: rs, s =>
    let x := writeRecord t i r s
    let y := recordOutcomes t (i + 1) rs x.1
    (x.2 :: y.1, y.2)

/-! ## What several commands do alike -/

/-- A change of data for the current view, when `counts` says that it is one (R128, R130): the Composer starts to compose the
view as it then stands, or sets recompose-pending while a compose runs. -/
def Refreshed (counts : Bool) (s u : State) : Prop :=
  if counts = false then u.comp = s.comp
  else if s.comp.backState = .composing then u.comp = { s.comp with recompose := true }
  else u.comp = { s.comp with back := composedView u, backState := .composing, composeStart := s.now }

/-- A ranking pass is triggered (R123, R125): it starts with the working list of this moment, or rerank-pending is set while
one runs. -/
def Triggered (s u : State) : Prop :=
  if s.sorter.running then u.sorter = { s.sorter with rerank := true }
  else u.sorter = { s.sorter with working := rankedStandings u, running := true, start := s.now }

/-! ## Notices, lamps and the Pass Queue -/

/-- A SEAT event for seat k with these causes, on the seats as u has them (R41, R169); no cause, no event. -/
def SeatEvent (k : Fin 256) (causes : Causes) (s u : State) : Prop :=
  let v := raiseSeat k causes (s.withSeats u.seats)
  u.hub.seatChanges = v.hub.seatChanges ∧ u.hub.seatTimer = v.hub.seatTimer ∧ u.hub.notices = v.hub.notices
    ∧ u.hub.noticeLost = v.hub.noticeLost

/-- Notice events raised one after the other (R167). -/
def raiseAll (bodies : List NoticeBody) (s : State) : State := bodies.foldl (fun s b => raiseNotice b s) s

/-- The Notice Queue is the one that these events, raised in this order at this show time, leave. -/
def NoticesRaised (bodies : List NoticeBody) (s u : State) : Prop :=
  u.hub.notices = (raiseAll bodies s).hub.notices ∧ u.hub.noticeLost = (raiseAll bodies s).hub.noticeLost

/-- A notice event that is built at once (R167), or a SEAT event of a seat with its causes (R41, R169). -/
inductive HubEvent
  | notice (body : NoticeBody)
  | seat (k : Fin 256) (causes : Causes)

/-- Notice events and SEAT events raised one after the other. -/
def raiseEvents (events : List HubEvent) (s : State) : State :=
  events.foldl (fun v e => match e with | .notice b => raiseNotice b v | .seat k causes => raiseSeat k causes v) s

/-- The Notice Queue and the pending seat list are those that these events, raised in this order, leave; a SEAT event reads its
seat as u has it. -/
def HubEvents (events : List HubEvent) (s u : State) : Prop :=
  let v := raiseEvents events (s.withSeats u.seats)
  u.hub.notices = v.hub.notices ∧ u.hub.noticeLost = v.hub.noticeLost
    ∧ u.hub.seatChanges = v.hub.seatChanges ∧ u.hub.seatTimer = v.hub.seatTimer

/-- The SEAT events of a presence given to the seats of port p, by ascending position (R36, R41, log entry 28): one for each
seat it is given to that has another presence before. -/
def presenceEvents (p : Fin 4) (x : Presence) (given : Fin 64 → Bool) (s : State) : List HubEvent :=
  (List.finRange 64).map fun i =>
    .seat (seatOf p i) ⟨given i && decide (s.seats[seatOf p i].presence ≠ x), false, false, false⟩

/-- The SEAT events of every pending team applied, in ascending seat number (R29, R41): one for each seat whose team changes. -/
def pendingEvents (s : State) : List HubEvent :=
  (List.finRange 256).map fun k =>
    .seat k ⟨false, false, false, s.seats[k].pending.any fun t => decide (t ≠ s.seats[k].team)⟩

/-- A request to queue seat k's position for feedback (R51): nothing on a port that is not SWEEPING, for a position at or above
the positions count, or for one queued already; appended while the queue holds fewer than 16; otherwise a lamp sweep starts
from position 0 and the queue empties (R53). -/
def FeedbackAsked (k : Fin 256) (s u : State) : Prop :=
  let p := portOf k
  let queue := s.ports[p].feedback
  Keeps [.seats, .ports] s u ∧ (∀ o : Fin 4, o ≠ p → u.ports[o] = s.ports[o]) ∧
  if s.ports[p].state ≠ .sweeping ∨ s.ports[p].cfg.positions ≤ (posOf k).val ∨ posOf k ∈ queue then
    u.seats = s.seats ∧ u.ports = s.ports
  else if queue.length < 16 then
    u.ports[p] = { s.ports[p] with feedback := queue ++ [posOf k] }
    ∧ ∀ j : Fin 256, u.seats[j] = if j = k then { s.seats[k] with queued := true } else s.seats[j]
  else
    u.ports[p] = { s.ports[p] with feedback := [], lampNext := some 0 }
    ∧ ∀ j : Fin 256, u.seats[j] =
        if portOf j = p ∧ posOf j ∈ queue then { s.seats[j] with queued := false } else s.seats[j]

/-- A lamp request for seat k (R39): nothing when its lamp has the value; otherwise the lamp is set and its position is queued
for feedback. No other seat's lamp moves. -/
def LampShown (k : Fin 256) (lamp : Lamp) (s u : State) : Prop :=
  if s.seats[k].lamp = lamp then u.seats = s.seats ∧ u.ports = s.ports
  else
    ∃ a b : State,
      (∀ j : Fin 256, a.seats[j] = if j = k then { s.seats[k] with lamp := lamp } else s.seats[j])
      ∧ Keeps [.seats] s a ∧ FeedbackAsked k a b ∧ u.seats = b.seats ∧ u.ports = b.ports

/-- Lamps asked for one seat after the other (R39). -/
def LampsShown : List (Fin 256 × Lamp) → State → State → Prop
  | [], s, u => u.seats = s.seats ∧ u.ports = s.ports
  | (k, lamp) :: rest, s, u => ∃ a, LampShown k lamp s a ∧ Keeps [.seats, .ports] s a ∧ LampsShown rest a u

/-- A frame offered to the Pass Queue (R145, R146): appended while it holds fewer than 8, with HOLD asserted as it reaches 6,
and discarded with PASS_OVERRUN set otherwise. -/
def Offered (f : Frame) (s u : State) : Prop :=
  u.link.linkCheck = s.link.linkCheck ∧ u.link.requestDropped = s.link.requestDropped ∧
  if s.link.passQueue.length < 8 then
    u.link.passQueue = s.link.passQueue ++ [f] ∧ u.link.passOverrun = s.link.passOverrun
      ∧ u.link.hold = (s.link.hold || decide (s.link.passQueue.length = 5))
  else u.link.passQueue = s.link.passQueue ∧ u.link.passOverrun = true ∧ u.link.hold = s.link.hold

/-! ## Receivers and transmitters -/

/-- More than 8 ticks, 1 ms, have passed between two successive ones of these readings of the counter (R142). -/
def Gapped (times : List Time) : Prop :=
  ∃ (i : Nat) (a b : Time), times[i]? = some a ∧ times[i + 1]? = some b ∧ 8 < (b - a).toNat

/-- The readings at which the bytes after a frame's start mark arrived: class, length, payload and the two check bytes. -/
def arrivalTimes (a : Arrival) : List Time :=
  a.cls :: a.length :: a.payload.map (·.time) ++ [a.checkHigh, a.checkLow]

/-- The bytes after the start mark of a frame of a class that arrived so: class, length, payload and check (R176). -/
def ArrivedAs (cls : Byte) (a : Arrival) (heard : List Heard) : Prop :=
  let payload := a.payload.map (·.value)
  heard.map (·.value) = cls :: byteOf payload.length :: payload ++ be16 (Frame.check ⟨cls, payload⟩).toNat
    ∧ heard.map (·.time) = arrivalTimes a

/-- This payload arrived in a frame between two of whose bytes, start mark included, no gap was longer than 8 ticks (R142). -/
def ArrivedWhole (a : Arrival) (payload : List Byte) : Prop :=
  a.payload.map (·.value) = payload ∧ ¬ Gapped (a.start :: arrivalTimes a)

/-- A receiver after the frame with these bytes since the start mark of this reading (R142): from the byte after the start mark
when the frame was broken, and from the byte after the frame otherwise, it goes to the next start mark it already holds, or hunts. -/
def HuntsOn (r : Receiver) (start : Time) (bytes : List Heard) (broken : Bool) (r' : Receiver) : Prop :=
  let held := match r with
    | .hunting => bytes
    | .collecting begun more => if begun = start ∧ bytes <+: more then more else bytes
  let rest := if broken then held else held.drop bytes.length
  ((∀ x ∈ rest, x.value ≠ 165) → r' = .hunting)
    ∧ ∀ front x back, rest = front ++ x :: back → x.value = 165 → (∀ y ∈ front, y.value ≠ 165) → r' = .collecting x.time back

/-- The receiver of this link goes on after a frame (R142); the other link's is untouched. -/
def ReceiverGoesOn (link : Link) (start : Time) (bytes : List Heard) (broken : Bool) (s u : State) : Prop :=
  match link with
  | .console => HuntsOn s.link.consoleRx start bytes broken u.link.consoleRx ∧ u.link.wallRx = s.link.wallRx
  | .wall => HuntsOn s.link.wallRx start bytes broken u.link.wallRx ∧ u.link.consoleRx = s.link.consoleRx

/-- A good frame of a class has been taken from this link (R142, R143): its receiver goes on after it, and nothing else changes. -/
def FrameTaken (link : Link) (cls : Byte) (a : Arrival) (s u : State) : Prop :=
  (∃ heard, ArrivedAs cls a heard ∧ ReceiverGoesOn link a.start heard false s u) ∧ Keeps [.receivers] s u ∧ u.free = s.free

/-- A name field of 13 bytes (12.5, 12.7): the length, the name, and bytes that are open. -/
def NameField (name bytes : List Byte) : Prop :=
  bytes.length = 13 ∧ ∃ rest, bytes = byteOf name.length :: name.take 12 ++ rest

/-- A row of a SCORE frame (12.7); the marks byte is that of 12.1. -/
def RowBytes (r : Row) (bytes : List Byte) : Prop :=
  match r with
  | .team standing t name highlight invert =>
    ∃ (field : List Byte) (marks : Byte), NameField name field ∧ marks.toNat = 32 * highlight.toNat + 64 * invert.toNat
      ∧ bytes = (match standing with
        | some e => [byteOf e.rank, byteOf t.val] ++ field ++ sbe32 e.total ++ be16 e.correct ++ sbe32 e.last
        | none => [255, byteOf t.val] ++ field ++ [0, 0, 0, 0, 0, 0, 0, 0, 0, 0]) ++ [marks]
  | .buzz place e name holder highlight invert =>
    ∃ (field : List Byte) (marks : Byte), NameField name field
      ∧ marks.toNat = 8 * e.overtaken.toNat + 16 * e.tie.toNat + 32 * highlight.toNat + 64 * invert.toNat + 128 * holder.toNat
      ∧ bytes = [byteOf place, byteOf e.team.val] ++ field ++ [byteOf e.seat.val, marks]
  | .option k count percent => bytes = [byteOf k] ++ be16 count ++ [byteOf percent]

/-- The view header of a SCORE frame (R127, 12.7). -/
def viewHeader (v : ViewImage) : List Byte :=
  [v.view.code, byteOf v.rows.length]
    ++ (match v.step with | some (n, k) => [byteOf n.val, byteOf k] | none => [255, 255])
    ++ be32 v.start.toNat
    ++ (match v.extra with
      | .none => [0, 0, 0, 0]
      | .card t => [byteOf t.val, 0, 0, 0]
      | .histogram q o a => [optFin q, optByte o] ++ be16 a
      | .buzz q holder steals => [optFin q, optFin holder, byteOf steals, 0]
      | .countdown q figure => [optFin q, 0] ++ be16 (figure.getD 65535))

/-- One SCORE frame of a burst (R148, 12.7): burst number, index and count, refresh number or none, view header, its rows. -/
def ScoreFrame (number : Byte) (index count : Byte) (b : Burst) (rows : List Row) (f : Frame) : Prop :=
  f.cls = 7 ∧ ∃ (x : Byte) (fields : List (List Byte)),
    f.payload = [number, index, count] ++ (match b.refresh with | some r => [1, r] | none => [0, x]) ++ viewHeader b.image
      ++ fields.flatten
    ∧ List.Forall₂ RowBytes rows fields

/-- The wall transmitter begins a burst (R148, R150): it leaves the slot as one SCORE frame, or as two when it has more than 8
rows, under the next burst number, and the idle-fill timer stops. -/
def BurstBegun (b : Burst) (s u : State) : Prop :=
  (∃ f rest, u.link.wallTx = some ⟨f, rest⟩
    ∧ if b.image.rows.length ≤ 8 then ScoreFrame s.link.burstNext 1 1 b b.image.rows f ∧ rest = []
      else ScoreFrame s.link.burstNext 1 2 b (b.image.rows.take 8) f
        ∧ ∃ g, rest = [g] ∧ ScoreFrame s.link.burstNext 2 2 b (b.image.rows.drop 8) g)
  ∧ u.link.scoreOut = none ∧ u.link.burstNext = s.link.burstNext + 1 ∧ u.link.fillTimer = none
  ∧ u.link.consoleTx = s.link.consoleTx ∧ Keeps [.scoreOut, .sending] s u

/-- The wall transmitter begins the oldest Pass Queue frame (R145, R146): HOLD is released when 2 are left. -/
def PassBegun (f : Frame) (queue : List Frame) (s u : State) : Prop :=
  u.link.wallTx = some ⟨f, []⟩ ∧ u.link.passQueue = queue ∧ u.link.hold = (s.link.hold && decide (queue.length ≠ 2))
  ∧ u.link.fillTimer = none ∧ u.link.burstNext = s.link.burstNext ∧ u.link.consoleTx = s.link.consoleTx
  ∧ Keeps [.passing, .sending] s u

/-- What an idle wall transmitter takes (R149): a waiting burst while the Pass Queue is below the urgent level, else the oldest
Pass Queue frame, else a waiting burst, else nothing. A transmitter that sends takes nothing. -/
def WallTaken (s u : State) : Prop :=
  match s.link.wallTx, s.link.scoreOut, s.link.passQueue with
  | some _, _, _ => u = s
  | none, none, [] => u = s
  | none, some b, [] => BurstBegun b s u
  | none, none, f :: queue => PassBegun f queue s u
  | none, some b, f :: queue =>
    if (f :: queue).length < s.hub.config.urgent then BurstBegun b s u else PassBegun f queue s u

/-- A marks byte with no other bit set (12.1): STALE bit 0, CLAMPED bit 1, OVERRUN bit 2, OVERTAKEN bit 3, TIE bit 4. -/
def MarksByte (m : Marks) (overtaken tie : Bool) (b : Byte) : Prop :=
  b.toNat = m.stale.toNat + 2 * m.clamped.toNat + 4 * m.overrun.toNat + 8 * overtaken.toNat + 16 * tie.toNat

/-- One entry of a SEAT notice (12.6): seat, causes, presence, team, class, battery-low, time. -/
def SeatChangeBytes (e : SeatChange) (bytes : List Byte) : Prop :=
  ∃ causes : Byte,
    causes.toNat = e.causes.presence.toNat + 2 * e.causes.cls.toNat + 4 * e.causes.battery.toNat + 8 * e.causes.team.toNat
    ∧ bytes = [byteOf e.seat.val, causes, e.presence.code, optFin e.team,
        (match e.cls with | some c => c.code | none => 255), flagByte e.battery] ++ be32 e.time.toNat

/-- The payload of a NOTICE frame (12.6): kind, subkind, build time, and the body of its kind. What a clear presence flag leaves
without a value is open (log entry 5). -/
def NoticeBytes (n : Notice) (payload : List Byte) : Prop :=
  let is (kind subkind : Byte) (body : List Byte) : Prop := payload = [kind, subkind] ++ be32 n.time.toNat ++ body
  let kindOf (k : Option QKind) : Byte := match k with | some x => x.code | none => 255
  match n.body with
  | .roundState st q mark none => ∃ counts : List Byte, counts.length = 16 ∧ is 0 0 ([st.code, optFin q, flagByte mark, 0] ++ counts)
  | .roundState st q mark (some v) => is 0 0 ([st.code, optFin q, flagByte mark, 1] ++ v.toList.map byteOf)
  | .cueRefused number st => is 0 1 (be16 number.toNat ++ [st.code])
  | .openDropped q st => is 0 2 [byteOf q.val, st.code]
  | .committed q k points correct totals saturated =>
    is 0 3 ([optFin q, kindOf k] ++ ((List.finRange 16).map fun t =>
      sbe16 points[t] ++ [byteOf correct[t]] ++ sbe32 totals[t] ++ [flagByte saturated[t]]).flatten)
  | .revoked q points correct totals =>
    is 0 4 ([optFin q] ++ ((List.finRange 16).map fun t =>
      sbe16 points[t] ++ [byteOf correct[t]] ++ sbe32 totals[t]).flatten)
  | .adjusted t requested applied total => is 0 5 ([byteOf t.val] ++ sbe16 requested ++ sbe16 applied ++ sbe32 total)
  | .cleared => is 0 6 []
  | .tally q k t =>
    is 1 0 ([optFin q, kindOf k] ++ be16 t.counts[0] ++ be16 t.counts[1] ++ be16 t.counts[2] ++ be16 t.counts[3]
      ++ be16 t.counts[4] ++ be16 t.counts[5] ++ be16 t.answered)
  | .buzzQueued q e place => ∃ marks, MarksByte e.marks e.overtaken e.tie marks
      ∧ is 2 0 ([optFin q, byteOf e.seat.val, byteOf e.team.val] ++ be32 e.time.toNat ++ [marks, byteOf place])
  | .falseStart q seat team time m => ∃ marks, MarksByte m false false marks
      ∧ is 2 1 ([optFin q, byteOf seat.val, byteOf team.val] ++ be32 time.toNat ++ [marks])
  | .floor q e steals expiry => ∃ (marks : Byte) (timer : List Byte), MarksByte e.marks e.overtaken e.tie marks
      ∧ timer.length = 4 ∧ (∀ x, expiry = some x → timer = be32 x.toNat)
      ∧ is 2 2 ([optFin q, byteOf e.seat.val, byteOf e.team.val] ++ be32 e.time.toNat
          ++ [marks, byteOf steals, flagByte expiry.isSome] ++ timer)
  | .verdict q j steals =>
    is 2 3 ([optFin q, byteOf j.seat.val, byteOf j.team.val, j.verdict.code] ++ sbe16 j.points ++ [byteOf steals])
  | .seats changes => ∃ entries : List (List Byte), List.Forall₂ SeatChangeBytes changes entries
      ∧ is 3 0 (byteOf changes.length :: entries.flatten)
  | .rollDone p present absent silent => is 4 0 [byteOf p.val, byteOf present, byteOf absent, byteOf silent]
  | .breakBegin p => is 4 1 [byteOf p.val]
  | .breakEnd p => is 4 2 [byteOf p.val]
  | .help seat team st q time m => ∃ marks, MarksByte m false false marks
      ∧ is 5 0 ([byteOf seat.val, optFin team, st.code, optFin q] ++ be32 time.toNat ++ [marks])
  | .answer seat team q a time m changes => ∃ marks, MarksByte m false false marks
      ∧ is 6 0 ([byteOf seat.val, byteOf team.val, optFin q] ++ (match a with | .option o => be16 o.val | .value v => be16 v)
          ++ be32 time.toNat ++ [marks, byteOf changes])
  | .wallSilent r => ∃ x : Byte, (∀ y, r = some y → x = y) ∧ is 7 0 [flagByte r.isSome, x]
  | .wallReturn r => is 7 1 [r]
  | .sequenceEnded x => is 7 2 [byteOf x.val]
  | .preset r refused => is 8 0 (r.code :: be16 refused)

/-- What an idle console transmitter takes (R153, R152): the oldest REPLY, which is then no longer owed, else the oldest REPORT,
else the oldest NOTICE, else nothing. A transmitter that sends takes nothing. -/
def ConsoleTaken (s u : State) : Prop :=
  match s.link.consoleTx, s.link.replies, s.link.reports, s.hub.notices with
  | some _, _, _, _ => u = s
  | none, [], [], [] => u = s
  | none, r :: rs, _, _ =>
    u.link = { s.link with consoleTx := some ⟨4, r⟩, replies := rs, owed := s.link.owed - 1 }
    ∧ Keeps [.sending, .replies] s u
  | none, [], r :: rs, _ =>
    u.link = { s.link with consoleTx := some ⟨6, r⟩, reports := rs } ∧ Keeps [.sending, .reports] s u
  | none, [], [], n :: ns =>
    (∃ payload, u.link = { s.link with consoleTx := some ⟨5, payload⟩ } ∧ NoticeBytes n payload)
    ∧ u.hub.notices = ns ∧ Keeps [.sending, .notices] s u

/-! ## Beacons and marks -/

/-- A beacon sent (R48 to R53, R63) by port p, from the port record `pt`: its sequence number is the last plus 1; its summary is
the round's; its check positions go up from the pointer, 4 of them, wrapping outside a roll call and ending with it; its
entries are the lamp sweep's next 6 positions, and what room is left goes to the oldest queued ones, read now. -/
def BeaconSent (p : Fin 4) (pt : Port) (s u : State) : Prop :=
  let n := pt.cfg.positions
  let pointer := if n ≤ pt.checkPointer then 0 else pt.checkPointer
  let roll := match pt.roll with | some (_ + 1) => true | _ => false
  let checked := if roll then min 4 (n - pointer) else min 4 n
  let lamps := match pt.lampNext with | some m => (List.range (min 6 (n - m))).map fun i => m + i | none => []
  let more := match pt.lampNext with | some m => if n ≤ m + 6 then none else some (m + 6) | none => none
  let room := if more = none then 6 - lamps.length else 0
  ∃ b : Beacon,
    b.sequence = pt.lastSequence + 1
    ∧ b.summary = ⟨s.round.current, s.round.state.windowCode, s.round.current.map fun q => s.questions[q].kind,
        s.round.current.map fun q => s.questions[q].options⟩
    ∧ b.roll = roll
    ∧ b.checks.map Fin.val = (List.range checked).map (fun i => (pointer + i) % n)
    ∧ b.feedback.map (fun e => e.position.val) = lamps ++ (pt.feedback.take room).map Fin.val
    ∧ (∀ e ∈ b.feedback, e.press = s.seats[seatOf p e.position].lastPress ∧ e.lamp = s.seats[seatOf p e.position].lamp)
    ∧ b.bytes.length = 33 ∧ b.bytes.head? = some 90 ∧ (b.bytes.drop 1).sum = 0
    ∧ u.ports[p] = { pt with
        lastSequence := pt.lastSequence + 1
        sweepTimer := some (s.now + BitVec.ofNat 32 (pt.cfg.period * 8))
        sweep := some ⟨b, b.bytes, s.now, [], [], false, pt.sweep.isNone⟩
        feedback := pt.feedback.drop room
        lampNext := more
        checkPointer := (pointer + checked) % n
        roll := pt.roll.map fun m => m - 1 }
    ∧ (∀ o : Fin 4, o ≠ p → u.ports[o] = s.ports[o])
    ∧ u.stamper.lastServed = s.stamper.lastServed ∧ u.stamper.inHand = s.stamper.inHand
    ∧ ∀ (o : Fin 4) (i : Fin 16), u.stamper.history[o][i] =
        if o = p ∧ i = pt.lastSequence + 1 then some s.now else s.stamper.history[o][i]

/-- Step 2 of a mark (R131, R132): a READY back buffer swaps while the freeze flag is clear, and a burst of the new front view,
or of BLANK while the curtain is on, takes the Score Out slot. -/
def BuffersSwap (refresh : Option Byte) (s u : State) : Prop :=
  if s.comp.backState = .ready ∧ s.comp.freeze = false then
    u.comp = { s.comp with front := s.comp.back, back := s.comp.front, backState := .stale }
    ∧ (∃ b, u.link.scoreOut = some b ∧ b.refresh = refresh
        ∧ (if s.comp.curtain then b.image.view = .blank ∧ b.image.rows = [] else b.image = s.comp.back))
    ∧ Keeps [.comp, .scoreOut] s u
  else u = s

/-- Step 3 of a mark (R131, R137): while PLAYING and not frozen the hold falls by 1; at 0 the next step is entered, or the first
again when the sequence repeats, or the player is ENDED with its notice. -/
def StepCounts (s u : State) : Prop :=
  match s.comp.player with
  | .active false p =>
    if s.comp.freeze then u = s
    else if 1 < p.hold then
      u.comp = { s.comp with player := .active false { p with hold := p.hold - 1 } } ∧ Keeps [.comp] s u
    else if p.step + 1 < p.first + p.count ∨ p.loops = true then
      ∀ n : Fin 64, n.val = (if p.step + 1 < p.first + p.count then p.step + 1 else p.first) →
        Refreshed true (s.withComp { s.comp with player := .active false { p with
          step := n, view := s.comp.steps[n].view, highlight := s.comp.steps[n].highlight
          invert := s.comp.steps[n].invert, team := s.comp.steps[n].team, hold := s.comp.steps[n].hold } }) u
        ∧ Keeps [.comp] s u
    else
      u.comp = { s.comp with player := .active true { p with hold := 0 } } ∧ NoticesRaised [.sequenceEnded p.sequence] s u
      ∧ Keeps [.comp, .notices, .noticeLost] s u
  | _ => u = s

/-- Step 4 of a mark (R128, R131): a COUNTDOWN view changes when the window timer runs now or ran at the mark before. -/
def CountdownChanges (s u : State) : Prop :=
  ∃ a : State,
    Refreshed (decide (((∃ d, s.round.window = .running d) ∨ s.comp.countdownRunning = true)
      ∧ currentView s = .countdown)) s a
    ∧ Keeps [.comp] s a ∧ Keeps [.comp] a u
    ∧ ((∃ d, s.round.window = .running d) → u.comp = { a.comp with countdownRunning := true })
    ∧ ((∀ d, s.round.window ≠ .running d) → u.comp = { a.comp with countdownRunning := false })

/-! ## Moves of the round -/

/-- The attendance snapshot (R18): for each team, its seats that are PRESENT or ANSWERED; on an ESTIMATE question those of class
DIGIT alone. -/
def AttendanceOf (v : Vector Nat 16) (s : State) : Prop :=
  ∀ t : Fin 16, v[t] = ((List.finRange 256).filter fun k => decide (s.seats[k].team = some t
    ∧ (s.seats[k].presence = .present ∨ s.resp.records[k].state = .answered)
    ∧ (s.resp.header.kind = some .estimate → s.seats[k].cls = some .digit))).length

/-- The snapshot that a move of the round takes (R18): a move out of CLOSING takes one, and no other move does. -/
def SnapshotTaken (snapshot : Option (Vector Nat 16)) (s : State) : Prop :=
  if s.round.state = .closing then ∃ v, snapshot = some v ∧ AttendanceOf v s else snapshot = none

/-- A question ends (R20, R90, R18): CLOSED or COMMITTING by its commit mode, both round timers stopped, the floor released; a
move out of CLOSING takes the attendance snapshot and its notice carries it. -/
def QuestionEnds (s u : State) : Prop :=
  let next : RoundState := if (currentQuestion s).mode = .held then .closed else .committing
  ∃ snapshot, SnapshotTaken snapshot s
  ∧ u.round = { s.round with
      state := next, settle := none, window := .stopped
      snapshot := if s.round.state = .closing then snapshot else s.round.snapshot }
  ∧ u.buzz = { s.buzz with held := false, headTimer := none, answerTimer := none }
  ∧ u.score.table = s.score.table ∧ u.score.commit = s.score.commit
  ∧ (if next = .closed then u.score.walk = s.score.walk
    else u.score.walk.walking = true ∧ u.score.walk.start = s.now ∧ u.score.walk.position = 0
      ∧ ∀ t : Fin 16, u.score.walk.sums[t] = 0 ∧ u.score.walk.answered[t] = 0 ∧ u.score.walk.correct[t] = 0)
  ∧ NoticesRaised [.roundState next s.round.current s.round.closedMark snapshot] s u
  ∧ Refreshed (decide (s.buzz.held = true ∧ currentView s = .buzzOrder)) s u
  ∧ Keeps [.round, .buzz, .score, .comp, .notices, .noticeLost] s u

/-- The head entry is granted the floor (R97, R19, R18): FLOOR, with the window paused from OPEN, or closed for good from
CLOSING; the answer timer, the lamp and the two notices. -/
def FloorGranted (e : BuzzEntry) (s u : State) : Prop :=
  let expiry := if (headerQuestion s).answerTime = 0 then none
    else some (s.now + BitVec.ofNat 32 ((headerQuestion s).answerTime * 8000))
  ∃ snapshot, SnapshotTaken snapshot s
  ∧ u.round = (if s.round.state = .closing then
      { s.round with state := .floor, settle := none, closedMark := true, snapshot := snapshot }
    else { s.round with
      state := .floor
      window := match s.round.window with | .running d => .paused (since d s.now).toNat | w => w })
  ∧ u.buzz = { s.buzz with held := true, headTimer := none, answerTimer := expiry }
  ∧ LampShown e.seat .floor s u
  ∧ NoticesRaised [.roundState .floor s.round.current (s.round.closedMark || decide (s.round.state = .closing)) snapshot,
      .floor s.resp.header.question e s.buzz.stealsUsed expiry] s u
  ∧ Refreshed (decide (currentView s = .buzzOrder)) s u
  ∧ Keeps [.round, .buzz, .seats, .ports, .comp, .notices, .noticeLost] s u

/-- The grant test (R96): in OPEN or CLOSING with no holder, the head is granted once its settle interval after the press is
over, and its timer is set otherwise. -/
def GrantTested (s u : State) : Prop :=
  match s.buzz.queue with
  | [] => u = s
  | e :: _ =>
    let due : Time := e.time + BitVec.ofNat 32 ((headerQuestion s).settle * 8)
    if s.buzz.held = true ∨ (s.round.state ≠ .opened ∧ s.round.state ≠ .closing) then u = s
    else if 0 ≤ since s.now due then FloorGranted e s u
    else u.buzz = { s.buzz with headTimer := some due } ∧ Keeps [.buzz] s u

/-- The settle interval of CLOSING is over (R17): a BUZZ question with a queue goes to the grant test, any other ends. -/
def SettleOver (s u : State) : Prop :=
  ∃ a : State, a.round = { s.round with settle := none } ∧ Keeps [.round] s a ∧
    if (currentQuestion s).kind = .buzz ∧ s.buzz.queue ≠ [] then GrantTested a u else QuestionEnds a u

/-- Answering closes in OPEN (R15, R16, R17): the close time, CLOSING with its settle timer, and with a settle of 0 the end of
the interval at once. -/
def AnsweringCloses (s u : State) : Prop :=
  ∃ a : State,
    a.round = { s.round with
      state := .closing, window := .stopped
      settle := some (s.now + BitVec.ofNat 32 ((currentQuestion s).settle * 8)) }
    ∧ a.resp = { s.resp with header := { s.resp.header with closeTime := some s.now } }
    ∧ NoticesRaised [.roundState .closing s.round.current s.round.closedMark none] s a
    ∧ Keeps [.round, .resp, .notices, .noticeLost] s a
    ∧ if (currentQuestion s).settle = 0 then SettleOver a u else u = a

/-- A verdict recorded for the holder e (R99, R100): the Judged List entry, the lamp, the notice with the steals used after the
release; the answer timer stops. -/
def VerdictRecorded (v : Verdict) (e : BuzzEntry) (points : Int) (steals : Nat) (s u : State) : Prop :=
  u.buzz = { s.buzz with judged := s.buzz.judged ++ [⟨e.team, e.seat, v, points⟩], answerTimer := none }
  ∧ LampShown e.seat (if v = .right then .right else .wrong) s u
  ∧ NoticesRaised [.verdict s.resp.header.question ⟨e.team, e.seat, v, points⟩ steals] s u
  ∧ Keeps [.buzz, .seats, .ports, .notices, .noticeLost] s u

/-- The floor is open again after a wrong verdict (R19): OPEN with the rest of its window, or CLOSING with its settle interval
anew once the window has closed. -/
def FloorOpenAgain (s u : State) : Prop :=
  (if s.round.closedMark then
      u.round = { s.round with
        state := .closing, settle := some (s.now + BitVec.ofNat 32 ((currentQuestion s).settle * 8)) }
    else u.round = { s.round with
      state := .opened
      window := match s.round.window with | .paused r => .running (s.now + BitVec.ofNat 32 r) | w => w })
  ∧ NoticesRaised [.roundState (if s.round.closedMark then .closing else .opened) s.round.current s.round.closedMark none]
      s u
  ∧ Keeps [.round, .notices, .noticeLost] s u

/-- A question opened (R12): its array, tallies and Buzz Arbiter start afresh, every lamp is OFF, and reopening the current
question starts a lamp sweep on each SWEEPING port. TALLY events not yet reported are built into a notice of the old header and
tallies first (R168), in front of the STATE notice. -/
def QuestionOpened (q : Fin 128) (s u : State) : Prop :=
  let again (p : Fin 4) := s.round.current = some q ∧ s.ports[p].state = .sweeping
  let old : Notice := ⟨.tally s.resp.header.question s.resp.header.kind s.resp.tallies, s.now⟩
  u.resp.header = ⟨some q, some s.questions[q].kind, some s.now, none, false⟩
  ∧ (∀ k : Fin 256, u.resp.records[k] = ⟨.none, none, none, 0, none⟩)
  ∧ (∀ o : Fin 6, u.resp.tallies.counts[o] = 0) ∧ u.resp.tallies.answered = 0
  ∧ u.buzz = ⟨[], false, [], 0, 0, none, none⟩
  ∧ u.round = { s.round with
      state := .opened, current := some q, closedMark := false, settle := none, snapshot := none, lastOpened := some q
      window := .running (s.now + BitVec.ofNat 32 (s.questions[q].window * 800)) }
  ∧ (∀ k : Fin 256, u.seats[k] = { s.seats[k] with
      lamp := .off
      queued := s.seats[k].queued && !decide (again (portOf k) ∧ posOf k ∈ s.ports[portOf k].feedback) })
  ∧ (∀ p : Fin 4, u.ports[p] = if again p then { s.ports[p] with feedback := [], lampNext := some 0 } else s.ports[p])
  ∧ u.hub.tallyEvents = 0
  ∧ (if s.hub.tallyEvents = 0 then
      u.hub.tallyTimer = s.hub.tallyTimer ∧ NoticesRaised [.roundState .opened (some q) false none] s u
    else u.hub.tallyTimer = none ∧ NoticesRaised [.roundState .opened (some q) false none] (enqueueNotice old s) u)
  ∧ Refreshed (decide (currentView s = .histogram ∨ currentView s = .buzzOrder)) s u
  ∧ Keeps [.resp, .buzz, .round, .seats, .ports, .comp, .tally, .notices, .noticeLost] s u

/-- The pending open at the end of a commit pass (R14): none leaves the round in IDLE; a question that has become EMPTY is dropped
with its notice; any other is opened. -/
def PendingTaken (s u : State) : Prop :=
  match s.round.pendingOpen with
  | none => u = s
  | some q =>
    if s.questions[q].kind = .empty then
      u.round = { s.round with pendingOpen := none } ∧ NoticesRaised [.openDropped q .badValue] s u
      ∧ Keeps [.round, .notices, .noticeLost] s u
    else ∃ v, v.round = { s.round with pendingOpen := none } ∧ Keeps [.round] s v ∧ QuestionOpened q v u

/-! ## Frames taken by the Seat Directory -/

/-- A PRESS or DIGITS frame heard (R32, R37, R41): the seat is PRESENT with no missed check and the press number recorded, its
position is queued for feedback, and a change is a SEAT event. -/
def PressHeard (k : Fin 256) (number : Fin 4) (s u : State) : Prop :=
  ∃ a b : State,
    (∀ j : Fin 256, a.seats[j] =
      if j = k then { s.seats[k] with missed := 0, presence := .present, lastPress := some number } else s.seats[j])
    ∧ a.stamper = { s.stamper with inHand := none } ∧ Keeps [.seats, .stamper] s a
    ∧ FeedbackAsked k a b
    ∧ SeatEvent k ⟨decide (s.seats[k].presence ≠ .present), false, false, false⟩ b u
    ∧ Keeps [.seatList, .notices, .noticeLost] b u

/-- A TALLY event (R168): counted when TALLY is enabled, the first one starting the timer; at the count of CONFIG, or at a first
event with a wait of 0, the notice is built at once (R170) and the counting starts anew. -/
def TallyEvent (s u : State) : Prop :=
  if s.hub.config.enabled.getLsbD 1 = false then Keeps [] s u
  else if s.hub.config.tallyCount ≤ s.hub.tallyEvents + 1 ∨ (s.hub.tallyEvents = 0 ∧ s.hub.config.tallyWait = 0) then
    u.hub.tallyEvents = 0 ∧ u.hub.tallyTimer = none
    ∧ u.hub.notices = (enqueueNotice ⟨.tally s.resp.header.question s.resp.header.kind s.resp.tallies, s.now⟩ s).hub.notices
    ∧ u.hub.noticeLost =
        (enqueueNotice ⟨.tally s.resp.header.question s.resp.header.kind s.resp.tallies, s.now⟩ s).hub.noticeLost
    ∧ Keeps [.tally, .notices, .noticeLost] s u
  else
    u.hub.tallyEvents = s.hub.tallyEvents + 1
    ∧ u.hub.tallyTimer = (if s.hub.tallyEvents = 0 then
        some (s.now + BitVec.ofNat 32 (s.hub.config.tallyWait * 8)) else s.hub.tallyTimer)
    ∧ Keeps [.tally] s u

/-- An answer recorded (R80, R81, R82, R84, R86): the record and the tallies are set, a movement of the tallies is reported to the
Composer, the lamp is ANSWERED, and a TALLY event and, for a mirrored team, an ANSWER notice follow. -/
def AnswerRecorded (k : Fin 256) (t : Fin 16) (a : Answer) (time : Time) (marks : Marks) (record : Response)
    (tallies : Tallies) (s u : State) : Prop :=
  ∃ b c : State,
    (∀ j : Fin 256, b.resp.records[j] = if j = k then record else s.resp.records[j])
    ∧ b.resp.header = s.resp.header ∧ b.resp.tallies = tallies
    ∧ Refreshed (decide (tallies ≠ s.resp.tallies ∧ currentView s = .histogram)) s b
    ∧ LampShown k .answered s b ∧ Keeps [.resp, .comp, .seats, .ports] s b
    ∧ TallyEvent b c
    ∧ NoticesRaised (if s.hub.config.mirror.mem t then
        [.answer k t s.resp.header.question a time marks record.changes] else []) c u
    ∧ Keeps [.notices, .noticeLost] c u

/-- The option tallies with an answer's option moved up or down (R80, R81); a value moves none. -/
def movedTallies (a : Answer) (up : Bool) (t : Tallies) : Tallies :=
  match a with
  | .option o => { t with counts := t.counts.set o (if up then t.counts[o] + 1 else t.counts[o] - 1) }
  | .value _ => t

/-- A press taken as an answer (R77 to R82), by the team of its seat: an answer before the open time is EARLY, one at or after
the close time LATE; the first is recorded; the same again does nothing; another is a change while the limit allows, and
locks the lamp after it. -/
def AnswerJudged (k : Fin 256) (t : Fin 16) (a : Answer) (time : Time) (marks : Marks) (s u : State) : Prop :=
  let record := s.resp.records[k]
  let early := ∃ o, s.resp.header.openTime = some o ∧ since time o < 0
  let late := ∃ c, s.resp.header.closeTime = some c ∧ 0 ≤ since time c
  (early → (∀ j : Fin 256, u.resp.records[j] = if j = k then
        { record with state := if record.state = .none then .early else record.state } else s.resp.records[j])
      ∧ u.resp.header = s.resp.header ∧ u.resp.tallies = s.resp.tallies ∧ Keeps [.resp] s u)
  ∧ (¬ early → late → (∀ j : Fin 256, u.resp.records[j] = if j = k then
        { record with state := if record.state = .none ∨ record.state = .early then .late else record.state }
        else s.resp.records[j])
      ∧ u.resp.header = s.resp.header ∧ u.resp.tallies = s.resp.tallies ∧ Keeps [.resp] s u)
  ∧ (¬ early → ¬ late → (record.state ≠ .answered ∨ record.answer = none) →
      AnswerRecorded k t a time marks ⟨.answered, some a, some time, 0, record.points⟩
        ⟨(movedTallies a true s.resp.tallies).counts, s.resp.tallies.answered + 1⟩ s u)
  ∧ (¬ early → ¬ late → record.state = .answered → record.answer = some a → u = s)
  ∧ ∀ old, ¬ early → ¬ late → record.state = .answered → record.answer = some old → old ≠ a →
      if record.changes < (headerQuestion s).changeLimit then
        AnswerRecorded k t a time marks
          { record with answer := some a, pressTime := some time, changes := record.changes + 1 }
          (movedTallies a true (movedTallies old false s.resp.tallies)) s u
      else LampShown k .locked s u ∧ Keeps [.seats, .ports] s u

/-- A buzz inserted (R94, R95, R96): by press time, then seat number, behind the holder while the floor is held; equal press
times are marked TIE, and one earlier than the holder's OVERTAKEN; the lamp and the notice follow, and a new head with the
floor free goes to the grant test. -/
def BuzzInserted (k : Fin 256) (t : Fin 16) (time : Time) (marks : Marks) (s u : State) : Prop :=
  ∃ (e : BuzzEntry) (front back : List BuzzEntry) (b : State),
    e = ⟨k, t, time, marks, s.buzz.held && (s.buzz.queue.head?).any (buzzBefore e), s.buzz.queue.any fun x => x.time == time⟩
    ∧ front ++ back = s.buzz.queue.map (fun x => if x.time = time then { x with tie := true } else x)
    ∧ (s.buzz.held = true → front ≠ [])
    ∧ (∀ x ∈ (if s.buzz.held then front.drop 1 else front), buzzBefore e x = false)
    ∧ (∀ x, back.head? = some x → buzzBefore e x = true)
    ∧ b.buzz = { s.buzz with queue := front ++ e :: back }
    ∧ Refreshed (decide (currentView s = .buzzOrder)) s b
    ∧ LampShown k .queued s b
    ∧ NoticesRaised [.buzzQueued s.resp.header.question e (front.length + 1)] s b
    ∧ Keeps [.buzz, .comp, .seats, .ports, .notices, .noticeLost] s b
    ∧ if front = [] then GrantTested b u else u = b

/-- A BUZZ key of an eligible team (R91 to R93, R62): a locked team's, a queued team's, a locked seat's press, one from before the
guard interval, one from before the open and a late one are turned away in this order, the one from before the open being a false
start; any other is inserted. Every comparison of two show times is that of their signed difference. -/
def BuzzJudged (k : Fin 256) (t : Fin 16) (time : Time) (marks : Marks) (s u : State) : Prop :=
  let early := ∃ o, s.resp.header.openTime = some o ∧ since time o < 0
  let stray := ∃ o, s.resp.header.openTime = some o
    ∧ since time (o - BitVec.ofNat 32 ((headerQuestion s).guard * 80)) < 0
  let late := ∃ c, s.resp.header.closeTime = some c ∧ 0 ≤ since time c
  if s.buzz.locked.mem t then
    if ∃ j ∈ s.buzz.judged, j.seat = k then u = s else LampShown k .locked s u ∧ Keeps [.seats, .ports] s u
  else
    match s.buzz.queue.find? (fun e => e.team == t) with
    | some e => if e.seat = k then u = s else LampShown k .queued s u ∧ Keeps [.seats, .ports] s u
    | none =>
      (s.resp.records[k].state = .locked → LampShown k .locked s u ∧ Keeps [.seats, .ports] s u)
      ∧ (s.resp.records[k].state ≠ .locked → stray → u = s)
      ∧ (s.resp.records[k].state ≠ .locked → ¬ stray → early →
          (∀ j : Fin 256, u.resp.records[j] = if j = k then ⟨.locked, none, none, 0, s.resp.records[k].points⟩
            else s.resp.records[j])
          ∧ u.resp.header = s.resp.header ∧ u.resp.tallies = s.resp.tallies ∧ LampShown k .locked s u
          ∧ NoticesRaised [.falseStart s.resp.header.question k t time marks] s u
          ∧ Keeps [.resp, .seats, .ports, .notices, .noticeLost] s u)
      ∧ (s.resp.records[k].state ≠ .locked → ¬ stray → ¬ early → late → u = s)
      ∧ (s.resp.records[k].state ≠ .locked → ¬ stray → ¬ early → ¬ late → BuzzInserted k t time marks s u)

/-! ## The end of a FAILED load -/

/-- The state s with the records of the teams up to t back at their hard-reset values. -/
def teamsCleared (t : Fin 16) (s : State) : State :=
  s.withTeams (Vector.ofFn fun x => if x ≤ t then ⟨false, []⟩ else s.teams[x])

/-- The ranking passes that clearing the Team Roster, team by team upward, triggers (R174, R123, R125): none while no team is
active; rerank-pending while a pass runs; otherwise a pass starts as the lowest active flag is cleared, and each further one sets
rerank-pending. -/
def ClearedTeamsRanked (s u : State) : Prop :=
  ((∀ t : Fin 16, s.teams[t].active = false) → u.sorter = s.sorter)
  ∧ ∀ t : Fin 16, s.teams[t].active = true → (∀ x : Fin 16, x < t → s.teams[x].active = false) →
    u.sorter =
      if s.sorter.running then { s.sorter with rerank := true }
      else { s.sorter with
        working := rankedStandings (teamsCleared t s), running := true, start := s.now
        rerank := s.sorter.rerank || decide (∃ x : Fin 16, t < x ∧ s.teams[x].active = true) }

/-- The composes that a FAILED load starts (R174, R128, R130): a name that is cleared, in ascending team number, counts in the views
that show names, and then a resting view that changes counts while no sequence is shown. The first change starts a compose of the
view as it then stands, unless one runs; every other sets recompose-pending. Apart from its two tables nothing else of the Composer
changes. -/
def ClearedDataComposed (s u : State) : Prop :=
  let names := currentView s = .standings ∨ currentView s = .topFive ∨ currentView s = .teamCard ∨ currentView s = .buzzOrder
  let named (t : Fin 16) := names ∧ s.teams[t].name ≠ []
  let resting := s.comp.player = .stopped ∧ s.hub.config.resting ≠ .standings
  let tables : Composer := { s.comp with sequences := u.comp.sequences, steps := u.comp.steps }
  ((∀ t, ¬ named t) → ¬ resting → u.comp = tables)
  ∧ ((∃ t, named t) ∨ resting → s.comp.backState = .composing → u.comp = { tables with recompose := true })
  ∧ (s.comp.backState ≠ .composing → (∀ t, ¬ named t) → resting →
      u.comp = { tables with back := composedView u, backState := .composing, composeStart := s.now })
  ∧ ∀ t : Fin 16, s.comp.backState ≠ .composing → named t → (∀ x : Fin 16, x < t → ¬ named x) →
      u.comp = { tables with
        back := composedView (teamsCleared t s), backState := .composing, composeStart := s.now
        recompose := s.comp.recompose || decide ((∃ x : Fin 16, t < x ∧ named x) ∨ resting) }

/-! ## Laws that every step keeps -/

/-- R107, R108: every total and correct count is in range, and so is what a valid Commit Record would return it to. -/
def TotalsInRange (s : State) : Prop :=
  ∀ t : Fin 16,
    -9999 ≤ s.score.table[t].total ∧ s.score.table[t].total ≤ 99999 ∧ s.score.table[t].correct ≤ 65535
      ∧ (s.score.commit.valid = true →
          -9999 ≤ s.score.table[t].total - s.score.commit.points[t]
            ∧ s.score.table[t].total - s.score.commit.points[t] ≤ 99999
            ∧ s.score.commit.correct[t] ≤ s.score.table[t].correct)

/-- R6: no two valid Cue Table entries hold the same cue number. -/
def CueNumbersUnique (s : State) : Prop :=
  ∀ i j : Fin 64, s.cues[i].valid = true → s.cues[j].valid = true → s.cues[i].number = s.cues[j].number → i = j

/-- R152, R157: the replies owed are the REPLY frames that wait and the requests handed on and not yet answered. -/
def RepliesOwed (s : State) : Prop :=
  s.link.owed = s.link.replies.length + s.hub.requests.length
      + (match s.hub.agent with | .decoding _ _ => 1 | .idle => 0 | .restarting => 0)
    ∧ s.link.owed ≤ 4 ∧ s.hub.requests.length ≤ 2 ∧ (s.hub.agent = .idle → s.hub.requests = [])

/-- A commit walk runs only in COMMITTING (R109, R20). -/
def WalkOnlyCommitting (s : State) : Prop := s.score.walk.walking = true → s.round.state = .committing

/-- R97, R89: in FLOOR the first Buzz Queue entry is the holder, and in FLOOR alone; no two entries hold the same team, and no
locked team has an entry. -/
def FloorLaw (s : State) : Prop :=
  WalkOnlyCommitting s ∧ (s.round.state = .floor ↔ s.buzz.held = true) ∧ (s.buzz.held = true → s.buzz.queue ≠ [])
    ∧ s.buzz.queue.Pairwise (fun a b => a.team ≠ b.team) ∧ ∀ e ∈ s.buzz.queue, s.buzz.locked.mem e.team = false

/-- R10: the window timer runs in OPEN, is PAUSED in FLOOR until the window is closed there, and is STOPPED in every other
state; the settle timer runs in CLOSING alone. -/
def RoundTimersLaw (s : State) : Prop :=
  WalkOnlyCommitting s ∧ (s.round.settle ≠ none → s.round.state = .closing) ∧
  match s.round.state with
  | .opened => s.round.closedMark = false ∧ ∃ d, s.round.window = .running d
  | .floor => if s.round.closedMark then s.round.window = .stopped else ∃ r, s.round.window = .paused r
  | .idle => s.round.window = .stopped
  | .closing => s.round.window = .stopped
  | .closed => s.round.window = .stopped
  | .committing => s.round.window = .stopped

/-- Each active team is in the list once, and no other team is. -/
def ListsActive (l : List Standing) (s : State) : Prop :=
  l.Pairwise (fun a b => a.team ≠ b.team) ∧ ∀ t : Fin 16, s.teams[t].active = true ↔ ∃ e ∈ l, e.team = t

/-- Each entry's display rank is 1 + the number of entries with a strictly greater total. -/
def RanksRight (l : List Standing) : Prop := ∀ e ∈ l, e.rank = 1 + (l.filter fun x => e.total < x.total).length

/-- R124: while no pass runs, the published list holds each active team once, with its display rank; a running pass that no
trigger has overtaken will publish such a list. -/
def StandingsLaw (s : State) : Prop :=
  RanksRight s.sorter.published
    ∧ (s.sorter.running = false → ListsActive s.sorter.published s)
    ∧ (s.sorter.running = true → RanksRight s.sorter.working ∧ (s.sorter.rerank = false → ListsActive s.sorter.working s))

/-- The capacities of the queues (R51, R56, R145, R147, R169, R170), and HOLD as R146 leaves it. -/
def QueueBounds (s : State) : Prop :=
  s.link.passQueue.length ≤ 8 ∧ (6 ≤ s.link.passQueue.length → s.link.hold = true)
    ∧ (s.link.passQueue.length ≤ 2 → s.link.hold = false)
    ∧ s.link.reports.length ≤ 2 ∧ s.hub.notices.length ≤ 8 ∧ s.hub.seatChanges.length ≤ 16
    ∧ ∀ p : Fin 4, s.ports[p].inbox.length ≤ 4 ∧ s.ports[p].feedback.length ≤ 16 ∧ s.ports[p].feedback.Nodup

/-- R43, R44, R50: each PORTCFG record is in range with its period at or above the minimum, and a beacon names no check
position twice. -/
def PortsLaw (s : State) : Prop :=
  ∀ p : Fin 4,
    1 ≤ s.ports[p].cfg.positions ∧ s.ports[p].cfg.positions ≤ 64 ∧ 8 ≤ s.ports[p].cfg.period
      ∧ s.ports[p].cfg.period ≤ 64 ∧ 16 + 2 * s.ports[p].cfg.positions ≤ 8 * s.ports[p].cfg.period
      ∧ s.ports[p].cfg.skew ≤ 255
      ∧ (∀ sw, s.ports[p].sweep = some sw → sw.beacon.checks.Nodup)

/-- R1, R3: a Question Table record within its ranges. -/
def questionInRange (q : Question) : Prop :=
  2 ≤ q.options ∧ q.options ≤ 6 ∧ q.base ≤ 999 ∧ q.speed ≤ 999 ∧ q.penalty ≤ 999 ∧ q.stealPoints ≤ 999 ∧ q.steals ≤ 15
    ∧ q.answerTime ≤ 60 ∧ q.guard ≤ 255 ∧ q.target ≤ 9999 ∧ 1 ≤ q.tolerance ∧ q.tolerance ≤ 9999 ∧ 1 ≤ q.window
    ∧ q.window ≤ 600 ∧ q.settle ≤ 255 ∧ q.changeLimit ≤ 3
    ∧ (∀ k : Fin 8, q.correct.getLsbD k.val = true → k.val < q.options) ∧ (q.kind = .choice → q.correct ≠ 0)

/-- R3, R6, R134, R135, R163: every record that a WRITE can set is within its ranges. -/
def RecordsInRange (s : State) : Prop :=
  (∀ q : Fin 128, questionInRange s.questions[q])
    ∧ (∀ i : Fin 64, (s.cues[i].action = .openQuestion → s.cues[i].argument.toNat ≤ 127)
        ∧ (s.cues[i].action = .reveal → s.cues[i].argument.toNat ≤ 15))
    ∧ (∀ i : Fin 16, 1 ≤ s.comp.sequences[i].count ∧ s.comp.sequences[i].first + s.comp.sequences[i].count ≤ 64)
    ∧ (∀ i : Fin 64, 1 ≤ s.comp.steps[i].hold ∧ s.comp.steps[i].hold ≤ 255)
    ∧ (∀ t : Fin 16, s.teams[t].name.length ≤ 12 ∧ ∀ c ∈ s.teams[t].name, 32 ≤ c.toNat ∧ c.toNat ≤ 126)
    ∧ (∀ i : Nat, 9 ≤ i → s.hub.config.enabled.getLsbD i = false)
    ∧ 1 ≤ s.hub.config.tallyCount ∧ s.hub.config.tallyCount ≤ 255 ∧ s.hub.config.tallyWait ≤ 255
    ∧ s.hub.config.seatWait ≤ 255 ∧ 1 ≤ s.hub.config.urgent ∧ s.hub.config.urgent ≤ 8
    ∧ 10 ≤ s.hub.config.silentTimeout ∧ s.hub.config.silentTimeout ≤ 255 ∧ s.hub.config.resting ≠ .teamCard

/-- R136, R137: the step that the sequence player shows is one of its sequence's, and the sequence ends at step 63 at the latest. -/
def PlayerLaw (s : State) : Prop :=
  RecordsInRange s ∧ ∀ ended p, s.comp.player = .active ended p →
    p.first + p.count ≤ 64 ∧ p.first ≤ p.step ∧ p.step < p.first + p.count

/-- R173: while a load runs the round is IDLE and every port is STOPPED. -/
def LoadLaw (s : State) : Prop :=
  WalkOnlyCommitting s
    ∧ (s.loader.running = true → s.round.state = .idle ∧ ∀ p : Fin 4, s.ports[p].state = .stopped)

/-- R36: a seat with a slot is PRESENT only while its port is SWEEPING, and no seat of a STOPPED port is PRESENT. -/
def PresenceLaw (s : State) : Prop :=
  LoadLaw s ∧ ∀ k : Fin 256, s.seats[k].presence = .present →
    s.ports[portOf k].state = .sweeping
      ∨ (s.ports[portOf k].cfg.positions ≤ (posOf k).val ∧ s.ports[portOf k].state ≠ .stopped)

/-- The number of seats whose record satisfies a test. -/
def recordCount (f : Response → Bool) (s : State) : Nat := ((List.finRange 256).filter fun k => f s.resp.records[k]).length

/-- R84, R74: on a CHOICE or POLL question every ANSWERED record holds an option, and the live tallies are the counts of the
records; on an ESTIMATE question every ANSWERED record holds a value, the answered count is that of the ANSWERED records, and the
option counts are 0. No other record holds an answer. -/
def TalliesMatch (s : State) : Prop :=
  (s.resp.header.kind = some .choice ∨ s.resp.header.kind = some .poll →
    (∀ k : Fin 256, s.resp.records[k].state = .answered ↔ ∃ o, s.resp.records[k].answer = some (.option o))
      ∧ s.resp.tallies.answered = recordCount (fun r => r.state == .answered) s
      ∧ ∀ o : Fin 6, s.resp.tallies.counts[o] = recordCount (fun r => r.answer == some (.option o)) s)
  ∧ (s.resp.header.kind = some .estimate →
    (∀ k : Fin 256, s.resp.records[k].state = .answered ↔ ∃ v, s.resp.records[k].answer = some (.value v))
      ∧ s.resp.tallies.answered = recordCount (fun r => r.state == .answered) s
      ∧ ∀ o : Fin 6, s.resp.tallies.counts[o] = 0)

end Sys2Proof.Machine
end

