-- ==== Sys2Proof/WellFormed.lean ====
section
/-! DEFINITION. Which commands can be given: the operand ranges that the links, the row lines and the requests' layouts leave
(R142, R143, R158, 12.3, 12.4). A command outside them stands for no event of the part. -/

namespace Sys2Proof

open Machine

/-- A payload whose length lies between two limits. -/
def lengthBetween (lo hi : Nat) (payload : List Byte) : Bool := lo ≤ payload.length && payload.length ≤ hi

/-- The records of a WRITE of a known table: at least one, whole, and within a payload of 250 bytes (R158 check 3). -/
def wholeRecords (t : Table) (records : List Byte) : Bool :=
  lengthBetween 1 246 records && records.length % t.writeLength == 0

/-- A payload that the Hub Agent answers MALFORMED (R158 checks 1 and 3). -/
def malformedPayload (payload : List Byte) : Bool :=
  lengthBetween 2 250 payload && (!knownKind (u8 payload 1) || !payloadFits payload)

/-- The operands of a WRITE that no table takes (R159): a read-only table with whole records, or a number that names none. -/
def refusedWrite (table : Byte) (records : List Byte) : Bool :=
  match Table.ofNumber table with
  | some t => !t.writable && wholeRecords t records
  | none => lengthBetween 0 246 records

/-- A frame of a class that its link carries inward passes R142 and R143. -/
def goodArrival (link : Link) (cls : Byte) (a : Arrival) : Bool := !arrivalBroken a && inwardGood link cls (payloadOf a).length

/-- The operands of a command make an event of its row. -/
def Instr.wf : Instr → Bool
  | .hardReset _ _ => true
  | .warmRestart => true
  | .showTimeTick => true
  | .linkFrameDiscarded link start bytes => frameDiscarded link start bytes
  | .pass frame => goodArrival .console 1 frame
  | .cue frame => goodArrival .console 2 frame
  | .hubRequest frame => goodArrival .console 3 frame
  | .mark frame => goodArrival .wall 9 frame
  | .report frame => goodArrival .wall 6 frame
  | .wallFrameEnd => true
  | .idleFillExpiry => true
  | .consoleFrameEnd => true
  | .requestMalformed payload => malformedPayload payload
  | .readSeats _ _ _ => true
  | .readTeams _ _ _ => true
  | .readQuestions _ _ _ => true
  | .readCues _ _ _ => true
  | .readSequences _ _ _ => true
  | .readSteps _ _ _ => true
  | .readPortcfg _ _ _ => true
  | .readConfig _ _ _ => true
  | .readResponses _ _ _ => true
  | .readBuzzq _ _ _ => true
  | .readJudged _ _ _ => true
  | .readScores _ _ _ => true
  | .readStandings _ _ _ => true
  | .readCommit _ _ _ => true
  | .readPortstat _ _ _ => true
  | .writeSeats _ _ records => wholeRecords .seats records
  | .writeTeams _ _ records => wholeRecords .teams records
  | .writeQuestions _ _ records => wholeRecords .questions records
  | .writeCues _ _ records => wholeRecords .cues records
  | .writeSequences _ _ records => wholeRecords .sequences records
  | .writeSteps _ _ records => wholeRecords .steps records
  | .writePortcfg _ _ records => wholeRecords .portcfg records
  | .writeConfig _ _ records => wholeRecords .config records
  | .writeReadOnlyTable _ table _ records => refusedWrite table records
  | .actOpen _ _ => true
  | .actNext _ => true
  | .actClose _ => true
  | .actCommit _ => true
  | .actCancel _ => true
  | .actJudge _ _ _ => true
  | .actRevoke _ => true
  | .actAdjust _ _ _ => true
  | .actClearScores _ => true
  | .portStart _ _ => true
  | .portStop _ _ => true
  | .portRollCall _ _ => true
  | .showReveal _ _ => true
  | .showStopSequence _ => true
  | .showFreeze _ => true
  | .showThaw _ => true
  | .showCurtainOn _ => true
  | .showCurtainOff _ => true
  | .showResting _ _ => true
  | .status _ => true
  | .reload _ _ => true
  | .restart _ => true
  | .wakeTimerExpiry _ => true
  | .sweepStart _ => true
  | .sweepEnd _ => true
  | .handsetFrameReceived _ start last _ => 0 ≤ (last - start).toInt
  | .breakBegin _ _ => true
  | .lineIdleChange _ _ => true
  | .breakEnd _ => true
  | .inboxTake => true
  | .frameHandoff => true
  | .windowExpiry => true
  | .settleExpiry => true
  | .headSettleExpiry => true
  | .answerTimerExpiry => true
  | .applicationStep => true
  | .publicationStep => true
  | .composeEnd => true
  | .wallSilentExpiry => true
  | .internalMark => true
  | .tallyTimerExpiry => true
  | .seatTimerExpiry => true
  | .presetSection => true
  | .loadEnd => true
  | .walkSeatVisit => true
  | .readUnknownTable _ table _ _ => (Table.ofNumber table).isNone

end Sys2Proof
end

