-- ==== Sys2Proof/Certificates/Slice0/Obligations.lean ====
section
/-! DEFINITION. The statements for the provers. Each says what a command or the whole part does by the numbered rules of the
manual; `Completes c s P` says that the command answers a next state, and what holds of it. -/

section Statements

open Sys2Proof Sys2Proof.Machine

/-! ## The step -/

/-- A step runs the command at the front of the queue on the state with the queue's rest; on an empty queue the part idles
(log entry 3). -/
def Obligations.StepRunsTheFrontCommand : Prop :=
  (∀ (c : Instr) (rest : List Instr) (s : State), s.pending = c :: rest → step s = exec c (s.withPending rest))
    ∧ ∀ s : State, s.pending = [] → step s = .next s

/-- R149, R153, R152, R146, R148: at the end of an event an idle console transmitter takes the oldest REPLY, else the oldest REPORT,
else the oldest NOTICE, and then an idle wall transmitter takes a burst or a Pass Queue frame by the urgent level. A transmitter
that sends takes nothing, and nothing but the queues and the transmitters is touched. That the choice comes at the end of the
event, the console's first, is the model's choice (log entry 11). -/
def Obligations.ArbitersMoveOnlyWaitingFrames : Prop :=
  ∀ s : State, Keeps [.passing, .replies, .reports, .scoreOut, .sending, .notices] s (settleLinks s)
    ∧ (s.link.wallTx.isSome → (settleLinks s).link.wallTx = s.link.wallTx
        ∧ (settleLinks s).link.passQueue = s.link.passQueue ∧ (settleLinks s).link.scoreOut = s.link.scoreOut)
    ∧ (s.link.consoleTx.isSome → (settleLinks s).link.consoleTx = s.link.consoleTx
        ∧ (settleLinks s).link.replies = s.link.replies ∧ (settleLinks s).link.reports = s.link.reports
        ∧ (settleLinks s).hub.notices = s.hub.notices)
    ∧ ∃ v, ConsoleTaken s v ∧ WallTaken v (settleLinks s)

/-! ## Resets and the clock -/

/-- HARD_RESET: the values after a hard reset that the chapters give, for every block (R1, R5, R9, R26, R30, R60, R64, R66, R84,
R89, R107, R108, R122, R134, R135, R139, R140, R151, R155, R157, R163, R171). That the BLANK burst is already in transmission,
with the Score Out slot empty and the idle-fill timer stopped by its choice, is read by inference (log entry 4), and that a load
for an EMPTY flash still runs is the model's choice (log entry 16). -/
def Obligations.HardResetGivesEveryBlockItsResetValues : Prop :=
  (∀ (strap : Bool) (flash : List Byte) (s : State), ∃ t, exec (.hardReset strap flash) s = .next t ∧
      t.now = 0
      ∧ (∀ p : Fin 4, t.ports[p].state = .stopped ∧ t.ports[p].inbox = [] ∧ t.ports[p].feedback = []
          ∧ t.ports[p].roll = none ∧ t.ports[p].lampNext = none ∧ t.ports[p].lastSequence = 15
          ∧ t.ports[p].checkPointer = 0 ∧ t.ports[p].wakeTimer = none ∧ t.ports[p].sweepTimer = none
          ∧ t.ports[p].idleTimer = none ∧ t.ports[p].flagsByte = 0 ∧ t.ports[p].cfg = ⟨false, 64, 18, 0⟩
          ∧ ∀ i : Fin 16, t.stamper.history[p][i] = none)
      ∧ t.stamper.lastServed = 3 ∧ t.stamper.inHand = none
      ∧ (∀ k : Fin 256, t.seats[k] = ⟨none, none, .absent, none, false, 0, none, .off, false⟩)
      ∧ (∀ n : Fin 16, t.teams[n] = ⟨false, []⟩)
      ∧ (∀ q : Fin 128, t.questions[q] =
          ⟨.empty, 2, 0, 0, 0, 0, 0, 0, 0, 0, 0, 1, 1, 0, 0, 0, .held, false, none⟩)
      ∧ (∀ i : Fin 64, t.cues[i] = ⟨false, 0, .next, 0, false⟩)
      ∧ t.round = ⟨.idle, none, .stopped, false, none, none, none, none⟩
      ∧ t.resp.header = ⟨none, none, none, none, false⟩
      ∧ (∀ k : Fin 256, t.resp.records[k] = ⟨.none, none, none, 0, none⟩)
      ∧ (∀ o : Fin 6, t.resp.tallies.counts[o] = 0) ∧ t.resp.tallies.answered = 0
      ∧ t.buzz = ⟨[], false, [], 0, 0, none, none⟩
      ∧ (∀ n : Fin 16, t.score.table[n] = ⟨0, 0, 0⟩) ∧ t.score.commit.valid = false ∧ t.score.walk.walking = false
      ∧ t.score.commit.question = none
      ∧ (∀ n : Fin 16, t.score.commit.points[n] = 0 ∧ t.score.commit.correct[n] = 0)
      ∧ t.sorter.published = [] ∧ t.sorter.running = true ∧ t.sorter.rerank = false
      ∧ t.loader.running = strap ∧ t.loader.result = .none ∧ t.loader.refused = 0
      ∧ t.pending = s.pending)
  ∧ (∀ (strap : Bool) (flash : List Byte) (s : State), ∃ t, exec (.hardReset strap flash) s = .next t ∧
      t.comp.front.view = .blank ∧ t.comp.front.rows = [] ∧ t.comp.backState = .composing ∧ t.comp.recompose = false
      ∧ t.comp.freeze = false ∧ t.comp.curtain = false ∧ t.comp.player = .stopped ∧ t.comp.silent = false
      ∧ t.comp.silentTimer = some 1600 ∧ t.comp.markTimer = none ∧ t.comp.lastRefresh = none
      ∧ t.comp.countdownRunning = false
      ∧ (∀ i : Fin 16, t.comp.sequences[i] = ⟨false, 0, 1, false⟩)
      ∧ (∀ i : Fin 64, t.comp.steps[i] = ⟨.blank, 1, 0, false, 0⟩)
      ∧ t.link.passQueue = [] ∧ t.link.hold = false ∧ t.link.reports = [] ∧ t.link.replies = [] ∧ t.link.owed = 0
      ∧ t.link.scoreOut = none ∧ t.link.consoleTx = none ∧ t.link.linkCheck = false ∧ t.link.passOverrun = false
      ∧ t.link.requestDropped = false ∧ t.link.consoleRx = .hunting ∧ t.link.wallRx = .hunting
      ∧ t.link.fillTimer = none ∧ t.link.burstNext = 1
      ∧ (∃ f, t.link.wallTx = some ⟨f, []⟩ ∧ f.cls = 7 ∧ f.payload.take 3 = [0, 1, 1] ∧ f.payload.getD 5 0 = 6)
      ∧ t.hub.agent = .idle ∧ t.hub.requests = [] ∧ t.hub.notices = [] ∧ t.hub.tallyEvents = 0
      ∧ t.hub.tallyTimer = none ∧ t.hub.seatChanges = [] ∧ t.hub.seatTimer = none ∧ t.hub.noticeLost = false
      ∧ t.hub.config = ⟨0x1FF, 16, 20, 20, 6, 20, 0, .standings⟩)

/-- WARM_RESTART (R156, R166): every block takes its warm-restart values, and what a restart keeps is kept (R9, R26, R60, R64, R84,
R107, R108, R122, R140, R151). That CONSOLE_FRAME_END of the RESTART REPLY does the same is read by inference (log entry 17). -/
def Obligations.WarmRestartTakesEveryBlockToItsRestartValues : Prop :=
  (∀ (c : Instr) (tag : Byte) (s : State), c = .warmRestart ∨ c = .consoleFrameEnd →
      s.hub.agent = .restarting → s.link.consoleTx = some ⟨4, [tag, 8, 0]⟩ →
      Completes c s fun u =>
        u.now = 0
        ∧ (∀ p : Fin 4, u.ports[p] =
            { Port.reset with
              state := if s.ports[p].state = .stopped then .stopped else .waking
              wakeTimer := if s.ports[p].state = .stopped then none else some 160
              cfg := s.ports[p].cfg
              checkPointer := s.ports[p].checkPointer })
        ∧ (∀ (p : Fin 4) (i : Fin 16), u.stamper.history[p][i] = none)
        ∧ u.stamper.lastServed = 3 ∧ u.stamper.inHand = none
        ∧ (∀ k : Fin 256, u.seats[k] =
            ⟨s.seats[k].pending.getD s.seats[k].team, none, .absent, s.seats[k].cls, false, 0, none, .off, false⟩)
        ∧ u.round = ⟨.idle, none, .stopped, false, none, none, s.round.lastOpened, none⟩
        ∧ u.resp.header = ⟨none, none, none, none, false⟩
        ∧ (∀ k : Fin 256, u.resp.records[k] = ⟨.none, none, none, 0, none⟩)
        ∧ (∀ o : Fin 6, u.resp.tallies.counts[o] = 0) ∧ u.resp.tallies.answered = 0
        ∧ u.buzz = ⟨[], false, [], 0, 0, none, none⟩
        ∧ u.score.table = s.score.table ∧ u.score.commit = { s.score.commit with valid := false }
        ∧ u.score.walk.walking = false
        ∧ u.sorter.published = s.sorter.published ∧ u.sorter.running = true ∧ u.sorter.rerank = false
        ∧ Keeps [.now, .ports, .stamper, .seats, .round, .resp, .buzz, .score, .sorter, .comp, .passing, .replies, .reports,
            .scoreOut, .sending, .receivers, .linkFlags, .agent, .notices, .noticeLost, .tally, .seatList] s u)
  ∧ (∀ (c : Instr) (tag : Byte) (s : State), c = .warmRestart ∨ c = .consoleFrameEnd →
      s.hub.agent = .restarting → s.link.consoleTx = some ⟨4, [tag, 8, 0]⟩ →
      Completes c s fun u =>
        u.link.passQueue = [] ∧ u.link.hold = false ∧ u.link.reports = [] ∧ u.link.replies = [] ∧ u.link.owed = 0
        ∧ u.link.consoleTx = none ∧ u.link.wallTx = s.link.wallTx.map (fun t => ⟨t.frame, []⟩)
        ∧ u.link.consoleRx = .hunting ∧ u.link.wallRx = .hunting
        ∧ u.link.fillTimer = (if s.link.wallTx.isSome then none else some 160)
        ∧ u.link.burstNext = 0 ∧ u.link.linkCheck = false ∧ u.link.passOverrun = false ∧ u.link.requestDropped = false
        ∧ (∃ b, u.link.scoreOut = some b ∧ b.image.view = .blank ∧ b.image.rows = [] ∧ b.refresh = none)
        ∧ u.hub.agent = .idle ∧ u.hub.requests = [] ∧ u.hub.notices = [] ∧ u.hub.tallyEvents = 0
        ∧ u.hub.tallyTimer = none ∧ u.hub.seatChanges = [] ∧ u.hub.seatTimer = none ∧ u.hub.noticeLost = false
        ∧ u.hub.config = s.hub.config
        ∧ u.comp.front.view = .blank ∧ u.comp.backState = .composing ∧ u.comp.back.view = s.hub.config.resting
        ∧ u.comp.recompose = false ∧ u.comp.freeze = false ∧ u.comp.curtain = false ∧ u.comp.player = .stopped
        ∧ u.comp.sequences = s.comp.sequences ∧ u.comp.steps = s.comp.steps ∧ u.comp.silent = false
        ∧ u.comp.silentTimer = some (BitVec.ofNat 32 (s.hub.config.silentTimeout * 80)) ∧ u.comp.markTimer = none
        ∧ u.comp.lastRefresh = none ∧ u.comp.countdownRunning = false)

/-- SHOW_TIME_TICK (R61): the counter advances by 1, from 2^32 − 1 to 0, in every state of the part, and nothing else changes; a
hard reset and a warm restart, at the end of its REPLY, set it to 0, and no other command moves it. That CONSOLE_FRAME_END of the
RESTART REPLY is a warm restart is read by inference (log entry 17); the counter of the open values is the model's (log entry 27).
-/
def Obligations.ShowTimeAdvancesAtTicksAndRestartsAtResets : Prop :=
  (∀ s : State, ∃ t, exec .showTimeTick s = .next t
      ∧ t.now.toNat = (if s.now.toNat = 4294967295 then 0 else s.now.toNat + 1)
      ∧ t.free = s.free ∧ Keeps [.now] s t)
  ∧ (∀ (strap : Bool) (flash : List Byte) (s : State), ∃ t, exec (.hardReset strap flash) s = .next t ∧ t.now = 0)
  ∧ (∀ (c : Instr) (tag : Byte) (s : State), c = .warmRestart ∨ c = .consoleFrameEnd → s.hub.agent = .restarting →
      s.link.consoleTx = some ⟨4, [tag, 8, 0]⟩ → ∃ t, exec c s = .next t ∧ t.now = 0)
  ∧ ∀ (c : Instr) (s t : State), exec c s = .next t → t.now ≠ s.now →
      c = .showTimeTick ∨ (∃ strap flash, c = .hardReset strap flash)
        ∨ ((c = .warmRestart ∨ c = .consoleFrameEnd) ∧ restartEnding s = true)

/-! ## Frames from the console and the wall -/

/-- LINK_FRAME_DISCARDED, and the frames whose length no class allows (R142, R143, R154): LINK_CHECK is set, and the receiver
hunts on, from the byte after the start mark when R142 discards the frame, and from the byte after the frame when R143 does;
nothing else changes. A gap of more than 8 ticks between two of its bytes discards a frame of every class. That the bytes of a
frame reach the part as one command, each with the counter's reading at its arrival, and what a receiver holds between two
commands, are the model's choice (log entry 13). PASS (R144, R145, R146): the frame is offered to the Pass Queue. REPORT (R147):
the frame joins the Report Queue, or is lost with PASS_OVERRUN when the queue holds 2. -/
def Obligations.LinkFramesAreQueuedOrDiscarded : Prop :=
  (∀ (c : Instr) (link : Link) (start : Time) (heard : List Heard) (broken : Prop) (s : State),
      (c = .linkFrameDiscarded link start heard ∧
        let bytes := heard.map (·.value)
        let complete := bytes.length = u8 bytes 1 + 4
        (broken ↔ (2 ≤ bytes.length ∧ 250 < u8 bytes 1)
          ∨ (bytes.length ≤ u8 bytes 1 + 4 ∧ Gapped (start :: heard.map (·.time)))
          ∨ (complete ∧ u16 bytes (u8 bytes 1 + 2) ≠ (crc (bytes.take (u8 bytes 1 + 2))).toNat))
        ∧ (broken ∨ (complete ∧ inwardGood link (bytes.getD 0 0) (u8 bytes 1) = false)))
      ∨ (∃ (a : Arrival) (cls : Byte), start = a.start ∧ ArrivedAs cls a heard
        ∧ (broken ↔ 250 < a.payload.length ∨ Gapped (a.start :: arrivalTimes a))
        ∧ ((link = .console ∧ ((cls = 2 ∧ c = .cue a) ∨ (cls = 3 ∧ c = .hubRequest a)) ∧ (a.payload.length < 2 ∨ broken))
          ∨ (link = .console ∧ cls = 1 ∧ c = .pass a ∧ broken)
          ∨ (link = .wall ∧ cls = 9 ∧ c = .mark a ∧ (a.payload.length ≠ 1 ∨ broken))
          ∨ (link = .wall ∧ cls = 6 ∧ c = .report a ∧ broken))) →
      Completes c s fun u =>
        u.link.linkCheck = true ∧ u.link.passOverrun = s.link.passOverrun ∧ u.link.requestDropped = s.link.requestDropped
        ∧ (∃ b : Bool, (b = true ↔ broken) ∧ ReceiverGoesOn link start heard b s u)
        ∧ Keeps [.linkFlags, .receivers] s u)
  ∧ ((∀ (a : Arrival) (payload : List Byte) (s : State), ArrivedWhole a payload → payload.length ≤ 250 →
        Completes (.pass a) s fun u => ∃ v,
          Offered ⟨1, payload⟩ s v ∧ Keeps [.passing, .linkFlags] s v ∧ FrameTaken .console 1 a v u)
    ∧ ∀ (a : Arrival) (payload : List Byte) (s : State), ArrivedWhole a payload → payload.length ≤ 250 →
        Completes (.report a) s fun u => ∃ v,
          v.link.linkCheck = s.link.linkCheck ∧ v.link.requestDropped = s.link.requestDropped
          ∧ (if s.link.reports.length < 2 then
              v.link.reports = s.link.reports ++ [payload] ∧ v.link.passOverrun = s.link.passOverrun
            else v.link.reports = s.link.reports ∧ v.link.passOverrun = true)
          ∧ Keeps [.reports, .linkFlags] s v ∧ FrameTaken .wall 6 a v u)

/-- CUE (R7, R8, R144): a frame without a gap of R142 (log entry 13) whose number no valid entry holds is offered to the Pass
Queue and does nothing else; while the Preset Loader runs a matched action is refused with BUSY, and the frame is absorbed or
offered as its entry says, after what an idle wall transmitter takes as the action ends (R149, log entry 11). -/
def Obligations.CueWithoutActionIsForwardedOrAbsorbed : Prop :=
  ∀ (a : Arrival) (payload : List Byte) (s : State), ArrivedWhole a payload → 2 ≤ payload.length → payload.length ≤ 250 →
    ((∀ i : Fin 64, s.cues[i].valid = true → s.cues[i].number ≠ BitVec.ofNat 16 (u16 payload 0)) →
      Completes (.cue a) s fun u => ∃ v,
        Offered ⟨2, payload⟩ s v ∧ Keeps [.passing, .linkFlags] s v ∧ FrameTaken .console 2 a v u)
    ∧ (∀ i : Fin 64, CueNumbersUnique s → s.cues[i].valid = true →
        s.cues[i].number = BitVec.ofNat 16 (u16 payload 0) → s.loader.running = true →
      Completes (.cue a) s fun u => ∃ v w,
        NoticesRaised [.cueRefused s.cues[i].number .busy] s v ∧ Keeps [.notices, .noticeLost] s v
        ∧ (if s.cues[i].absorb then w = v
          else ∃ x, WallTaken v x ∧ Offered ⟨2, payload⟩ x w ∧ Keeps [.passing, .linkFlags] x w)
        ∧ FrameTaken .console 2 a w u)

/-- CUE (R7, R8): of a frame without a gap (R142, log entry 13), in every state of the Hub Agent, a matched entry's action acts as
the same ACT or SHOW request would at that moment, were the agent to end the decode of that request then: one state and one status
are the outcome of both. The request replies with the status; the cue leaves the agent and its queue as they are, raises
CUE_REFUSED when the action refuses, and the frame is then offered unless the entry absorbs it. A burst that the action places on
an idle wall transmitter is taken as it arrives, before the offer (R149, log entry 11). -/
def Obligations.CueActsAsItsRequestWould : Prop :=
  ∀ (a : Arrival) (payload : List Byte) (i : Fin 64) (tag : Byte) (began : Time) (s : State),
    ArrivedWhole a payload → 2 ≤ payload.length → payload.length ≤ 250 → CueNumbersUnique s → s.cues[i].valid = true →
    s.cues[i].number = BitVec.ofNat 16 (u16 payload 0) → s.loader.running = false → 0 < since s.now began →
    ∃ (r : State) (st : Status),
      r.hub.agent = s.hub.agent ∧ r.hub.requests = s.hub.requests
      ∧ (∀ p, requestOf (requestFor tag s.cues[i]).1 = some p →
        exec (requestFor tag s.cues[i]).1 (s.withHub { s.hub with agent := .decoding p began }) =
          .next (settleLinks (nextRequest (placeReply [tag, (requestFor tag s.cues[i]).2] st [] r))))
      ∧ Completes (.cue a) s fun u => ∃ v w,
          (if st.refuses then
              NoticesRaised [.cueRefused s.cues[i].number st] r v ∧ Keeps [.notices, .noticeLost] r v ∧ v.free = r.free
            else v = r)
          ∧ (if s.cues[i].absorb then w = v
            else ∃ x, WallTaken v x ∧ Offered ⟨2, payload⟩ x w ∧ Keeps [.passing, .linkFlags] x w)
          ∧ FrameTaken .console 2 a w u

/-- HUB_REQUEST (R144, R152, R157), of a frame without a gap (R142, log entry 13): dropped while 4 replies are owed; taken for
decoding by an IDLE agent; queued behind fewer than 2 requests; answered BUSY at once otherwise. That this BUSY carries no body
for a READ or WRITE either is the model's choice (log entry 7). -/
def Obligations.HubRequestIsDecodedQueuedAnsweredOrDropped : Prop :=
  ∀ (a : Arrival) (payload : List Byte) (s : State), ArrivedWhole a payload → 2 ≤ payload.length → payload.length ≤ 250 →
    Completes (.hubRequest a) s fun u => ∃ v, FrameTaken .console 3 a v u ∧
      if 4 ≤ s.link.owed then
        v.link.requestDropped = true ∧ v.link.linkCheck = s.link.linkCheck ∧ v.link.passOverrun = s.link.passOverrun
        ∧ Keeps [.linkFlags] s v
      else
        v.link.owed = s.link.owed + 1 ∧ Keeps [.replies, .agent] s v
        ∧ (if s.hub.agent = .idle then
            v.hub.agent = .decoding payload s.now ∧ v.hub.requests = s.hub.requests ∧ v.link.replies = s.link.replies
          else if s.hub.requests.length < 2 then
            v.hub.agent = s.hub.agent ∧ v.hub.requests = s.hub.requests ++ [payload] ∧ v.link.replies = s.link.replies
          else
            v.hub.agent = s.hub.agent ∧ v.hub.requests = s.hub.requests
            ∧ v.link.replies = s.link.replies ++ [[payload.getD 0 0, payload.getD 1 0, 2]])

/-! ## The ends of frames sent -/

/-- WALL_FRAME_END (R149, R150, R151): within a burst its next frame follows; otherwise the idle-fill timer starts and the
arbiter chooses by the urgent level. IDLE_FILL_EXPIRY (R151, R24): on an idle transmitter a FILL frame is built from the round
summary and the show time of this moment, and sent; the timer stops until its end. -/
def Obligations.TheWallLinkChoosesByUrgencyAndFillsItsIdleTime : Prop :=
  (∀ (f : Frame) (rest : List Frame) (s : State), s.link.wallTx = some ⟨f, rest⟩ → ∃ t, exec .wallFrameEnd s = .next t ∧
      Keeps [.passing, .replies, .reports, .scoreOut, .sending, .notices] s t
      ∧ match rest with
        | g :: more =>
          t.link.wallTx = some ⟨g, more⟩ ∧ t.link.passQueue = s.link.passQueue ∧ t.link.hold = s.link.hold
          ∧ t.link.scoreOut = s.link.scoreOut ∧ t.link.burstNext = s.link.burstNext
        | [] =>
          match s.link.scoreOut, s.link.passQueue with
          | none, [] => t.link.wallTx = none ∧ t.link.fillTimer = some (s.now + 160)
          | some b, [] =>
            t.link.scoreOut = none ∧ t.link.burstNext = s.link.burstNext + 1 ∧ t.link.fillTimer = none
            ∧ ∃ g more, t.link.wallTx = some ⟨g, more⟩ ∧ g.cls = 7 ∧ more.length = (if b.image.rows.length ≤ 8 then 0 else 1)
              ∧ g.payload.take 3 = [s.link.burstNext, 1, if b.image.rows.length ≤ 8 then 1 else 2]
          | none, p :: q =>
            t.link.wallTx = some ⟨p, []⟩ ∧ t.link.passQueue = q ∧ t.link.fillTimer = none
            ∧ t.link.hold = (s.link.hold && decide (q.length ≠ 2))
          | some b, p :: q =>
            if (p :: q).length < s.hub.config.urgent then
              t.link.scoreOut = none ∧ t.link.burstNext = s.link.burstNext + 1 ∧ t.link.fillTimer = none
              ∧ t.link.passQueue = p :: q ∧ t.link.hold = s.link.hold
              ∧ ∃ g more, t.link.wallTx = some ⟨g, more⟩ ∧ g.cls = 7 ∧ more.length = (if b.image.rows.length ≤ 8 then 0 else 1)
                ∧ g.payload.take 3 = [s.link.burstNext, 1, if b.image.rows.length ≤ 8 then 1 else 2]
            else
              t.link.wallTx = some ⟨p, []⟩ ∧ t.link.passQueue = q ∧ t.link.scoreOut = some b ∧ t.link.fillTimer = none
              ∧ t.link.hold = (s.link.hold && decide (q.length ≠ 2)))
  ∧ (∀ (e : Time) (s : State), s.link.fillTimer = some e → 0 ≤ since s.now e → s.link.wallTx = none →
      Completes .idleFillExpiry s fun u =>
        u.link.fillTimer = none ∧ u.link.burstNext = s.link.burstNext ∧ u.link.consoleTx = s.link.consoleTx
        ∧ u.link.wallTx = some ⟨⟨8,
            (match s.round.current with
              | some q => [byteOf q.val, s.round.state.windowCode, s.questions[q].kind.code, byteOf s.questions[q].options]
              | none => [255, s.round.state.windowCode, 255, 255]) ++ be32 s.now.toNat⟩, []⟩
        ∧ Keeps [.sending] s u)

/-- CONSOLE_FRAME_END (R153): the oldest REPLY goes before the oldest REPORT, and that before the oldest NOTICE; a REPLY that
begins is no longer owed (R152). A NOTICE has the kind, subkind, build time and body that 12.6 gives, byte by byte; what a clear
presence flag leaves without a value is open (log entry 5). -/
def Obligations.ConsoleArbiterSendsRepliesThenReportsThenNotices : Prop :=
  ∀ (f : Frame) (s : State), s.link.consoleTx = some f → restartEnding s = false →
    ∃ t, exec .consoleFrameEnd s = .next t ∧
    Keeps [.passing, .replies, .reports, .scoreOut, .sending, .notices] s t ∧
    match s.link.replies, s.link.reports, s.hub.notices with
    | r :: rs, _, _ =>
      t.link.consoleTx = some ⟨4, r⟩ ∧ t.link.replies = rs ∧ t.link.owed = s.link.owed - 1
      ∧ t.link.reports = s.link.reports ∧ t.hub.notices = s.hub.notices
    | [], r :: rs, _ =>
      t.link.consoleTx = some ⟨6, r⟩ ∧ t.link.reports = rs ∧ t.link.owed = s.link.owed ∧ t.hub.notices = s.hub.notices
    | [], [], n :: ns =>
      (∃ payload, t.link.consoleTx = some ⟨5, payload⟩ ∧ NoticeBytes n payload)
      ∧ t.hub.notices = ns ∧ t.link.owed = s.link.owed
    | [], [], [] => t.link.consoleTx = none ∧ t.link.owed = s.link.owed

/-! ## READ and WRITE -/

/-- READ of each table (R159, R160, R59): BAD_INDEX from the table's count on; otherwise the REPLY carries the table's header and
the records from the first asked upward, as many as were asked, as there are, and as fit (log entry 9). Only PORTSTAT changes
something: the latched flags of the ports returned are cleared. Then the records of all fifteen tables and the three headers, byte
by byte (12.5); a TEAMS record carries its member and present counts (R30); a field whose presence flag is clear is open (log
entry 5). The records of TEAMS, QUESTIONS, CUES, SEQUENCES, STEPS, PORTCFG and CONFIG are the bytes that
WritingBackAReadRecordChangesNothing writes back. That the BUZZQ header sends 255 for the question's steals while the header has
no question is read by inference (log entry 20). -/
def Obligations.ReadsReturnTheRecordsOfTheRange : Prop :=
  (∀ (t : Table) (tag first count : Byte) (s : State), Executing [tag, 1, t.number, first, count] s →
    Completes (readOf t tag first count) s fun u =>
      if t.count ≤ first.toNat then (∃ body, Replied ([tag, 1, 6] ++ body) s u) ∧ Keeps [.replies, .agent] s u
      else ∃ (hb : Nat → Byte) (fb : Nat → Nat → Byte) (records : List (List Byte)),
        records = ((tableRecords fb t s).drop first.toNat).take (min count.toNat (readRoom t))
        ∧ (∀ r ∈ records, r.length = t.readLength)
        ∧ Replied ([tag, 1, 0, t.number, first, byteOf records.length] ++ tableHeader hb t s ++ records.flatten) s u
        ∧ 6 + (tableHeader hb t s).length + records.flatten.length ≤ 250
        ∧ (∀ p : Fin 4, u.ports[p] =
            if t = .portstat ∧ first.toNat ≤ p.val ∧ p.val < first.toNat + records.length then
              { s.ports[p] with
                flagCheck := false, flagLength := false, flagSlot := false, flagOverrun := false, flagBreak := false }
            else s.ports[p])
        ∧ Keeps [.ports, .replies, .agent] s u)
  ∧ ((∀ (fb : Nat → Nat → Byte) (s : State),
      (∀ t : Table, t ≠ .buzzq → t ≠ .judged → t ≠ .standings → (tableRecords fb t s).length = t.count)
      ∧ (∀ k : Fin 256, ∃ x : Byte, (tableRecords fb .seats s)[k.val]? = some
          ([optFin s.seats[k].team] ++ (match s.seats[k].pending with | some t => [1, optFin t] | none => [0, x])
            ++ [s.seats[k].presence.code, (match s.seats[k].cls with | some c => c.code | none => 255),
              flagByte s.seats[k].battery, byteOf s.seats[k].missed, optFin s.seats[k].lastPress, s.seats[k].lamp.code,
              flagByte s.seats[k].queued]))
      ∧ (∀ t : Fin 16, ∃ (g : Nat → Byte) (field : List Byte), NameField s.teams[t].name field
          ∧ let members := (List.finRange 256).filter fun k => decide (s.seats[k].team = some t)
            let present := members.filter fun k => decide (s.seats[k].presence = .present)
            (tableRecords fb .teams s)[t.val]? = some (s.teams[t].bytes g members.length present.length)
            ∧ s.teams[t].bytes g members.length present.length =
              [flagByte s.teams[t].active] ++ field ++ [byteOf members.length, byteOf present.length])
      ∧ (∀ q : Fin 128, (tableRecords fb .questions s)[q.val]? = some s.questions[q].bytes
          ∧ let r := s.questions[q]
            r.bytes = [r.kind.code, byteOf r.options, r.correct] ++ be16 r.base ++ be16 r.speed ++ be16 r.penalty
              ++ be16 r.stealPoints ++ [byteOf r.steals, byteOf r.answerTime, byteOf r.guard] ++ be16 r.target
              ++ be16 r.tolerance ++ be16 r.window ++ [byteOf r.settle, byteOf r.changeLimit] ++ be16 r.eligible.toNat
              ++ [r.mode.code, flagByte r.resultLamps, optFin r.reveal])
      ∧ (∀ i : Fin 64, (tableRecords fb .cues s)[i.val]? = some s.cues[i].bytes
          ∧ s.cues[i].bytes = [flagByte s.cues[i].valid] ++ be16 s.cues[i].number.toNat
            ++ [s.cues[i].action.code, s.cues[i].argument, flagByte s.cues[i].absorb])
      ∧ (∀ i : Fin 16, (tableRecords fb .sequences s)[i.val]? = some s.comp.sequences[i].bytes
          ∧ s.comp.sequences[i].bytes = [flagByte s.comp.sequences[i].valid, byteOf s.comp.sequences[i].first,
              byteOf s.comp.sequences[i].count, flagByte s.comp.sequences[i].loops])
      ∧ (∀ i : Fin 64, (tableRecords fb .steps s)[i.val]? = some s.comp.steps[i].bytes
          ∧ s.comp.steps[i].bytes = [s.comp.steps[i].view.code, byteOf s.comp.steps[i].hold]
            ++ be16 s.comp.steps[i].highlight.toNat ++ [flagByte s.comp.steps[i].invert, byteOf s.comp.steps[i].team.val])
      ∧ (∀ p : Fin 4, (tableRecords fb .portcfg s)[p.val]? = some s.ports[p].cfg.bytes
          ∧ s.ports[p].cfg.bytes = [flagByte s.ports[p].cfg.autostart, byteOf s.ports[p].cfg.positions,
              byteOf s.ports[p].cfg.period, byteOf s.ports[p].cfg.skew])
      ∧ (tableRecords fb .config s = [s.hub.config.bytes]
          ∧ s.hub.config.bytes = be16 s.hub.config.enabled.toNat ++ [byteOf s.hub.config.tallyCount,
              byteOf s.hub.config.tallyWait, byteOf s.hub.config.seatWait, byteOf s.hub.config.urgent,
              byteOf s.hub.config.silentTimeout] ++ be16 s.hub.config.mirror.toNat ++ [s.hub.config.resting.code])
      ∧ (∀ k : Fin 256, ∃ x y : Byte, (tableRecords fb .responses s)[k.val]? = some
          ([s.resp.records[k].state.code]
            ++ (match s.resp.records[k].answer with
              | some (.option o) => be16 o.val
              | some (.value v) => be16 v
              | none => [255, 255])
            ++ (match s.resp.records[k].pressTime with | some p => be32 p.toNat | none => [0, 0, 0, 0])
            ++ [byteOf s.resp.records[k].changes]
            ++ (match s.resp.records[k].points with | some p => 1 :: sbe16 p | none => [0, x, y])))
      ∧ List.Forall₂ (fun e r => ∃ m : Byte, r = [byteOf e.seat.val, byteOf e.team.val] ++ be32 e.time.toNat ++ [m]
          ∧ m.toNat = e.marks.stale.toNat + 2 * e.marks.clamped.toNat + 4 * e.marks.overrun.toNat
            + 8 * e.overtaken.toNat + 16 * e.tie.toNat) s.buzz.queue (tableRecords fb .buzzq s)
      ∧ tableRecords fb .judged s = s.buzz.judged.map (fun j =>
          [byteOf j.team.val, byteOf j.seat.val, j.verdict.code] ++ sbe16 j.points)
      ∧ (∀ t : Fin 16, (tableRecords fb .scores s)[t.val]? =
          some (sbe32 s.score.table[t].total ++ be16 s.score.table[t].correct ++ sbe32 s.score.table[t].last))
      ∧ tableRecords fb .standings s = s.sorter.published.map (fun e =>
          [byteOf e.rank, byteOf e.team.val] ++ sbe32 e.total ++ be16 e.correct ++ sbe32 e.last)
      ∧ (∃ r, tableRecords fb .commit s = [r] ∧ r.take 2 = [flagByte s.score.commit.valid, optFin s.score.commit.question]
          ∧ ∀ t : Fin 16, (r.drop (2 + 3 * t.val)).take 3 =
              sbe16 s.score.commit.points[t] ++ [byteOf s.score.commit.correct[t]])
      ∧ (∀ p : Fin 4, ∃ flags : Byte, (tableRecords fb .portstat s)[p.val]? = some
          [s.ports[p].state.code, byteOf s.ports[p].lastSequence.val, flagByte s.ports[p].roll.isSome,
            flagByte s.ports[p].lampNext.isSome, byteOf s.ports[p].inbox.length, byteOf s.ports[p].feedback.length, flags]
        ∧ flags.toNat = s.ports[p].flagCheck.toNat + 2 * s.ports[p].flagLength.toNat + 4 * s.ports[p].flagSlot.toNat
          + 8 * s.ports[p].flagOverrun.toNat + 16 * s.ports[p].flagBreak.toNat))
    ∧ ∀ (hb : Nat → Byte) (s : State),
      (∃ w x y z : Byte, tableHeader hb .responses s =
        [optFin s.resp.header.question, (match s.resp.header.kind with | some k => k.code | none => 255)]
          ++ (match s.resp.header.openTime with | some o => be32 o.toNat | none => [0, 0, 0, 0])
          ++ (match s.resp.header.closeTime with | some c => 1 :: be32 c.toNat | none => [0, w, x, y, z])
          ++ [flagByte s.resp.header.committed] ++ be16 s.resp.tallies.counts[0] ++ be16 s.resp.tallies.counts[1]
          ++ be16 s.resp.tallies.counts[2] ++ be16 s.resp.tallies.counts[3] ++ be16 s.resp.tallies.counts[4]
          ++ be16 s.resp.tallies.counts[5] ++ be16 s.resp.tallies.answered)
      ∧ (∃ w x y z : Byte, tableHeader hb .buzzq s =
        [optFin s.resp.header.question, optFin (if s.buzz.held then s.buzz.queue.head?.map (·.team) else none),
            byteOf s.buzz.stealsUsed,
            (match s.resp.header.question with | some q => byteOf s.questions[q].steals | none => 255)]
          ++ be16 s.buzz.locked.toNat
          ++ (match s.buzz.answerTimer with | some e => 1 :: be32 e.toNat | none => [0, w, x, y, z])
          ++ [byteOf s.buzz.queue.length])
      ∧ tableHeader hb .standings s =
        [flagByte s.sorter.running, flagByte s.sorter.rerank, byteOf s.sorter.published.length]
      ∧ ∀ t : Table, t ≠ .responses → t ≠ .buzzq → t ≠ .standings → tableHeader hb t s = [])

/-- WRITE of several records (R159, R161): BAD_INDEX, with nothing written, when the range passes the table's end; otherwise
each record is taken in ascending index, and the REPLY gives the status of the lowest refused record, else CLAMPED if any
record was, else OK, with the counts applied and refused and the lowest refused index. -/
def Obligations.WritesTakeTheirRecordsInOrder : Prop :=
  ∀ (t : Table) (tag first : Byte) (records : List (List Byte)) (s : State), t.writable = true →
    (∀ r ∈ records, r.length = t.writeLength) → records ≠ [] → records.flatten.length ≤ 246 →
    Executing ([tag, 2, t.number, first] ++ records.flatten) s →
    Completes (writeOf t tag first records.flatten) s fun u =>
      if t.count < first.toNat + records.length then
        (∃ body, Replied ([tag, 2, 6] ++ body) s u) ∧ Keeps [.replies, .agent] s u
      else
        let o := (recordOutcomes t first.toNat records s).1
        Keeps [.replies, .agent] (recordOutcomes t first.toNat records s).2 u
        ∧ (∀ st, o.find? Status.refuses = some st →
            Replied [tag, 2, st.code, byteOf (o.countP fun x => !x.refuses), byteOf (o.countP Status.refuses), 1,
              byteOf (first.toNat + o.findIdx Status.refuses)] s u)
        ∧ (o.find? Status.refuses = none →
            ∃ x, Replied [tag, 2, if .clamped ∈ o then 1 else 0, byteOf o.length, 0, 0, x] s u)

/-- WRITE_SEATS of one record (R27, R28): a value that is no team, or a 65th claim on a team, is BAD_VALUE; in IDLE the team
changes at once, with a SEAT event; in any other round state it waits in the pending team, which a write of the team the seat
has clears. -/
def Obligations.SeatTeamsChangeInIdleAndWaitOtherwise : Prop :=
  ∀ (tag first b : Byte) (k : Fin 256) (s : State), k.val = first.toNat → Executing [tag, 2, 1, first, b] s →
    Completes (.writeSeats tag first [b]) s fun u =>
      (16 ≤ b.toNat → b ≠ 255 → RefusedOne tag first .badValue s u ∧ Keeps [.replies, .agent] s u)
      ∧ (∀ t : Fin 16, t.val = b.toNat → 64 ≤ claims t k s →
          RefusedOne tag first .badValue s u ∧ Keeps [.replies, .agent] s u)
      ∧ ∀ team : Option (Fin 16), optFin team = b → (∀ t, team = some t → claims t k s < 64) →
          WroteOne tag .ok s u
          ∧ (∀ j : Fin 256, j ≠ k → u.seats[j] = s.seats[j])
          ∧ (if s.round.state = .idle then
              u.seats[k] = { s.seats[k] with team := team, pending := none }
              ∧ SeatEvent k ⟨false, false, false, decide (team ≠ s.seats[k].team)⟩ s u
            else
              u.seats[k] = { s.seats[k] with pending := if team = s.seats[k].team then none else some team }
              ∧ Keeps [.seats, .replies, .agent] s u)
          ∧ Keeps [.seats, .seatList, .notices, .noticeLost, .replies, .agent] s u

/-- WRITE_TEAMS of one record (R31): a name above 12 characters or with a character outside 32..126 is BAD_VALUE, a change of
the active flag outside IDLE is IN_USE; a stored record asks for a ranking pass when the flag changed, and its name is a
change of the views that show names. -/
def Obligations.TeamRecordsAreCheckedAndStored : Prop :=
  ∀ (tag first : Byte) (r : List Byte) (t : Fin 16) (s : State), r.length = 16 → t.val = first.toNat →
    Executing ([tag, 2, 2, first] ++ r) s → Completes (.writeTeams tag first r) s fun u =>
      let active := decide (r.getD 0 0 ≠ 0)
      let name := (r.drop 2).take (u8 r 1)
      if 12 < u8 r 1 ∨ (∃ c ∈ name, c.toNat < 32 ∨ 126 < c.toNat) then
        RefusedOne tag first .badValue s u ∧ Keeps [.replies, .agent] s u
      else if active ≠ s.teams[t].active ∧ s.round.state ≠ .idle then
        RefusedOne tag first .inUse s u ∧ Keeps [.replies, .agent] s u
      else
        WroteOne tag .ok s u
        ∧ u.teams[t] = ⟨active, name⟩ ∧ (∀ x : Fin 16, x ≠ t → u.teams[x] = s.teams[x])
        ∧ (if active = s.teams[t].active then u.sorter = s.sorter else Triggered s u)
        ∧ Refreshed (decide (name ≠ s.teams[t].name ∧
            (currentView s = .standings ∨ currentView s = .topFive ∨ currentView s = .teamCard
              ∨ currentView s = .buzzOrder))) s u
        ∧ Keeps [.teams, .sorter, .comp, .replies, .agent] s u

/-- WRITE_QUESTIONS of one record (R2, R3): the question in the header is IN_USE outside IDLE; a kind or mode code that names
none, and on CHOICE an empty correct set or one with a key beyond the options, are BAD_VALUE; otherwise every numeric field is
clamped to its range of R1 and the record stored whole. -/
def Obligations.QuestionRecordsAreCheckedAndClamped : Prop :=
  ∀ (tag first : Byte) (r : List Byte) (q : Fin 128) (s : State), r.length = 27 → q.val = first.toNat →
    Executing ([tag, 2, 3, first] ++ r) s → Completes (.writeQuestions tag first r) s fun u =>
      let options := max 2 (min 6 (u8 r 1))
      let beyond := ∃ k : Fin 8, options ≤ k.val ∧ (r.getD 2 0).getLsbD k.val = true
      let inUse := s.resp.header.question = some q ∧ s.round.state ≠ .idle
      (inUse → RefusedOne tag first .inUse s u ∧ Keeps [.replies, .agent] s u)
      ∧ (¬ inUse → 4 < u8 r 0 ∨ 1 < u8 r 24 ∨ (u8 r 0 = 1 ∧ (u8 r 2 = 0 ∨ beyond)) →
          RefusedOne tag first .badValue s u ∧ Keeps [.replies, .agent] s u)
      ∧ ∀ (kind : QKind) (mode : CommitMode), ¬ inUse → kind.code = r.getD 0 0 → mode.code = r.getD 24 0 →
          ¬ (kind = .choice ∧ (u8 r 2 = 0 ∨ beyond)) →
          WroteOne tag (if 2 ≤ u8 r 1 ∧ u8 r 1 ≤ 6 ∧ u16 r 3 ≤ 999 ∧ u16 r 5 ≤ 999 ∧ u16 r 7 ≤ 999 ∧ u16 r 9 ≤ 999
              ∧ u8 r 11 ≤ 15 ∧ u8 r 12 ≤ 60 ∧ u16 r 14 ≤ 9999 ∧ 1 ≤ u16 r 16 ∧ u16 r 16 ≤ 9999 ∧ 1 ≤ u16 r 18
              ∧ u16 r 18 ≤ 600 ∧ u8 r 21 ≤ 3 ∧ (u8 r 26 ≤ 15 ∨ u8 r 26 = 255) then .ok else .clamped) s u
          ∧ (∀ x : Fin 128, x ≠ q → u.questions[x] = s.questions[x])
          ∧ (∃ (correct : Byte) (reveal : Option (Fin 16)),
              (∀ k : Fin 8, correct.getLsbD k.val = ((r.getD 2 0).getLsbD k.val && decide (k.val < options)))
              ∧ reveal.map Fin.val = (if u8 r 26 = 255 then none else some (min 15 (u8 r 26)))
              ∧ u.questions[q] =
                { kind := kind, options := options, correct := correct, base := min 999 (u16 r 3)
                  speed := min 999 (u16 r 5), penalty := min 999 (u16 r 7), stealPoints := min 999 (u16 r 9)
                  steals := min 15 (u8 r 11), answerTime := min 60 (u8 r 12), guard := u8 r 13
                  target := min 9999 (u16 r 14), tolerance := max 1 (min 9999 (u16 r 16))
                  window := max 1 (min 600 (u16 r 18)), settle := u8 r 20, changeLimit := min 3 (u8 r 21)
                  eligible := BitVec.ofNat 16 (u16 r 22), mode := mode, resultLamps := decide (r.getD 25 0 ≠ 0)
                  reveal := reveal })
          ∧ Keeps [.questions, .replies, .agent] s u

/-- WRITE_CUES of one entry (R5, R6): an action code that names none is BAD_VALUE; a valid entry with the number of another
valid entry is DUPLICATE; otherwise it is stored, the argument clamped to 127 for OPEN and to 15 for REVEAL. -/
def Obligations.CueEntriesAreCheckedAndStored : Prop :=
  ∀ (tag first : Byte) (r : List Byte) (i : Fin 64) (s : State), r.length = 6 → i.val = first.toNat →
    Executing ([tag, 2, 4, first] ++ r) s → Completes (.writeCues tag first r) s fun u =>
      let number : BitVec 16 := BitVec.ofNat 16 (u16 r 1)
      ((∀ a : CueAction, a.code ≠ r.getD 3 0) →
        RefusedOne tag first .badValue s u ∧ Keeps [.replies, .agent] s u)
      ∧ ∀ a : CueAction, a.code = r.getD 3 0 →
        let limit : Nat := match a with | .openQuestion => 127 | .reveal => 15 | _ => 255
        if r.getD 0 0 ≠ 0 ∧ (∃ j : Fin 64, j ≠ i ∧ s.cues[j].valid = true ∧ s.cues[j].number = number) then
          RefusedOne tag first .duplicate s u ∧ Keeps [.replies, .agent] s u
        else
          WroteOne tag (if limit < u8 r 4 then .clamped else .ok) s u
          ∧ u.cues[i] = ⟨decide (r.getD 0 0 ≠ 0), number, a, byteOf (min limit (u8 r 4)), decide (r.getD 5 0 ≠ 0)⟩
          ∧ (∀ j : Fin 64, j ≠ i → u.cues[j] = s.cues[j])
          ∧ Keeps [.cues, .replies, .agent] s u

/-- WRITE_SEQUENCES and WRITE_STEPS of one record (R134, R135): the numbers are clamped; a sequence that would pass step 63 and
a view code that names none are BAD_VALUE. -/
def Obligations.SequencesAndStepsAreCheckedAndStored : Prop :=
  (∀ (tag first : Byte) (r : List Byte) (i : Fin 16) (s : State), r.length = 4 → i.val = first.toNat →
    Executing ([tag, 2, 5, first] ++ r) s → Completes (.writeSequences tag first r) s fun u =>
      let f := min 63 (u8 r 1)
      let n := max 1 (min 64 (u8 r 2))
      if 64 < f + n then RefusedOne tag first .badValue s u ∧ Keeps [.replies, .agent] s u
      else
        WroteOne tag (if f = u8 r 1 ∧ n = u8 r 2 then .ok else .clamped) s u
        ∧ (∃ x : Vector Sequence 16, u.comp = { s.comp with sequences := x }
            ∧ x[i] = ⟨decide (r.getD 0 0 ≠ 0), f, n, decide (r.getD 3 0 ≠ 0)⟩
            ∧ ∀ j : Fin 16, j ≠ i → x[j] = s.comp.sequences[j])
        ∧ Keeps [.comp, .replies, .agent] s u)
  ∧ ∀ (tag first : Byte) (r : List Byte) (i : Fin 64) (s : State), r.length = 6 → i.val = first.toNat →
    Executing ([tag, 2, 6, first] ++ r) s → Completes (.writeSteps tag first r) s fun u =>
      (6 < u8 r 0 → RefusedOne tag first .badValue s u ∧ Keeps [.replies, .agent] s u)
      ∧ ∀ v : View, v.code = r.getD 0 0 →
        WroteOne tag (if 1 ≤ u8 r 1 ∧ u8 r 5 ≤ 15 then .ok else .clamped) s u
        ∧ (∃ (x : Vector Step 64) (team : Fin 16), u.comp = { s.comp with steps := x } ∧ team.val = min 15 (u8 r 5)
            ∧ x[i] = ⟨v, max 1 (u8 r 1), BitVec.ofNat 16 (u16 r 2), decide (r.getD 4 0 ≠ 0), team⟩
            ∧ ∀ j : Fin 64, j ≠ i → x[j] = s.comp.steps[j])
        ∧ Keeps [.comp, .replies, .agent] s u

/-- WRITE_PORTCFG of one record (R43, R44): positions, then the period by its range and by the minimum that the slots need, are
clamped; on a port that is not STOPPED a change of either is IN_USE. -/
def Obligations.PortConfigurationsAreCheckedAndClamped : Prop :=
  ∀ (tag first : Byte) (r : List Byte) (p : Fin 4) (s : State), r.length = 4 → p.val = first.toNat →
    Executing ([tag, 2, 7, first] ++ r) s → Completes (.writePortcfg tag first r) s fun u =>
      let positions := max 1 (min 64 (u8 r 1))
      let period := max (max 8 (min 64 (u8 r 2))) ((16 + 2 * positions + 7) / 8)
      if s.ports[p].state ≠ .stopped ∧ (positions ≠ s.ports[p].cfg.positions ∨ period ≠ s.ports[p].cfg.period) then
        RefusedOne tag first .inUse s u ∧ Keeps [.replies, .agent] s u
      else
        WroteOne tag (if positions = u8 r 1 ∧ period = u8 r 2 then .ok else .clamped) s u
        ∧ u.ports[p] = { s.ports[p] with cfg := ⟨decide (r.getD 0 0 ≠ 0), positions, period, u8 r 3⟩ }
        ∧ (∀ o : Fin 4, o ≠ p → u.ports[o] = s.ports[o])
        ∧ Keeps [.ports, .replies, .agent] s u

/-- WRITE_CONFIG (R163, R167, R138): a resting view that is TEAM_CARD or none is BAD_VALUE; otherwise the record is stored,
clamped; a kind that leaves the enable set loses its coalescing state, and a new resting view is a change of the current view
while no sequence is shown. -/
def Obligations.ConfigurationIsCheckedAndStored : Prop :=
  ∀ (tag : Byte) (r : List Byte) (s : State), r.length = 10 → Executing ([tag, 2, 8, 0] ++ r) s →
    Completes (.writeConfig tag 0 r) s fun u =>
      (6 < u8 r 9 ∨ u8 r 9 = 2 → RefusedOne tag 0 .badValue s u ∧ Keeps [.replies, .agent] s u)
      ∧ ∀ v : View, v.code = r.getD 9 0 → v ≠ .teamCard →
        WroteOne tag (if 1 ≤ u8 r 2 ∧ 1 ≤ u8 r 5 ∧ u8 r 5 ≤ 8 ∧ 10 ≤ u8 r 6 then .ok else .clamped) s u
        ∧ u.hub.config =
          ⟨BitVec.ofNat 16 (u16 r 0) &&& 0x1FF, max 1 (u8 r 2), u8 r 3, u8 r 4, max 1 (min 8 (u8 r 5)), max 10 (u8 r 6),
            BitVec.ofNat 16 (u16 r 7), v⟩
        ∧ (if s.hub.config.enabled.getLsbD 1 = true ∧ (BitVec.ofNat 16 (u16 r 0)).getLsbD 1 = false then
            u.hub.tallyEvents = 0 ∧ u.hub.tallyTimer = none
          else u.hub.tallyEvents = s.hub.tallyEvents ∧ u.hub.tallyTimer = s.hub.tallyTimer)
        ∧ (if s.hub.config.enabled.getLsbD 3 = true ∧ (BitVec.ofNat 16 (u16 r 0)).getLsbD 3 = false then
            u.hub.seatChanges = [] ∧ u.hub.seatTimer = none
          else u.hub.seatChanges = s.hub.seatChanges ∧ u.hub.seatTimer = s.hub.seatTimer)
        ∧ Refreshed (decide (v ≠ s.hub.config.resting ∧ s.comp.player = .stopped)) s u
        ∧ Keeps [.config, .tally, .seatList, .comp, .replies, .agent] s u

/-- R3, R6, R44, R134, R135, R160, R163: writing back the record that a READ returns is OK and changes nothing: no bit of a
record's layout is lost on the way out or in. -/
def Obligations.WritingBackAReadRecordChangesNothing : Prop :=
  ∀ (tag : Byte) (s : State), RecordsInRange s → PortsLaw s → CueNumbersUnique s →
    let unchanged (c : Instr) : Prop := Completes c s fun u => WroteOne tag .ok s u ∧ Keeps [.replies, .agent] s u
    (∀ q : Fin 128, ¬ (s.resp.header.question = some q ∧ s.round.state ≠ .idle) →
      Executing ([tag, 2, 3, byteOf q.val] ++ s.questions[q].bytes) s →
      unchanged (.writeQuestions tag (byteOf q.val) s.questions[q].bytes))
    ∧ (∀ i : Fin 64, Executing ([tag, 2, 4, byteOf i.val] ++ s.cues[i].bytes) s →
      unchanged (.writeCues tag (byteOf i.val) s.cues[i].bytes))
    ∧ (∀ i : Fin 16, Executing ([tag, 2, 5, byteOf i.val] ++ s.comp.sequences[i].bytes) s →
      unchanged (.writeSequences tag (byteOf i.val) s.comp.sequences[i].bytes))
    ∧ (∀ i : Fin 64, Executing ([tag, 2, 6, byteOf i.val] ++ s.comp.steps[i].bytes) s →
      unchanged (.writeSteps tag (byteOf i.val) s.comp.steps[i].bytes))
    ∧ (∀ p : Fin 4, Executing ([tag, 2, 7, byteOf p.val] ++ s.ports[p].cfg.bytes) s →
      unchanged (.writePortcfg tag (byteOf p.val) s.ports[p].cfg.bytes))
    ∧ (∀ (t : Fin 16) (fb : Nat → Byte) (members present : Nat),
      Executing ([tag, 2, 2, byteOf t.val] ++ s.teams[t].bytes fb members present) s →
      unchanged (.writeTeams tag (byteOf t.val) (s.teams[t].bytes fb members present)))
    ∧ (Executing ([tag, 2, 8, 0] ++ s.hub.config.bytes) s → unchanged (.writeConfig tag 0 s.hub.config.bytes))

/-! ## Requests turned away, and those the agent takes itself -/

/-- REQUEST_MALFORMED, READ_UNKNOWN_TABLE and WRITE_READ_ONLY_TABLE (R158, R159): MALFORMED for an unknown kind or a length
that does not fit, and BAD_TABLE, with a body the manual leaves open (log entry 7). While the Preset Loader runs, every request
but STATUS whose kind is known is answered BUSY and has no effect. -/
def Obligations.UnfitRequestsAndRequestsDuringALoadChangeNothing : Prop :=
  ((∀ (payload : List Byte) (s : State),
        knownKind (u8 payload 1) = false ∧ Decoding payload s ∨ payloadFits payload = false ∧ Executing payload s →
        Completes (.requestMalformed payload) s fun u =>
          Replied [payload.getD 0 0, payload.getD 1 0, 10] s u ∧ Keeps [.replies, .agent] s u)
    ∧ (∀ (tag table first count : Byte) (s : State), table.toNat = 0 ∨ 15 < table.toNat →
        Executing [tag, 1, table, first, count] s → Completes (.readUnknownTable tag table first count) s fun u =>
          (∃ body, Replied ([tag, 1, 5] ++ body) s u) ∧ Keeps [.replies, .agent] s u)
    ∧ ∀ (tag table first : Byte) (records : List Byte) (s : State), table.toNat = 0 ∨ 8 < table.toNat →
        payloadFits ([tag, 2, table, first] ++ records) = true → Executing ([tag, 2, table, first] ++ records) s →
        Completes (.writeReadOnlyTable tag table first records) s fun u =>
          (∃ body, Replied ([tag, 2, 5] ++ body) s u) ∧ Keeps [.replies, .agent] s u)
  ∧ (∀ (c : Instr) (payload : List Byte) (s : State), requestOf c = some payload → c.wf = true →
      knownKind (u8 payload 1) = true → u8 payload 1 ≠ 6 → Decoding payload s → s.loader.running = true →
      Completes c s fun u =>
        (∃ body, Replied ([payload.getD 0 0, payload.getD 1 0, 2] ++ body) s u
          ∧ (u8 payload 1 ≠ 1 → u8 payload 1 ≠ 2 → body = []))
        ∧ Keeps [.replies, .agent] s u)

/-- STATUS (R164), RELOAD (R165) and RESTART (R166): the 27 bytes of the status, with its four flags cleared; a load begins in IDLE
with every port STOPPED; the agent waits for the end of its REPLY. -/
def Obligations.StatusReloadAndRestartAreTakenByTheAgent : Prop :=
  (∀ (tag : Byte) (s : State), Decoding [tag, 6] s → Completes (.status tag) s fun u =>
      Replied ([tag, 6, 0] ++ be32 s.now.toNat
        ++ [s.round.state.code, optFin s.round.current, s.ports[0].state.code, s.ports[1].state.code,
            s.ports[2].state.code, s.ports[3].state.code, flagByte s.sorter.running, flagByte s.sorter.rerank,
            s.comp.backState.code, flagByte s.comp.freeze, flagByte s.comp.curtain, flagByte s.comp.silent]
        ++ (match s.comp.player with
            | .stopped => [0, 255, 255]
            | .active false p => [1, byteOf p.sequence.val, byteOf p.step]
            | .active true p => [2, byteOf p.sequence.val, byteOf p.step])
        ++ [flagByte s.loader.running, s.loader.result.code] ++ be16 s.loader.refused
        ++ [flagByte s.link.linkCheck, flagByte s.link.passOverrun, flagByte s.link.requestDropped,
            flagByte s.hub.noticeLost]) s u
      ∧ u.link.linkCheck = false ∧ u.link.passOverrun = false ∧ u.link.requestDropped = false ∧ u.hub.noticeLost = false
      ∧ Keeps [.linkFlags, .noticeLost, .replies, .agent] s u)
  ∧ (∀ (tag : Byte) (flash : List Byte) (s : State), Executing [tag, 7] s → Completes (.reload tag flash) s fun u =>
      if s.round.state = .idle ∧ (∀ p : Fin 4, s.ports[p].state = .stopped) then
        Replied [tag, 7, 0] s u
        ∧ u.loader = { s.loader with running := true, image := flash, position := 0, fault := false, count := 0 }
        ∧ Keeps [.loader, .replies, .agent] s u
      else Replied [tag, 7, 4] s u ∧ Keeps [.replies, .agent] s u)
  ∧ ∀ (tag : Byte) (s : State), Executing [tag, 8] s → Completes (.restart tag) s fun u =>
      u.link.replies = s.link.replies ++ [[tag, 8, 0]] ∧ u.link.owed = s.link.owed
      ∧ u.hub.agent = .restarting ∧ u.hub.requests = s.hub.requests ∧ Keeps [.replies, .agent] s u

/-! ## The round -/

/-- OPEN and NEXT in IDLE (R11, R12, R13): OPEN takes a question that is not EMPTY, NEXT the lowest such above the last opened
one. Its array, tallies, queue and Round Record start afresh, every lamp goes OFF, and the STATE notice is raised, behind the
TALLY notice of unreported events, which carries the header and tallies from before the clear (R168). Reopening the current
question starts lamp sweeps, and the clearing is a change of the HISTOGRAM and BUZZ_ORDER views (R84, R105). -/
def Obligations.OpeningAQuestionStartsItsRecordsAfresh : Prop :=
  ∀ (c : Instr) (tag : Byte) (q : Fin 128) (s : State), s.round.state = .idle → s.questions[q].kind ≠ .empty →
    (c = .actOpen tag (byteOf q.val) ∧ Executing [tag, 3, 1, byteOf q.val] s)
      ∨ (c = .actNext tag ∧ Executing [tag, 3, 2] s
        ∧ (∀ l, s.round.lastOpened = some l → l.val < q.val)
        ∧ ∀ x : Fin 128, x.val < q.val → (∀ l, s.round.lastOpened = some l → l.val < x.val) → s.questions[x].kind = .empty) →
    Completes c s fun u => ∃ v, QuestionOpened q s v ∧ Replied [tag, 3, 0] s u ∧ Keeps [.replies, .agent] v u

/-- OPEN and NEXT outside IDLE, and with nothing to open (R11, R13, R14): COMMITTING holds the question as the pending open; an
EMPTY question, a number above 127, and a NEXT past the last question are BAD_VALUE; every other state is BAD_STATE. -/
def Obligations.OpeningsWaitForACommitOrAreRefused : Prop :=
  ∀ (c : Instr) (tag : Byte) (chosen : Option (Fin 128)) (s : State),
    (∃ b : Byte, c = .actOpen tag b ∧ Executing [tag, 3, 1, b] s
        ∧ ∀ q : Fin 128, chosen = some q ↔ b.toNat = q.val ∧ s.questions[q].kind ≠ .empty)
      ∨ (c = .actNext tag ∧ Executing [tag, 3, 2] s ∧ chosen = nextQuestion s) →
    Completes c s fun u =>
      (s.round.state = .opened ∨ s.round.state = .floor ∨ s.round.state = .closing ∨ s.round.state = .closed →
        Replied [tag, 3, 4] s u ∧ Keeps [.replies, .agent] s u)
      ∧ (s.round.state = .idle ∨ s.round.state = .committing → chosen = none →
        Replied [tag, 3, 7] s u ∧ Keeps [.replies, .agent] s u)
      ∧ ∀ q, s.round.state = .committing → chosen = some q →
        Replied [tag, 3, 0] s u ∧ u.round = { s.round with pendingOpen := some q } ∧ Keeps [.round, .replies, .agent] s u

/-- CLOSE and WINDOW_EXPIRY (R15, R16): answering closes in OPEN; a CLOSE in FLOOR closes the window for good without leaving the
state; every other CLOSE is BAD_STATE. SETTLE_EXPIRY and HEAD_SETTLE_EXPIRY (R17, R96): the settle interval of CLOSING is over;
the head of the queue is put to the grant test again. That a floor granted at or
after the window's deadline pauses the window with a remainder of 0 is read by inference (log entry 22). -/
def Obligations.ClosingSettlesAndTestsTheHead : Prop :=
  ((∀ (d : Time) (s : State), s.round.state = .opened → s.round.window = .running d → 0 ≤ since s.now d →
        Completes .windowExpiry s fun u => AnsweringCloses s u)
    ∧ ∀ (tag : Byte) (s : State), Executing [tag, 3, 3] s → Completes (.actClose tag) s fun u =>
        if s.round.state = .opened then
          ∃ a, AnsweringCloses s a ∧ Replied [tag, 3, 0] s u ∧ Keeps [.replies, .agent] a u
        else if s.round.state = .floor ∧ s.round.closedMark = false then
          Replied [tag, 3, 0] s u
          ∧ u.round = { s.round with window := .stopped, closedMark := true }
          ∧ u.resp = { s.resp with header := { s.resp.header with closeTime := some s.now } }
          ∧ Keeps [.round, .resp, .replies, .agent] s u
        else Replied [tag, 3, 4] s u ∧ Keeps [.replies, .agent] s u)
  ∧ ((∀ (e : Time) (s : State), s.round.state = .closing → s.round.settle = some e → 0 ≤ since s.now e →
        Completes .settleExpiry s fun u => SettleOver s u)
    ∧ ∀ (e : Time) (s : State), s.buzz.headTimer = some e → 0 ≤ since s.now e →
        Completes .headSettleExpiry s fun u => GrantTested s u)

/-- COMMIT and CANCEL (R20, R22, R104, R29): COMMIT begins the commit pass in CLOSED and is BAD_STATE elsewhere. CANCEL is BUSY in
COMMITTING and BAD_STATE in IDLE; elsewhere the round is IDLE at once, its timers stopped, the floor released, the pending teams
applied, with a SEAT event for each seat whose team changes, and every lamp OFF. That the notice of a CANCEL in CLOSING carries no
snapshot is read by inference (log entry 18). -/
def Obligations.CommitBeginsAPassAndCancelEndsTheQuestion : Prop :=
  (∀ (tag : Byte) (s : State), Executing [tag, 3, 4] s → Completes (.actCommit tag) s fun u =>
      if s.round.state = .closed then
        Replied [tag, 3, 0] s u ∧ u.round = { s.round with state := .committing }
        ∧ u.score.table = s.score.table ∧ u.score.commit = s.score.commit
        ∧ u.score.walk.walking = true ∧ u.score.walk.start = s.now ∧ u.score.walk.position = 0
        ∧ (∀ t : Fin 16, u.score.walk.sums[t] = 0 ∧ u.score.walk.answered[t] = 0 ∧ u.score.walk.correct[t] = 0)
        ∧ NoticesRaised [.roundState .committing s.round.current s.round.closedMark none] s u
        ∧ Keeps [.round, .score, .notices, .noticeLost, .replies, .agent] s u
      else Replied [tag, 3, 4] s u ∧ Keeps [.replies, .agent] s u)
  ∧ ∀ (tag : Byte) (s : State), Executing [tag, 3, 5] s → Completes (.actCancel tag) s fun u =>
      if s.round.state = .idle then Replied [tag, 3, 4] s u ∧ Keeps [.replies, .agent] s u
      else if s.round.state = .committing then Replied [tag, 3, 2] s u ∧ Keeps [.replies, .agent] s u
      else
        Replied [tag, 3, 0] s u
        ∧ u.round = { s.round with state := .idle, window := .stopped, settle := none }
        ∧ u.buzz = { s.buzz with held := false, headTimer := none, answerTimer := none }
        ∧ (∀ k : Fin 256, u.seats[k] =
            { s.seats[k] with team := s.seats[k].pending.getD s.seats[k].team, pending := none, lamp := .off })
        ∧ HubEvents (.notice (.roundState .idle s.round.current s.round.closedMark none) :: pendingEvents s) s u
        ∧ Refreshed (decide (s.buzz.held = true ∧ currentView s = .buzzOrder)) s u
        ∧ Keeps [.round, .buzz, .seats, .comp, .seatList, .notices, .noticeLost, .replies, .agent] s u

/-! ## Verdicts -/

/-- JUDGE of the holder, and ANSWER_TIMER_EXPIRY in FLOOR (R98 to R102): the verdict is recorded with its points; RIGHT ends the
question; WRONG and TIMEOUT lock the team, release the floor, and open it again while steals are left and someone may still
buzz, counting a steal when a team waits; otherwise the question ends. That a window whose remainder is 0 leaves the round OPEN, its
expiry a step of its own, is read by inference (log entry 22), and so are the two reports of the removal and of the release to the
Composer (R105, log entry 19). -/
def Obligations.VerdictsAreRecordedAndReleaseTheFloor : Prop :=
  ∀ (c : Instr) (tag : Byte) (v : Verdict) (e : BuzzEntry) (rest : List BuzzEntry) (s : State),
    s.round.state = .floor → s.buzz.held = true → s.buzz.queue = e :: rest →
    (c = .answerTimerExpiry ∧ v = .timeout ∧ ∃ d, s.buzz.answerTimer = some d ∧ 0 ≤ since s.now d)
      ∨ (c = .actJudge tag (byteOf e.team.val) v.code ∧ v ≠ .timeout
        ∧ Executing [tag, 3, 6, byteOf e.team.val, v.code] s ∧ ∀ j ∈ s.buzz.judged, j.team ≠ e.team) →
    Completes c s fun u =>
      let q := headerQuestion s
      let steal := v ≠ .right ∧ s.buzz.stealsUsed < q.steals ∧ rest ≠ []
      let steals := if steal then s.buzz.stealsUsed + 1 else s.buzz.stealsUsed
      let points : Int := match v with
        | .right => if s.buzz.judged = [] then q.base else q.stealPoints
        | .wrong => -(q.penalty : Int)
        | .timeout => 0
      ∃ a b f : State, VerdictRecorded v e points steals s a
        ∧ (if v = .right then b = a ∧ QuestionEnds a f
          else
            b.buzz = { a.buzz with
              queue := rest, held := false, locked := a.buzz.locked ||| (1#16 <<< e.team.val), stealsUsed := steals }
            ∧ (∃ m, Refreshed (decide (currentView s = .buzzOrder)) (a.withBuzz b.buzz) m ∧ m.buzz = b.buzz
                ∧ Keeps [.buzz, .comp] a m ∧ Refreshed (decide (currentView s = .buzzOrder)) m b)
            ∧ Keeps [.buzz, .comp] a b
            ∧ (if s.buzz.stealsUsed < q.steals ∧ (rest ≠ [] ∨ s.round.closedMark = false) then
                ∃ d, FloorOpenAgain b d ∧ GrantTested d f
              else QuestionEnds b f))
        ∧ (c = .answerTimerExpiry → u = f)
        ∧ (c ≠ .answerTimerExpiry → Replied [tag, 3, 0] s u ∧ Keeps [.replies, .agent] f u)

/-- JUDGE turned away (R98): a team above 15 or a verdict other than RIGHT and WRONG is BAD_VALUE; a team already judged is
STALE_JUDGE; outside FLOOR it is BAD_STATE; a team other than the holder is STALE_JUDGE. Nothing changes. -/
def Obligations.StaleAndMisplacedVerdictsChangeNothing : Prop :=
  ∀ (tag team verdict : Byte) (s : State), Executing [tag, 3, 6, team, verdict] s →
    Completes (.actJudge tag team verdict) s fun u =>
      (16 ≤ team.toNat ∨ 2 ≤ verdict.toNat → Replied [tag, 3, 7] s u ∧ Keeps [.replies, .agent] s u)
      ∧ ∀ t : Fin 16, t.val = team.toNat → verdict.toNat ≤ 1 →
        ((∃ j ∈ s.buzz.judged, j.team = t) → Replied [tag, 3, 9] s u ∧ Keeps [.replies, .agent] s u)
        ∧ ((∀ j ∈ s.buzz.judged, j.team ≠ t) → s.round.state ≠ .floor →
            Replied [tag, 3, 4] s u ∧ Keeps [.replies, .agent] s u)
        ∧ ((∀ j ∈ s.buzz.judged, j.team ≠ t) → s.round.state = .floor → holderTeam s ≠ some t →
            Replied [tag, 3, 9] s u ∧ Keeps [.replies, .agent] s u)

/-! ## Row ports -/

/-- START, STOP and ROLL_CALL (R45, R47, R54, R162): a port above 3 is BAD_VALUE; START wakes a STOPPED port, STOP stops any, with
SEAT events for its seats in ascending position (R36, R41; the order is the model's choice, log entry 28), and ROLL_CALL starts a
pass on a SWEEPING port with none running. -/
def Obligations.StartStopAndRollCallObeyThePortState : Prop :=
  ∀ (tag x : Byte) (s : State),
    ((∀ p : Fin 4, p.val ≠ x.toNat) →
      (Executing [tag, 4, 32, x] s → Completes (.portStart tag x) s fun u =>
          Replied [tag, 4, 7] s u ∧ Keeps [.replies, .agent] s u)
      ∧ (Executing [tag, 4, 33, x] s → Completes (.portStop tag x) s fun u =>
          Replied [tag, 4, 7] s u ∧ Keeps [.replies, .agent] s u)
      ∧ (Executing [tag, 4, 34, x] s → Completes (.portRollCall tag x) s fun u =>
          Replied [tag, 4, 7] s u ∧ Keeps [.replies, .agent] s u))
    ∧ ∀ p : Fin 4, p.val = x.toNat →
      (Executing [tag, 4, 32, x] s → Completes (.portStart tag x) s fun u =>
        if s.ports[p].state = .stopped then
          Replied [tag, 4, 0] s u
          ∧ u.ports[p] = { s.ports[p] with state := .waking, wakeTimer := some (s.now + 160) }
          ∧ (∀ o : Fin 4, o ≠ p → u.ports[o] = s.ports[o]) ∧ Keeps [.ports, .replies, .agent] s u
        else Replied [tag, 4, 4] s u ∧ Keeps [.replies, .agent] s u)
      ∧ (Executing [tag, 4, 33, x] s → Completes (.portStop tag x) s fun u =>
        Replied [tag, 4, 0] s u
        ∧ u.ports[p] = { s.ports[p] with
            state := .stopped, lastSequence := 15, wakeTimer := none, sweepTimer := none, idleTimer := none
            sweep := none, inbox := [], feedback := [], lampNext := none, roll := none }
        ∧ (∀ o : Fin 4, o ≠ p → u.ports[o] = s.ports[o])
        ∧ u.stamper.inHand = s.stamper.inHand ∧ u.stamper.lastServed = s.stamper.lastServed
        ∧ (∀ (o : Fin 4) (i : Fin 16), u.stamper.history[o][i] = if o = p then none else s.stamper.history[o][i])
        ∧ (∀ k : Fin 256, u.seats[k] =
            if portOf k = p then
              { s.seats[k] with
                presence := .absent, missed := 0, battery := false
                queued := s.seats[k].queued && decide (posOf k ∉ s.ports[p].feedback) }
            else s.seats[k])
        ∧ HubEvents (presenceEvents p .absent (fun _ => true) s) s u
        ∧ Keeps [.ports, .stamper, .seats, .seatList, .notices, .noticeLost, .replies, .agent] s u)
      ∧ (Executing [tag, 4, 34, x] s → Completes (.portRollCall tag x) s fun u =>
        if s.ports[p].state ≠ .sweeping then Replied [tag, 4, 4] s u ∧ Keeps [.replies, .agent] s u
        else if s.ports[p].roll.isSome then Replied [tag, 4, 2] s u ∧ Keeps [.replies, .agent] s u
        else
          Replied [tag, 4, 0] s u
          ∧ u.ports[p] = { s.ports[p] with checkPointer := 0, roll := some ((s.ports[p].cfg.positions + 3) / 4) }
          ∧ (∀ o : Fin 4, o ≠ p → u.ports[o] = s.ports[o]) ∧ Keeps [.ports, .replies, .agent] s u)

/-- WAKE_TIMER_EXPIRY (R46): the port enters SWEEPING with a roll call and a lamp sweep from position 0, and its first beacon
departs. SWEEP_START (R48): the next beacon departs. Positions a beacon took from the queue are no longer queued. -/
def Obligations.WakingPortsAndSweepStartsSendABeacon : Prop :=
  ∀ (p : Fin 4) (e : Time) (s : State), 1 ≤ s.ports[p].cfg.positions → s.ports[p].cfg.positions ≤ 64 → 0 ≤ since s.now e →
    s.ports[p].feedback.Nodup →
    (s.ports[p].state = .waking → s.ports[p].wakeTimer = some e → Completes (.wakeTimerExpiry p) s fun u =>
      BeaconSent p { s.ports[p] with
        state := .sweeping, wakeTimer := none, feedback := [], lampNext := some 0, checkPointer := 0
        roll := some ((s.ports[p].cfg.positions + 3) / 4) } s u
      ∧ (∀ k : Fin 256, u.seats[k] = { s.seats[k] with
          queued := s.seats[k].queued && !decide (portOf k = p ∧ posOf k ∈ s.ports[p].feedback) })
      ∧ Keeps [.ports, .seats, .stamper] s u)
    ∧ (s.ports[p].state = .sweeping → s.ports[p].sweepTimer = some e →
      (∀ sw, s.ports[p].sweep = some sw → sw.ended = true) → Completes (.sweepStart p) s fun u =>
        BeaconSent p s.ports[p] s u
        ∧ (∀ k : Fin 256, u.seats[k] = { s.seats[k] with
            queued := s.seats[k].queued
              && !decide (portOf k = p ∧ posOf k ∈ s.ports[p].feedback ∧ posOf k ∉ u.ports[p].feedback) })
        ∧ Keeps [.ports, .seats, .stamper] s u)

/-- SWEEP_END (R34, R35, R48, R50, R54): each check position is reported, answered when its HELLO passed every check; a missed
check counts, up to 3, and makes the seat ABSENT in a roll call and a PRESENT one SILENT at the third miss. A changed presence is a
SEAT event (R41), in the order of the check list (the model's choice, log entry 28). The last sweep of a roll call ends it and then
raises ROLL_DONE with the counts as they now stand. -/
def Obligations.SweepEndReportsTheCheckPositions : Prop :=
  ∀ (p : Fin 4) (sw : Sweep) (s : State), s.ports[p].sweep = some sw → sw.ended = false → sw.beacon.checks.Nodup →
    0 ≤ since s.now (sw.departure + BitVec.ofNat 32 (16 + 2 * s.ports[p].cfg.positions)) →
    Completes (.sweepEnd p) s fun u =>
      let last := sw.beacon.roll = true ∧ s.ports[p].roll = some 0
      u.ports[p] = { s.ports[p] with
        sweep := some { sw with ended := true }, roll := if last then none else s.ports[p].roll }
      ∧ (∀ o : Fin 4, o ≠ p → u.ports[o] = s.ports[o])
      ∧ (∀ k : Fin 256, u.seats[k] =
          if portOf k = p ∧ posOf k ∈ sw.beacon.checks then
            if posOf k ∈ sw.hellos then { s.seats[k] with missed := 0 }
            else if sw.beacon.roll then
              { s.seats[k] with missed := min (s.seats[k].missed + 1) 3, presence := .absent, battery := false }
            else { s.seats[k] with
              missed := min (s.seats[k].missed + 1) 3
              presence := if s.seats[k].presence = .present ∧ 2 ≤ s.seats[k].missed then .silent
                else s.seats[k].presence }
          else s.seats[k])
      ∧ (let count (x : Presence) : Nat := ((List.finRange 64).filter fun i =>
            decide (i.val < s.ports[p].cfg.positions ∧ u.seats[seatOf p i].presence = x)).length
        HubEvents ((sw.beacon.checks.map fun i => .seat (seatOf p i)
              ⟨decide (u.seats[seatOf p i].presence ≠ s.seats[seatOf p i].presence), false, false, false⟩)
            ++ if last then [.notice (.rollDone p (count .present) (count .absent) (count .silent))] else []) s u)
      ∧ Keeps [.ports, .seats, .seatList, .notices, .noticeLost] s u

/-- HANDSET_FRAME_RECEIVED on a SWEEPING port (R55, R56, R177): a frame within the slot of one position that has had none meets
LENGTH, then CHECK, and a good one enters the Inbox, in place of the newest entry when 4 wait; any other frame outside the
beacon sets the SLOT flag (log entry 10). That a frame of the last slot of one sweep whose reception ends after the next departure
is tested by the new sweep is the model's choice (log entry 30). A start mark within the beacon, or before the port entered
SWEEPING, is not hunted for; nor is any on a port that is not SWEEPING. -/
def Obligations.ReceptionsAreCheckedInOrder : Prop :=
  (∀ (p : Fin 4) (start last : Time) (bytes : List Byte) (s : State), s.ports[p].state ≠ .sweeping →
    Completes (.handsetFrameReceived p start last bytes) s fun u => Keeps [] s u)
  ∧ ∀ (p : Fin 4) (start last : Time) (bytes : List Byte) (sw : Sweep) (s : State),
    s.ports[p].state = .sweeping → s.ports[p].sweep = some sw → s.ports[p].cfg.positions ≤ 64 →
    Completes (.handsetFrameReceived p start last bytes) s fun u =>
      let fits (n : Nat) : Prop := n < s.ports[p].cfg.positions
        ∧ 16 + 2 * (n : Int) ≤ since start sw.departure ∧ since start sw.departure < 18 + 2 * (n : Int)
        ∧ 16 + 2 * (n : Int) ≤ since last sw.departure ∧ since last sw.departure < 18 + 2 * (n : Int)
      let kind := u8 bytes 0
      let length := (kind = 1 ∧ bytes.length = 4) ∨ (kind = 2 ∧ bytes.length = 7) ∨ (kind = 3 ∧ bytes.length = 8)
      (∀ o : Fin 4, o ≠ p → u.ports[o] = s.ports[o]) ∧ Keeps [.ports] s u
      ∧ ((0 ≤ since start sw.departure ∧ since start sw.departure < 5)
            ∨ (since start sw.departure < 0 ∧ sw.first = true) → u.ports[p] = s.ports[p])
      ∧ ((since start sw.departure < 0 ∧ sw.first = false) ∨ 5 ≤ since start sw.departure →
          (∀ n : Fin 64, fits n.val → n ∈ sw.usedSlots) → u.ports[p] = { s.ports[p] with flagSlot := true })
      ∧ ∀ n : Fin 64, fits n.val → n ∉ sw.usedSlots →
          (¬ length → u.ports[p] = { s.ports[p] with
            sweep := some { sw with usedSlots := n :: sw.usedSlots }, flagLength := true })
          ∧ (length → bytes.sum ≠ 0 → u.ports[p] = { s.ports[p] with
            sweep := some { sw with usedSlots := n :: sw.usedSlots }, flagCheck := true })
          ∧ (length → bytes.sum = 0 → ∃ e : InboxEntry,
              e = ⟨e.frame, n, s.now, sw.beacon.sequence, sw.departure, decide (4 ≤ s.ports[p].inbox.length)⟩
              ∧ (kind = 1 → e.frame = .hello (bytes.getD 1 0) (decide (bytes.getD 2 0 ≠ 0)))
              ∧ (kind = 2 → ∃ (m : Fin 4) (r : Fin 16), m.val = u8 bytes 2 % 4 ∧ r.val = u8 bytes 3 % 16
                  ∧ e.frame = .press (bytes.getD 1 0) m r (min (u16 bytes 4) 4095))
              ∧ (kind = 3 → ∃ (m : Fin 4) (r : Fin 16), m.val = u8 bytes 3 % 4 ∧ r.val = u8 bytes 4 % 16
                  ∧ e.frame = .digits (u16 bytes 1) m r (min (u16 bytes 5) 4095))
              ∧ u.ports[p] = { s.ports[p] with
                  sweep := some { sw with
                    usedSlots := n :: sw.usedSlots, hellos := if kind = 1 then n :: sw.hellos else sw.hellos }
                  inbox := (if s.ports[p].inbox.length < 4 then s.ports[p].inbox else s.ports[p].inbox.dropLast) ++ [e]
                  flagOverrun := s.ports[p].flagOverrun || decide (4 ≤ s.ports[p].inbox.length) })

/-- BREAK_BEGIN, LINE_IDLE_CHANGE and BREAK_END (R36, R57, R58): a line held active for more than 8 ticks outside the beacon of a
SWEEPING port's sweep, found so after the beacon, begins a break, and no other does (the beacon's 5 whole ticks are log entry 10). A
break stops the sweep and silences the port's seats, with SEAT events in ascending position (the order is the model's choice, log
entry 28) and then its notice; the idle timer runs while the line is idle; its expiry wakes the port. -/
def Obligations.BreaksSilenceAPortUntilItsLineIsIdle : Prop :=
  ((∀ (p : Fin 4) (active : Time) (lineIdle : Bool) (s : State),
      s.ports[p].state ≠ .sweeping
        ∨ (∃ sw, s.ports[p].sweep = some sw
          ∧ (since s.now sw.departure < 5 ∨ since s.now sw.departure - since active sw.departure ≤ 8
            ∨ ((sw.first = true ∨ 0 ≤ since active sw.departure) ∧ since active sw.departure < 5
              ∧ since s.now sw.departure ≤ 13)
            ∨ (since active sw.departure < 0 ∧ since s.now sw.departure - since active sw.departure ≤ 13))) →
      exec (.breakBegin p ⟨active, lineIdle⟩) s = .next s)
  ∧ ∀ (p : Fin 4) (active : Time) (lineIdle : Bool) (sw : Sweep) (s : State), s.ports[p].state = .sweeping →
      s.ports[p].sweep = some sw → 5 ≤ since s.now sw.departure →
      (if 5 ≤ since active sw.departure then 8 < since s.now sw.departure - since active sw.departure
        else if sw.first = true ∨ 0 ≤ since active sw.departure then 13 < since s.now sw.departure
        else 13 < since s.now sw.departure - since active sw.departure) →
      Completes (.breakBegin p ⟨active, lineIdle⟩) s fun u =>
      u.ports[p] = { s.ports[p] with
        state := .broken, sweep := none, sweepTimer := none, roll := none, lampNext := none, feedback := []
        flagBreak := true, idleTimer := if lineIdle then some (s.now + 400) else none }
      ∧ (∀ o : Fin 4, o ≠ p → u.ports[o] = s.ports[o])
      ∧ (∀ k : Fin 256, u.seats[k] =
          if portOf k = p then { s.seats[k] with
            presence := if (posOf k).val < s.ports[p].cfg.positions then .silent else s.seats[k].presence
            queued := s.seats[k].queued && decide (posOf k ∉ s.ports[p].feedback) }
          else s.seats[k])
      ∧ HubEvents (presenceEvents p .silent (fun i => decide (i.val < s.ports[p].cfg.positions)) s
          ++ [.notice (.breakBegin p)]) s u
      ∧ Keeps [.ports, .seats, .seatList, .notices, .noticeLost] s u)
  ∧ (∀ (p : Fin 4) (active : Bool) (s : State), s.ports[p].state = .broken → Completes (.lineIdleChange p active) s fun u =>
      u.ports[p] = { s.ports[p] with idleTimer := if active then none else some (s.now + 400) }
      ∧ (∀ o : Fin 4, o ≠ p → u.ports[o] = s.ports[o]) ∧ Keeps [.ports] s u)
  ∧ ∀ (p : Fin 4) (e : Time) (s : State), s.ports[p].state = .broken → s.ports[p].idleTimer = some e → 0 ≤ since s.now e →
      Completes (.breakEnd p) s fun u =>
        u.ports[p] = { s.ports[p] with state := .waking, wakeTimer := some (s.now + 160), idleTimer := none }
        ∧ (∀ o : Fin 4, o ≠ p → u.ports[o] = s.ports[o]) ∧ NoticesRaised [.breakEnd p] s u
        ∧ Keeps [.ports, .notices, .noticeLost] s u

/-! ## The press path -/

/-- INBOX_TAKE (R65 to R71): the first port after the last served with an entry gives its oldest. A reference whose ring entry
is written, at most 7 beacons old and not later than the arrival's beacon stamps departure + skew + offset; any other stamps
the arrival's departure + skew as STALE; a raw time after the arrival becomes the arrival, CLAMPED. -/
def Obligations.PressesAreStampedNoLaterThanTheirArrival : Prop :=
  ∀ (p : Fin 4) (e : InboxEntry) (rest : List InboxEntry) (s : State), s.stamper.inHand = none →
    s.ports[p].inbox = e :: rest →
    (∀ o : Fin 4, s.ports[o].inbox ≠ [] → (p - s.stamper.lastServed - 1).val ≤ (o - s.stamper.lastServed - 1).val) →
    Completes .inboxTake s fun u =>
      u.ports[p] = { s.ports[p] with inbox := rest } ∧ (∀ o : Fin 4, o ≠ p → u.ports[o] = s.ports[o])
      ∧ Keeps [.ports, .stamper] s u
      ∧ ∃ stamp, u.stamper = { s.stamper with lastServed := p, inHand := some ⟨p, e.position, e.frame, stamp⟩ }
        ∧ ((∃ cls battery, e.frame = .hello cls battery) → stamp = none)
        ∧ ∀ (r : Fin 16) (offset : Nat),
          ((∃ key n, e.frame = .press key n r offset) ∨ ∃ v n, e.frame = .digits v n r offset) →
          ∃ (raw time : Time) (stale clamped : Bool), stamp = some (time, ⟨stale, clamped, e.overrun⟩)
            ∧ since time e.arrival ≤ 0
            ∧ (if since raw e.arrival ≤ 0 then time = raw ∧ clamped = false else time = e.arrival ∧ clamped = true)
            ∧ (∀ b, s.stamper.history[p][r] = some b → (e.sequence - r).val ≤ 7 → since b e.departure ≤ 0 →
                raw = b + BitVec.ofNat 32 s.ports[p].cfg.skew + BitVec.ofNat 32 offset ∧ stale = false)
            ∧ ((∀ b, s.stamper.history[p][r] = some b → 7 < (e.sequence - r).val ∨ 0 < since b e.departure) →
                raw = e.departure + BitVec.ofNat 32 s.ports[p].cfg.skew ∧ stale = true)

/-- FRAME_HANDOFF of a frame that is not recorded as an answer (R32, R33, R37, R23): discarded on a port that is not SWEEPING; a
HELLO sets the seat's presence, class and battery flag; a duplicate, and a press that the round routes nowhere, do what every
press does to its seat and no more. -/
def Obligations.FramesMakeTheirSeatPresent : Prop :=
  ∀ (p : Fin 4) (pos : Fin 64) (frame : HandsetFrame) (stamp : Option (Time × Marks)) (s : State),
    s.stamper.inHand = some ⟨p, pos, frame, stamp⟩ →
    let k := seatOf p pos
    let collecting := s.round.state = .opened ∨ s.round.state = .closing
    let kind := s.resp.header.kind
    (s.ports[p].state ≠ .sweeping → Completes .frameHandoff s fun u =>
      u.stamper = { s.stamper with inHand := none } ∧ Keeps [.stamper] s u)
    ∧ (∀ (code : Byte) (battery : Bool), s.ports[p].state = .sweeping → frame = .hello code battery →
      Completes .frameHandoff s fun u =>
        ∃ (cls : Option HandsetClass) (a : State),
          (∀ c : HandsetClass, c.code = code → cls = some c) ∧ (2 < code.toNat → cls = s.seats[k].cls)
          ∧ (∀ j : Fin 256, a.seats[j] = if j = k then
              { s.seats[k] with missed := 0, presence := .present, cls := cls, battery := battery } else s.seats[j])
          ∧ a.stamper = { s.stamper with inHand := none } ∧ Keeps [.seats, .stamper] s a
          ∧ SeatEvent k ⟨decide (s.seats[k].presence ≠ .present), decide (cls ≠ s.seats[k].cls),
              !s.seats[k].battery && battery, false⟩ a u
          ∧ Keeps [.seatList, .notices, .noticeLost] a u)
    ∧ (∀ (key : Byte) (n : Fin 4) (r : Fin 16) (o : Nat), s.ports[p].state = .sweeping → frame = .press key n r o →
      stamp ≠ none →
      s.seats[k].lastPress = some n ∨ 7 < key.toNat
        ∨ (key.toNat < 7 ∧ (kind = none ∨ kind = some .empty ∨ kind = some .estimate
            ∨ ((kind = some .choice ∨ kind = some .poll) ∧ ¬ collecting)
            ∨ (kind = some .buzz ∧ (key ≠ 6 ∨ (¬ collecting ∧ s.round.state ≠ .floor))))) →
      Completes .frameHandoff s fun u => PressHeard k n s u)
    ∧ ∀ (v : Nat) (n : Fin 4) (r : Fin 16) (o : Nat), s.ports[p].state = .sweeping → frame = .digits v n r o →
      stamp ≠ none → s.seats[k].lastPress = some n ∨ kind ≠ some .estimate ∨ ¬ collecting →
      Completes .frameHandoff s fun u => PressHeard k n s u

/-- FRAME_HANDOFF of an answer in OPEN or CLOSING (R23, R77 to R86): after what every press does to its seat, a team that is not
eligible lights NOT_ELIGIBLE, a key above the options, or a value from another class or above 9999, is ignored, and any other
answer is judged by its press time and the change limit. A recorded answer is a TALLY event, which R168 counts: a notice is built at
the count of CONFIG, and at a first event when the wait is 0. A movement of the tallies is reported to the Composer (R84); a changed
value moves none (R82). Read by inference: an EARLY press leaves a LATE record LATE, and an ANSWERED
record without an answer takes a first one (log entry 21); the SEAT event precedes the dispatch (log entry 19). -/
def Obligations.AnswersAreJudgedByTheirPressTime : Prop :=
  ∀ (p : Fin 4) (pos : Fin 64) (frame : HandsetFrame) (time : Time) (marks : Marks) (n : Fin 4) (answer : Option Answer)
    (s : State),
    s.stamper.inHand = some ⟨p, pos, frame, some (time, marks)⟩ → s.ports[p].state = .sweeping →
    s.seats[seatOf p pos].lastPress ≠ some n → (s.round.state = .opened ∨ s.round.state = .closing) →
    (∃ key r o, frame = .press key n r o ∧ (s.resp.header.kind = some .choice ∨ s.resp.header.kind = some .poll)
        ∧ key.toNat < 7
        ∧ ((∃ x : Fin 6, x.val = key.toNat ∧ x.val < (headerQuestion s).options ∧ answer = some (.option x))
          ∨ ((6 ≤ key.toNat ∨ (headerQuestion s).options ≤ key.toNat) ∧ answer = none)))
      ∨ (∃ v r o, frame = .digits v n r o ∧ s.resp.header.kind = some .estimate
        ∧ answer = if s.seats[seatOf p pos].cls = some .digit ∧ v ≤ 9999 then some (.value v) else none) →
    Completes .frameHandoff s fun u =>
      let k := seatOf p pos
      let eligible (t : Fin 16) := s.seats[k].team = some t ∧ s.teams[t].active = true ∧ (headerQuestion s).eligible.mem t
      ∃ a, PressHeard k n s a
        ∧ ((∀ t, ¬ eligible t) → LampShown k .notEligible a u ∧ Keeps [.seats, .ports] a u)
        ∧ ∀ t, eligible t →
          match answer with
          | none => u = a
          | some x => AnswerJudged k t x time marks a u

/-- FRAME_HANDOFF of a BUZZ key on a BUZZ question (R23, R91 to R96), and of a HELP key in any round state (R87). A press from
before the guard interval is stray, by the signed difference of show times (R62). Read by inference: a false start keeps the
points of the record (log entry 21), and the SEAT event, the insertion's notice and the grant test follow in this order (log entry
19). -/
def Obligations.BuzzesAreTestedAndHelpIsReported : Prop :=
  ∀ (p : Fin 4) (pos : Fin 64) (key : Byte) (n : Fin 4) (r : Fin 16) (o : Nat) (time : Time) (marks : Marks) (s : State),
    s.stamper.inHand = some ⟨p, pos, .press key n r o, some (time, marks)⟩ → s.ports[p].state = .sweeping →
    s.seats[seatOf p pos].lastPress ≠ some n →
    let k := seatOf p pos
    let eligible (t : Fin 16) := s.seats[k].team = some t ∧ s.teams[t].active = true ∧ (headerQuestion s).eligible.mem t
    (key = 6 → s.resp.header.kind = some .buzz →
      (s.round.state = .opened ∨ s.round.state = .closing ∨ s.round.state = .floor) →
      (s.buzz.held = true → s.buzz.queue ≠ []) → Completes .frameHandoff s fun u =>
        ∃ a, PressHeard k n s a
          ∧ ((∀ t, ¬ eligible t) → LampShown k .notEligible a u ∧ Keeps [.seats, .ports] a u)
          ∧ ∀ t, eligible t → BuzzJudged k t time marks a u)
    ∧ (key = 7 → Completes .frameHandoff s fun u =>
        ∃ a, PressHeard k n s a
          ∧ NoticesRaised [.help k s.seats[k].team s.round.state s.resp.header.question time marks] a u
          ∧ Keeps [.notices, .noticeLost] a u)

/-! ## Scores and standings -/

/-- WALK_SEAT_VISIT (R109 to R112): the seat's points by the question's kind, and the running sums of its team while the team is
active and eligible and the seat has ANSWERED a question that is not a BUZZ question. -/
def Obligations.TheWalkGivesEachSeatItsPoints : Prop :=
  ∀ (k : Fin 256) (s : State), s.score.walk.walking = true → s.score.walk.position = k.val →
    Completes .walkSeatVisit s fun u =>
      let q := headerQuestion s
      let r := s.resp.records[k]
      let kind := s.resp.header.kind
      ∃ points : Int,
        (∀ j : Fin 256, u.resp.records[j] = if j = k then { r with points := some points } else s.resp.records[j])
        ∧ u.resp.header = s.resp.header ∧ u.resp.tallies = s.resp.tallies
        ∧ (kind = none ∨ kind = some .empty ∨ kind = some .poll → points = 0)
        ∧ (kind = some .choice ∨ kind = some .estimate → r.state ≠ .answered → points = 0)
        ∧ (∀ (x : Fin 6) (pressed opened : Time), kind = some .choice → r.state = .answered →
            r.answer = some (.option x) → r.pressTime = some pressed → s.resp.header.openTime = some opened →
            points = if q.correct.getLsbD x.val = false then -(q.penalty : Int)
              else (q.base : Int) + if since pressed opened < q.window * 800 then
                (q.speed : Int) * (q.window * 800 - since pressed opened) / (q.window * 800) else 0)
        ∧ (∀ v : Nat, kind = some .estimate → r.state = .answered → r.answer = some (.value v) →
            points = if ((v : Int) - q.target).natAbs < q.tolerance then
              ((q.base * (q.tolerance - ((v : Int) - q.target).natAbs) / q.tolerance : Nat) : Int) else 0)
        ∧ (kind = some .buzz → points = ((s.buzz.judged.filter fun j => j.seat == k).map (·.points)).sum)
        ∧ u.score.table = s.score.table ∧ u.score.commit = s.score.commit
        ∧ u.score.walk.walking = true ∧ u.score.walk.start = s.score.walk.start ∧ u.score.walk.position = k.val + 1
        ∧ (∀ t : Fin 16,
            if (kind = some .choice ∨ kind = some .estimate ∨ kind = some .poll) ∧ r.state = .answered ∧ s.seats[k].team = some t
                ∧ s.teams[t].active = true ∧ q.eligible.mem t = true then
              u.score.walk.sums[t] = s.score.walk.sums[t] + points
              ∧ u.score.walk.answered[t] = s.score.walk.answered[t] + 1
              ∧ u.score.walk.correct[t] = s.score.walk.correct[t] + (if 0 < points then 1 else 0)
            else
              u.score.walk.sums[t] = s.score.walk.sums[t] ∧ u.score.walk.answered[t] = s.score.walk.answered[t]
              ∧ u.score.walk.correct[t] = s.score.walk.correct[t])
        ∧ Keeps [.resp, .score] s u

/-- APPLICATION_STEP (R112 to R115, R117, R14): each team's contribution is the mean of its points over its attendance, rounded
to nearest with halves upward, or its Judged List points on BUZZ; totals and correct counts are clamped and the Commit Record
keeps what was applied; a ranking pass is triggered, and the round goes to IDLE; then a pending open is taken as an OPEN is, or
dropped with OPEN_DROPPED (this order is log entry 19). -/
def Obligations.TheApplicationStepCommitsTheContributions : Prop :=
  ∀ s : State, s.score.walk.walking = true → 256 ≤ s.score.walk.position → 0 < since s.now s.score.walk.start →
    Completes .applicationStep s fun u => ∃ v, PendingTaken v u ∧
      let kind := s.resp.header.kind
      let walked := kind = some .choice ∨ kind = some .estimate
      let n (t : Fin 16) : Nat := max (match s.round.snapshot with | some v => v[t] | none => 0) s.score.walk.answered[t]
      let gain (t : Fin 16) : Int :=
        if walked then if n t = 0 then 0 else (2 * s.score.walk.sums[t] + n t) / (2 * n t)
        else if kind = some .buzz then ((s.buzz.judged.filter fun j => j.team == t).map (·.points)).sum else 0
      let right (t : Fin 16) : Nat :=
        if walked then s.score.walk.correct[t]
        else if kind = some .buzz ∧ (∃ j ∈ s.buzz.judged, j.team = t ∧ j.verdict = .right) then 1 else 0
      (∀ t : Fin 16,
        let total := max (-9999) (min 99999 (s.score.table[t].total + gain t))
        let correct := min (s.score.table[t].correct + right t) 65535
        v.score.table[t] = ⟨total, correct, total - s.score.table[t].total⟩
        ∧ v.score.commit.points[t] = total - s.score.table[t].total
        ∧ v.score.commit.correct[t] = correct - s.score.table[t].correct)
      ∧ v.score.commit.valid = true ∧ v.score.commit.question = s.resp.header.question
      ∧ v.score.walk.walking = false ∧ Triggered s v
      ∧ v.round = { s.round with state := .idle }
      ∧ v.resp = { s.resp with header := { s.resp.header with committed := true } }
      ∧ Keeps [.score, .resp, .seats, .ports, .round, .comp, .sorter, .notices, .noticeLost, .seatList] s v

/-- APPLICATION_STEP (R116, R115, R21, R29, R14): the result lamps of a CHOICE question, asked for in ascending seat number, each
queuing its position for feedback where its lamp changes (R39, R51), the pending teams, the reveal, which enters its first step
and starts the compose of that view (R136, R130), and the notices and SEAT events in their order (log entry 19), before a pending
open is taken. Nothing else of the ports and of the Composer changes. -/
def Obligations.TheEndOfACommitSetsLampsTeamsAndReveal : Prop :=
  ∀ s : State, s.score.walk.walking = true → 256 ≤ s.score.walk.position → 0 < since s.now s.score.walk.start →
    Completes .applicationStep s fun u => ∃ v, PendingTaken v u ∧
      let q := headerQuestion s
      let shown (k : Fin 256) : Lamp :=
        if q.resultLamps = true ∧ s.resp.header.kind = some .choice ∧ s.resp.records[k].state = .answered then
          if ∃ x : Fin 6, s.resp.records[k].answer = some (.option x) ∧ q.correct.getLsbD x.val = true then .right
          else .wrong
        else s.seats[k].lamp
      let asked : List (Fin 256 × Lamp) :=
        if q.resultLamps = true ∧ s.resp.header.kind = some .choice then
          ((List.finRange 256).filter fun k => decide (s.resp.records[k].state = .answered)).map fun k => (k, shown k)
        else []
      (∃ a, LampsShown asked s a ∧ v.ports = a.ports ∧ ∀ k : Fin 256, v.seats[k].queued = a.seats[k].queued)
      ∧ (∀ k : Fin 256, v.seats[k] = { s.seats[k] with
          team := s.seats[k].pending.getD s.seats[k].team, pending := none, queued := v.seats[k].queued
          lamp := if shown k = .right ∨ shown k = .wrong then shown k else .off })
      ∧ (∀ n : Fin 16, q.reveal = some n → s.comp.sequences[n].valid = true → ∃ x,
          v.comp.player = .active false x ∧ x.sequence = n ∧ x.step = s.comp.sequences[n].first)
      ∧ (∀ (n : Fin 16) (f : Fin 64), q.reveal = some n → s.comp.sequences[n].valid = true →
          f.val = s.comp.sequences[n].first →
          Refreshed true (s.withComp { s.comp with player := .active false ⟨n, f, s.comp.sequences[n].count,
            s.comp.sequences[n].loops, f, s.comp.steps[f].view, s.comp.steps[f].highlight, s.comp.steps[f].invert,
            s.comp.steps[f].team, s.comp.steps[f].hold⟩ }) v)
      ∧ ((∀ n : Fin 16, q.reveal = some n → s.comp.sequences[n].valid = false) → v.comp = s.comp)
      ∧ HubEvents
          (.notice (.committed s.resp.header.question s.resp.header.kind v.score.commit.points v.score.commit.correct
              (Vector.ofFn fun t => v.score.table[t].total)
              (Vector.ofFn fun t => decide (v.score.table[t].total ≠ s.score.table[t].total + contribution s t
                ∨ v.score.table[t].correct ≠ s.score.table[t].correct + correctDelta s t)))
            :: .notice (.roundState .idle s.round.current s.round.closedMark none) :: pendingEvents s) s v

/-- REVOKE (R119): in IDLE a valid Commit Record is subtracted from every team, once; outside IDLE it is BAD_STATE, and without a
valid record BAD_VALUE. Every team returns exactly to the total and correct count before the commit's application step. -/
def Obligations.RevokeTakesBackTheLastCommitExactlyOnce : Prop :=
  (∀ (tag : Byte) (s : State), Executing [tag, 3, 7] s → Completes (.actRevoke tag) s fun u =>
      if s.round.state ≠ .idle then Replied [tag, 3, 4] s u ∧ Keeps [.replies, .agent] s u
      else if s.score.commit.valid = false then Replied [tag, 3, 7] s u ∧ Keeps [.replies, .agent] s u
      else
        Replied [tag, 3, 0] s u
        ∧ (∀ t : Fin 16, u.score.table[t] =
            ⟨s.score.table[t].total - s.score.commit.points[t], s.score.table[t].correct - s.score.commit.correct[t],
              -s.score.commit.points[t]⟩)
        ∧ u.score.commit = { s.score.commit with valid := false } ∧ u.score.walk = s.score.walk
        ∧ NoticesRaised [.revoked s.score.commit.question s.score.commit.points s.score.commit.correct
            (Vector.ofFn fun t => s.score.table[t].total - s.score.commit.points[t])] s u
        ∧ Triggered s u
        ∧ Keeps [.score, .sorter, .notices, .noticeLost, .replies, .agent] s u)
  ∧ (∀ (tag : Byte) (s t v w : State), TotalsInRange s → s.score.walk.walking = true → 256 ≤ s.score.walk.position →
      0 < since s.now s.score.walk.start → exec .applicationStep s = .next t →
      v.score = t.score → v.round.state = .idle → Executing [tag, 3, 7] v → exec (.actRevoke tag) v = .next w →
      ∀ n : Fin 16, w.score.table[n].total = s.score.table[n].total ∧ w.score.table[n].correct = s.score.table[n].correct)

/-- ADJUST (R120): the delta is clamped to 999 either way and the new total to its range; the applied delta is the team's last
delta; the Commit Record is no longer valid; CLAMPED when a clamp changed a value. -/
def Obligations.AdjustMovesOneTotalWithinItsRange : Prop :=
  ∀ (tag team : Byte) (delta : BitVec 16) (s : State),
    Executing ([tag, 3, 8, team] ++ be16 delta.toNat) s → Completes (.actAdjust tag team delta) s fun u =>
      if h : team.toNat < 16 then
        let t : Fin 16 := ⟨team.toNat, h⟩
        let d : Int := max (-999) (min 999 delta.toInt)
        let old := s.score.table[t]
        let total : Int := max (-9999) (min 99999 (old.total + d))
        Replied [tag, 3, if d = delta.toInt ∧ total = old.total + d then 0 else 1] s u
        ∧ u.score.table[t] = ⟨total, old.correct, total - old.total⟩
        ∧ (∀ x : Fin 16, x ≠ t → u.score.table[x] = s.score.table[x])
        ∧ u.score.commit = { s.score.commit with valid := false } ∧ u.score.walk = s.score.walk
        ∧ NoticesRaised [.adjusted t delta.toInt (total - old.total) total] s u ∧ Triggered s u
        ∧ Keeps [.score, .sorter, .notices, .noticeLost, .replies, .agent] s u
      else Replied [tag, 3, 7] s u ∧ Keeps [.replies, .agent] s u

/-- CLEAR_SCORES (R121): in IDLE every total, correct count and last delta becomes 0, the Commit Record is no longer valid, the
CLEARED notice is raised and a ranking pass is triggered; in every other round state it is BAD_STATE and nothing changes. -/
def Obligations.ClearScoresZeroesEveryTeamInIdleAlone : Prop :=
  ∀ (tag : Byte) (s : State), Executing [tag, 3, 9] s → Completes (.actClearScores tag) s fun u =>
    if s.round.state = .idle then
      Replied [tag, 3, 0] s u
      ∧ (∀ t : Fin 16, u.score.table[t] = ⟨0, 0, 0⟩)
      ∧ u.score.commit = { s.score.commit with valid := false } ∧ u.score.walk = s.score.walk
      ∧ NoticesRaised [.cleared] s u ∧ Triggered s u
      ∧ Keeps [.score, .sorter, .notices, .noticeLost, .replies, .agent] s u
    else Replied [tag, 3, 4] s u ∧ Keeps [.replies, .agent] s u

/-- R123: the working list of a ranking pass holds each active team once, by total, then correct count, both descending, then
team number, and its display rank is 1 + the number of teams with a greater total. PUBLICATION_STEP (R124, R125): the working
list becomes the published list, a change of the views that show standings; with rerank-pending a new pass starts. -/
def Obligations.RankedListsAreOrderedAndPublished : Prop :=
  (∀ s : State, ListsActive (rankedStandings s) s ∧ RanksRight (rankedStandings s)
      ∧ (∀ e ∈ rankedStandings s, e.total = s.score.table[e.team].total ∧ e.correct = s.score.table[e.team].correct
          ∧ e.last = s.score.table[e.team].last)
      ∧ (rankedStandings s).Pairwise fun a b =>
          b.total < a.total ∨ (a.total = b.total ∧ (b.correct < a.correct ∨ (a.correct = b.correct ∧ a.team < b.team))))
  ∧ (∀ s : State, s.sorter.running = true → 0 < since s.now s.sorter.start → Completes .publicationStep s fun u =>
      u.sorter = (if s.sorter.rerank then
          { published := s.sorter.working, working := rankedStandings s, running := true, rerank := false, start := s.now }
        else { s.sorter with published := s.sorter.working, working := [], running := false })
      ∧ Refreshed (decide (currentView s = .standings ∨ currentView s = .topFive ∨ currentView s = .teamCard)) s u
      ∧ Keeps [.sorter, .comp] s u)

/-! ## The scoreboard and the notices -/

/-- FREEZE, THAW, CURTAIN_ON and CURTAIN_OFF (R133): each sets or clears its flag; the curtain places a BLANK burst as it comes
on, and the front view as it goes off. REVEAL, STOP_SEQUENCE and RESTING (R136, R138): a valid sequence enters its first step; the
player stops; the resting view is written; each change of the current view starts a compose. -/
def Obligations.ShowRequestsSetTheFlagsAndMoveTheCurrentView : Prop :=
  (∀ (tag : Byte) (s : State),
      (Executing [tag, 5, 18] s → Completes (.showFreeze tag) s fun u =>
        Replied [tag, 5, 0] s u ∧ u.comp = { s.comp with freeze := true } ∧ Keeps [.comp, .replies, .agent] s u)
      ∧ (Executing [tag, 5, 19] s → Completes (.showThaw tag) s fun u =>
        Replied [tag, 5, 0] s u ∧ u.comp = { s.comp with freeze := false } ∧ Keeps [.comp, .replies, .agent] s u)
      ∧ (Executing [tag, 5, 20] s → Completes (.showCurtainOn tag) s fun u =>
        Replied [tag, 5, 0] s u ∧ u.comp = { s.comp with curtain := true }
        ∧ (if s.comp.curtain then u.link.scoreOut = s.link.scoreOut
          else ∃ b, u.link.scoreOut = some b ∧ b.image.view = .blank ∧ b.image.rows = [] ∧ b.refresh = none)
        ∧ Keeps [.comp, .scoreOut, .replies, .agent] s u)
      ∧ (Executing [tag, 5, 21] s → Completes (.showCurtainOff tag) s fun u =>
        Replied [tag, 5, 0] s u ∧ u.comp = { s.comp with curtain := false }
        ∧ u.link.scoreOut = (if s.comp.curtain then some ⟨s.comp.front, none⟩ else s.link.scoreOut)
        ∧ Keeps [.comp, .scoreOut, .replies, .agent] s u))
  ∧ (∀ (tag x : Byte) (s : State),
      (Executing [tag, 5, 16, x] s → Completes (.showReveal tag x) s fun u =>
        (∀ n : Fin 16, n.val = x.toNat → s.comp.sequences[n].valid = true → ∀ f : Fin 64,
          f.val = s.comp.sequences[n].first →
            Replied [tag, 5, 0] s u
            ∧ Refreshed true (s.withComp { s.comp with player := .active false ⟨n, f, s.comp.sequences[n].count,
                s.comp.sequences[n].loops, f, s.comp.steps[f].view, s.comp.steps[f].highlight, s.comp.steps[f].invert,
                s.comp.steps[f].team, s.comp.steps[f].hold⟩ }) u
            ∧ Keeps [.comp, .replies, .agent] s u)
        ∧ ((∀ n : Fin 16, n.val = x.toNat → s.comp.sequences[n].valid = false) →
            Replied [tag, 5, 7] s u ∧ Keeps [.replies, .agent] s u))
      ∧ (Executing [tag, 5, 17] s → Completes (.showStopSequence tag) s fun u =>
        Replied [tag, 5, 0] s u
        ∧ Refreshed (decide (s.comp.player ≠ .stopped)) (s.withComp { s.comp with player := .stopped }) u
        ∧ Keeps [.comp, .replies, .agent] s u)
      ∧ (Executing [tag, 5, 22, x] s → Completes (.showResting tag x) s fun u =>
        (∀ v : View, v.code = x → v ≠ .teamCard →
          Replied [tag, 5, 0] s u ∧ u.hub.config = { s.hub.config with resting := v }
          ∧ Refreshed (decide (v ≠ s.hub.config.resting ∧ s.comp.player = .stopped)) s u
          ∧ Keeps [.comp, .config, .replies, .agent] s u)
        ∧ ((∀ v : View, v.code = x → v = .teamCard) → Replied [tag, 5, 7] s u ∧ Keeps [.replies, .agent] s u)))

/-- MARK, of a frame without a gap (R142, log entry 13), and INTERNAL_MARK (R131, R132, R137, R139): the wall's timers, then the
swap and its burst, the step counting and the countdown, in this order. -/
def Obligations.MarksSwapCountAndPaceTheScoreboard : Prop :=
  ∀ (c : Instr) (refresh : Option Byte) (s : State),
    (∀ p, s.comp.player = .active false p → p.first + p.count ≤ 64 ∧ p.step < p.first + p.count) →
    (∃ f r, c = .mark f ∧ ArrivedWhole f [r] ∧ refresh = some r)
      ∨ (c = .internalMark ∧ refresh = none ∧ s.comp.silent = true ∧ ∃ e, s.comp.markTimer = some e ∧ 0 ≤ since s.now e) →
    Completes c s fun u => ∃ w a b d : State,
      Keeps [.comp, .notices, .noticeLost] s w
      ∧ (∀ r, refresh = some r →
          w.comp = { s.comp with
            silentTimer := some (s.now + BitVec.ofNat 32 (s.hub.config.silentTimeout * 80)), silent := false
            markTimer := if s.comp.silent then none else s.comp.markTimer, lastRefresh := some r }
          ∧ NoticesRaised (if s.comp.silent then [.wallReturn r] else []) s w)
      ∧ (refresh = none → w.comp = { s.comp with markTimer := some (s.now + 320) } ∧ NoticesRaised [] s w)
      ∧ BuffersSwap refresh w a ∧ StepCounts a b ∧ CountdownChanges b d
      ∧ (∀ f, c = .mark f → FrameTaken .wall 9 f d u) ∧ (refresh = none → u = d)

/-- COMPOSE_END and WALL_SILENT_EXPIRY (R130, R139): a compose becomes READY, or starts again when the data has changed; a wall
that sends no MARK becomes silent and the internal marks begin. -/
def Obligations.ComposesEndReadyAndTheWallFallsSilent : Prop :=
  (∀ s : State, s.comp.backState = .composing → 0 < since s.now s.comp.composeStart → Completes .composeEnd s fun u =>
      u.comp = (if s.comp.recompose then { s.comp with recompose := false, back := composedView s, composeStart := s.now }
        else { s.comp with backState := .ready })
      ∧ Keeps [.comp] s u)
  ∧ ∀ (e : Time) (s : State), s.comp.silent = false → s.comp.silentTimer = some e → 0 ≤ since s.now e →
      Completes .wallSilentExpiry s fun u =>
        u.comp = { s.comp with silent := true, silentTimer := none, markTimer := some (s.now + 320) }
        ∧ NoticesRaised [.wallSilent s.comp.lastRefresh] s u ∧ Keeps [.comp, .notices, .noticeLost] s u

/-- R127, R129: what a composed view shows. Its header holds the view, the step shown or none, and the show time of the compose; its
rows and further header fields are those of the table of R127, read at this moment. That a BUZZ_ORDER row is highlighted when its
entry's team is in the highlight set is the model's choice (log entry 29); that a HISTOGRAM header has no options count while there
is no question is read by inference (log entry 20). -/
def Obligations.ComposedViewsShowTheDataOfTheirMoment : Prop :=
  ∀ s : State,
    let v := composedView s
    v.start = s.now
    ∧ (s.comp.player = .stopped → v.view = s.hub.config.resting ∧ v.step = none)
    ∧ (∀ ended p, s.comp.player = .active ended p → v.view = p.view ∧ v.step = some (p.sequence, p.step))
    ∧ ∀ (highlight : TeamSet) (invert : Bool) (card : Fin 16),
      (s.comp.player = .stopped ∧ s.hub.config.resting ≠ .teamCard ∧ highlight = 0 ∧ invert = false)
        ∨ (∃ ended p, s.comp.player = .active ended p ∧ highlight = p.highlight ∧ invert = p.invert ∧ card = p.team) →
      let row (e : Option Standing) (t : Fin 16) : Row := .team e t s.teams[t].name (highlight.getLsbD t.val) invert
      let question := s.resp.header.question
      match v.view with
      | .standings => v.extra = .none ∧ v.rows = s.sorter.published.map fun e => row (some e) e.team
      | .topFive =>
        v.extra = .none
        ∧ v.rows = (s.sorter.published.filter fun e => decide (e.rank < 6)).map fun e => row (some e) e.team
      | .teamCard =>
        v.extra = .card card
        ∧ (∀ front e back, s.sorter.published = front ++ e :: back → e.team = card → (∀ x ∈ front, x.team ≠ card) →
            v.rows = [row (some e) card])
        ∧ ((∀ e ∈ s.sorter.published, e.team ≠ card) → v.rows = [row none card])
      | .histogram =>
        v.extra = .histogram question (question.map fun q => s.questions[q].options) s.resp.tallies.answered
        ∧ if s.resp.header.kind = some .choice ∨ s.resp.header.kind = some .poll then
            v.rows.length = min 6 (headerQuestion s).options
            ∧ ∀ k : Fin 6, k.val < (headerQuestion s).options → v.rows[k.val]? = some (.option k s.resp.tallies.counts[k]
              (if s.resp.tallies.answered = 0 then 0
                else (200 * s.resp.tallies.counts[k] + s.resp.tallies.answered) / (2 * s.resp.tallies.answered)))
          else v.rows = []
      | .buzzOrder =>
        v.extra = .buzz question (if s.buzz.held then s.buzz.queue.head?.map (·.team) else none) s.buzz.stealsUsed
        ∧ v.rows.length = s.buzz.queue.length
        ∧ ∀ (i : Nat) (e : BuzzEntry), s.buzz.queue[i]? = some e →
            v.rows[i]? = some (.buzz (i + 1) e s.teams[e.team].name (s.buzz.held && decide (i = 0))
              (highlight.getLsbD e.team.val) invert)
      | .countdown =>
        v.rows = [] ∧ v.extra = .countdown s.round.current (match s.round.window with
          | .stopped => none
          | .running d => some (if since d s.now ≤ 0 then 0 else ((since d s.now).toNat + 799) / 800)
          | .paused r => some ((r + 799) / 800))
      | .blank => v.extra = .none ∧ v.rows = []

/-- TALLY_TIMER_EXPIRY and SEAT_TIMER_EXPIRY (R168, R169, R170): the notice is built and the coalescing starts anew. A TALLY
notice takes the place of a queued one, and a SEAT notice merges into the newest queued one while 16 seats hold both; any
other is appended, or lost when 8 wait. A notice event of any other kind (R167, R170) is discarded while its kind is disabled, and
otherwise appended with its time, or lost when 8 wait. A SEAT event (R169) merges into its seat's entry of the pending list or is
appended to it, the first one starting the timer, and at 16 entries or with a wait of 0 the whole list is built into a notice. -/
def Obligations.CoalescedNoticesReplaceMergeOrQueue : Prop :=
  ((∀ (e : Time) (s : State), s.hub.tallyTimer = some e → 0 ≤ since s.now e → Completes .tallyTimerExpiry s fun u =>
      let n : Notice := ⟨.tally s.resp.header.question s.resp.header.kind s.resp.tallies, s.now⟩
      u.hub.tallyEvents = 0 ∧ u.hub.tallyTimer = none ∧ Keeps [.tally, .notices, .noticeLost] s u
      ∧ (∀ front x back, s.hub.notices = front ++ x :: back → x.body.kind = .tally →
          (∀ y ∈ front, y.body.kind ≠ .tally) →
          u.hub.notices = front ++ n :: back ∧ u.hub.noticeLost = s.hub.noticeLost)
      ∧ ((∀ y ∈ s.hub.notices, y.body.kind ≠ .tally) →
          if s.hub.notices.length < 8 then u.hub.notices = s.hub.notices ++ [n] ∧ u.hub.noticeLost = s.hub.noticeLost
          else u.hub.notices = s.hub.notices ∧ u.hub.noticeLost = true))
  ∧ ∀ (e : Time) (s : State), s.hub.seatTimer = some e → 0 ≤ since s.now e → Completes .seatTimerExpiry s fun u =>
      u.hub.seatChanges = [] ∧ u.hub.seatTimer = none ∧ Keeps [.seatList, .notices, .noticeLost] s u
      ∧ (∀ front x back old, s.hub.notices = front ++ x :: back → x.body = .seats old →
          (∀ y ∈ back, y.body.kind ≠ .seat) → (mergeChanges old s.hub.seatChanges).length ≤ 16 →
          u.hub.notices = front ++ ⟨.seats (mergeChanges old s.hub.seatChanges), s.now⟩ :: back
          ∧ u.hub.noticeLost = s.hub.noticeLost)
      ∧ ((∀ y ∈ s.hub.notices, y.body.kind ≠ .seat)
          ∨ (∃ front x back old, s.hub.notices = front ++ x :: back ∧ x.body = .seats old
            ∧ (∀ y ∈ back, y.body.kind ≠ .seat) ∧ 16 < (mergeChanges old s.hub.seatChanges).length) →
          if s.hub.notices.length < 8 then
            u.hub.notices = s.hub.notices ++ [⟨.seats s.hub.seatChanges, s.now⟩] ∧ u.hub.noticeLost = s.hub.noticeLost
          else u.hub.notices = s.hub.notices ∧ u.hub.noticeLost = true))
  ∧ (∀ (b : NoticeBody) (s : State), b.kind ≠ .tally → b.kind ≠ .seat →
      Keeps [.notices, .noticeLost] s (raiseNotice b s) ∧ (raiseNotice b s).free = s.free
      ∧ if s.hub.config.enabled.getLsbD b.kind.code = false then
          (raiseNotice b s).hub.notices = s.hub.notices ∧ (raiseNotice b s).hub.noticeLost = s.hub.noticeLost
        else if s.hub.notices.length < 8 then
          (raiseNotice b s).hub.notices = s.hub.notices ++ [⟨b, s.now⟩]
          ∧ (raiseNotice b s).hub.noticeLost = s.hub.noticeLost
        else (raiseNotice b s).hub.notices = s.hub.notices ∧ (raiseNotice b s).hub.noticeLost = true)
  ∧ ∀ (k : Fin 256) (causes : Causes) (s : State),
      let e : SeatChange :=
        ⟨k, causes, s.seats[k].presence, s.seats[k].team, s.seats[k].cls, s.seats[k].battery, s.now⟩
      let u := raiseSeat k causes s
      if s.hub.config.enabled.getLsbD 3 = false ∨ causes = ⟨false, false, false, false⟩ then u = s
      else ∃ (list : List SeatChange) (timer : Option Time),
        (∀ front x back, s.hub.seatChanges = front ++ x :: back → x.seat = k → (∀ y ∈ front, y.seat ≠ k) →
          timer = s.hub.seatTimer ∧ list = front ++ { e with causes :=
            ⟨x.causes.presence || causes.presence, x.causes.cls || causes.cls, x.causes.battery || causes.battery,
              x.causes.team || causes.team⟩ } :: back)
        ∧ ((∀ y ∈ s.hub.seatChanges, y.seat ≠ k) → list = s.hub.seatChanges ++ [e]
          ∧ timer = if s.hub.seatChanges = [] then some (s.now + BitVec.ofNat 32 (s.hub.config.seatWait * 80))
            else s.hub.seatTimer)
        ∧ Keeps [.seatList, .notices, .noticeLost] s u ∧ u.free = s.free
        ∧ if 16 ≤ list.length ∨ s.hub.config.seatWait = 0 then
            u.hub.seatChanges = [] ∧ u.hub.seatTimer = none
            ∧ u.hub.notices = (enqueueNotice ⟨.seats list, s.now⟩ s).hub.notices
            ∧ u.hub.noticeLost = (enqueueNotice ⟨.seats list, s.now⟩ s).hub.noticeLost
          else
            u.hub.seatChanges = list ∧ u.hub.seatTimer = timer ∧ u.hub.notices = s.hub.notices
            ∧ u.hub.noticeLost = s.hub.noticeLost

/-! ## The preset -/

/-- PRESET_SECTION (R172, R173, 12.8): while a load runs with its marker found, no fault met and the length not used up, the next
four bytes are a section's header: table number, first index and count. A header that names no writable table, or whose header or
records would run past the length, is a structure fault; a section past its table's end refuses all its records; any other has its
records taken as WRITEs take them, and its refused records counted. A flash that does not answer reads as 255. -/
def Obligations.PresetSectionsAreAppliedAsWritesAre : Prop :=
  ∀ s : State, s.loader.running = true → s.loader.image.getD 0 255 = 81 → s.loader.image.getD 1 255 = 113 →
    s.loader.fault = false →
    let flash (i : Nat) : Byte := s.loader.image.getD i 255
    let length := (flash 2).toNat * 256 + (flash 3).toNat
    s.loader.position < length → Completes .presetSection s fun u =>
      let byteAt (i : Nat) : Byte := flash (4 + s.loader.position + i)
      let first := (byteAt 1).toNat
      let n := (byteAt 2).toNat * 256 + (byteAt 3).toNat
      let faulty : Prop := u.loader = { s.loader with fault := true } ∧ Keeps [.loader] s u
      (byteAt 0 = 0 ∨ 8 < (byteAt 0).toNat → faulty)
      ∧ ∀ (t : Table) (number : Byte) (size count : Nat),
        (t, number, size, count) ∈ ([(.seats, 1, 1, 256), (.teams, 2, 16, 16), (.questions, 3, 27, 128), (.cues, 4, 6, 64),
          (.sequences, 5, 4, 16), (.steps, 6, 6, 64), (.portcfg, 7, 4, 4), (.config, 8, 10, 1)]
            : List (Table × Byte × Nat × Nat)) → byteAt 0 = number →
        let next := s.loader.position + 4 + n * size
        if length < next then faulty
        else if count < first + n then
          u.loader = { s.loader with position := next, count := min (s.loader.count + n) 65535 } ∧ Keeps [.loader] s u
        else
          let records := (List.range n).map fun i => (List.range size).map fun j => byteAt (4 + i * size + j)
          let y := recordOutcomes t first records s
          u.loader = { s.loader with
            position := next, count := min (s.loader.count + y.1.countP Status.refuses) 65535 }
          ∧ Keeps [.loader] y.2 u

/-- LOAD_END (R172, R174): EMPTY without the marker; FAILED on a structure fault or a wrong check, which sets the written tables
to their hard-reset values as writes would: SEAT events of the seats that lose a team, a ranking pass for the active flags cleared,
and a compose for the names and the resting view that change. The order of the tables, by which the SEAT events come under the
CONFIG of before, is read by inference (log entry 23). LOADED otherwise, which starts the autostart ports. The notice carries the
result and the count of refused records; after a FAILED load it is always built. -/
def Obligations.ALoadEndsEmptyFailedOrLoaded : Prop :=
  ∀ s : State, s.loader.running = true →
    (markerFound s.loader.image = false → Completes .loadEnd s fun u =>
      u.loader = { s.loader with running := false, result := .empty, refused := s.loader.count }
      ∧ NoticesRaised [.preset .empty s.loader.count] s u ∧ Keeps [.loader, .notices, .noticeLost] s u)
    ∧ (markerFound s.loader.image = true → s.loader.fault = false →
      imageLength s.loader.image ≤ s.loader.position → imageCheckGood s.loader.image = true →
      Completes .loadEnd s fun u =>
        u.loader = { s.loader with running := false, result := .loaded, refused := s.loader.count }
        ∧ (∀ p : Fin 4, u.ports[p] = if s.ports[p].cfg.autostart = true ∧ s.ports[p].state = .stopped then
            { s.ports[p] with state := .waking, wakeTimer := some (s.now + 160) } else s.ports[p])
        ∧ NoticesRaised [.preset .loaded s.loader.count] s u ∧ Keeps [.loader, .ports, .notices, .noticeLost] s u)
    ∧ (markerFound s.loader.image = true → s.round.state = .idle →
      (s.loader.fault = true
        ∨ (imageLength s.loader.image ≤ s.loader.position ∧ imageCheckGood s.loader.image = false)) →
      Completes .loadEnd s fun u =>
        u.loader = { s.loader with running := false, result := .failed, refused := s.loader.count }
        ∧ (∀ k : Fin 256, u.seats[k] = { s.seats[k] with team := none, pending := none })
        ∧ (∀ t : Fin 16, u.teams[t] = ⟨false, []⟩) ∧ (∀ q : Fin 128, u.questions[q] = Question.reset)
        ∧ (∀ i : Fin 64, u.cues[i] = CueEntry.reset) ∧ (∀ i : Fin 16, u.comp.sequences[i] = ⟨false, 0, 1, false⟩)
        ∧ (∀ i : Fin 64, u.comp.steps[i] = ⟨.blank, 1, 0, false, 0⟩)
        ∧ (∀ p : Fin 4, u.ports[p] = { s.ports[p] with cfg := ⟨false, 64, 18, 0⟩ })
        ∧ u.hub.config = ⟨0x1FF, 16, 20, 20, 6, 20, 0, .standings⟩
        ∧ (∃ v, HubEvents ((List.finRange 256).map fun k =>
              .seat k ⟨false, false, false, decide (s.seats[k].team ≠ none)⟩) (s.withSeats u.seats) v
            ∧ u.hub.seatChanges = v.hub.seatChanges ∧ u.hub.seatTimer = v.hub.seatTimer
            ∧ v.seats = u.seats ∧ Keeps [.seats, .seatList, .notices, .noticeLost] s v
            ∧ u.hub.notices = (enqueueNotice ⟨.preset .failed s.loader.count, s.now⟩ v).hub.notices
            ∧ u.hub.noticeLost = (enqueueNotice ⟨.preset .failed s.loader.count, s.now⟩ v).hub.noticeLost)
        ∧ ClearedTeamsRanked s u ∧ ClearedDataComposed s u
        ∧ Keeps [.loader, .seats, .teams, .questions, .cues, .comp, .ports, .config, .sorter, .seatList, .notices,
            .noticeLost] s u)

/-! ## Laws of the whole part -/

/-- R131, R140: the front view changes at a mark taken with the freeze flag clear and a READY back buffer, and at a reset; at no
other command. -/
def Obligations.TheFrontViewMovesOnlyAtUnfrozenMarksAndResets : Prop :=
  ∀ (c : Instr) (s t : State), exec c s = .next t → t.comp.front ≠ s.comp.front →
    (((∃ a, c = .mark a) ∨ c = .internalMark) ∧ s.comp.freeze = false ∧ s.comp.backState = .ready
        ∧ t.comp.front = s.comp.back)
      ∨ (t.comp.front.view = .blank
        ∧ ((∃ strap flash, c = .hardReset strap flash) ∨ ((c = .warmRestart ∨ c = .consoleFrameEnd)
          ∧ s.hub.agent = .restarting)))

/-- R107: totals and correct counts change at the application step, at REVOKE, ADJUST and CLEAR_SCORES, and at a hard reset; at
no other command. -/
def Obligations.ScoresChangeOnlyAtTheirCommands : Prop :=
  ∀ (c : Instr) (s t : State), exec c s = .next t → t.score.table ≠ s.score.table →
    c = .applicationStep ∨ (∃ tag, c = .actRevoke tag ∨ c = .actClearScores tag)
      ∨ (∃ tag team delta, c = .actAdjust tag team delta) ∨ ∃ strap flash, c = .hardReset strap flash

/-- R3, R6, R36, R43, R44, R50, R134, R135, R136, R163: every step keeps the records that WRITEs set within their ranges, no two
valid cues with one number, no beacon with a check position twice, no PRESENT seat on a STOPPED port, and the sequence player
within the Step Table. -/
def Obligations.EveryStepKeepsTheTablesAndPresenceLawful : Prop :=
  ∀ s t : State, step s = .next t →
    (RecordsInRange s → RecordsInRange t) ∧ (CueNumbersUnique s → CueNumbersUnique t) ∧ (PortsLaw s → PortsLaw t)
    ∧ (PresenceLaw s → PresenceLaw t) ∧ (PlayerLaw s → PlayerLaw t)

/-- R10, R20, R89, R97, R109: every step keeps the floor held exactly in FLOOR, by the first of a queue of distinct unlocked
teams, and the window and settle timers running only where the round state lets them. -/
def Obligations.EveryStepKeepsTheFloorAndTimersLawful : Prop :=
  ∀ s t : State, step s = .next t → (FloorLaw s → FloorLaw t) ∧ (RoundTimersLaw s → RoundTimersLaw t)

/-- R51, R56, R145, R146, R147, R152, R157, R169, R170: every step keeps the count of replies owed and the capacity of every
queue. -/
def Obligations.EveryStepKeepsTheQueuesWithinTheirCapacities : Prop :=
  ∀ s t : State, step s = .next t → (RepliesOwed s → RepliesOwed t) ∧ (QueueBounds s → QueueBounds t)

/-- R107, R108, R122 to R125: every step keeps the totals and correct counts in range, and the published standings ranked and
complete. -/
def Obligations.EveryStepKeepsScoresInRangeAndStandingsRanked : Prop :=
  ∀ s t : State, step s = .next t → (TotalsInRange s → TotalsInRange t) ∧ (StandingsLaw s → StandingsLaw t)

/-- R74, R80, R81, R84: every step keeps the live tallies equal to the counts of the records; on an ESTIMATE question that is the
answered count, with option counts of 0. -/
def Obligations.EveryStepKeepsTheTalliesEqualToTheRecords : Prop :=
  ∀ s t : State, step s = .next t → TalliesMatch s → TalliesMatch t

/-- The laws hold right after a hard reset with the strap clear (log entry 4). -/
def Obligations.TheLawsHoldAfterAHardReset : Prop :=
  RecordsInRange State.reset ∧ CueNumbersUnique State.reset ∧ PortsLaw State.reset ∧ PresenceLaw State.reset
    ∧ FloorLaw State.reset ∧ RoundTimersLaw State.reset ∧ RepliesOwed State.reset ∧ QueueBounds State.reset
    ∧ TotalsInRange State.reset ∧ StandingsLaw State.reset ∧ TalliesMatch State.reset ∧ PlayerLaw State.reset

end Statements
end

