-- ==== Sys2Proof/Laws/State.lean ====
section
/-! SUPPORT. One lemma for each field of State under each block update of Machine/Ops.lean. Every one is true by rfl and a
simp lemma, so that no later proof unfolds a record update. -/

namespace Sys2Proof.Machine

variable (s : State)

@[simp] theorem withNow_now (x : Time) : (s.withNow x).now = x := rfl
@[simp] theorem withNow_ports (x : Time) : (s.withNow x).ports = s.ports := rfl
@[simp] theorem withNow_stamper (x : Time) : (s.withNow x).stamper = s.stamper := rfl
@[simp] theorem withNow_seats (x : Time) : (s.withNow x).seats = s.seats := rfl
@[simp] theorem withNow_teams (x : Time) : (s.withNow x).teams = s.teams := rfl
@[simp] theorem withNow_questions (x : Time) : (s.withNow x).questions = s.questions := rfl
@[simp] theorem withNow_cues (x : Time) : (s.withNow x).cues = s.cues := rfl
@[simp] theorem withNow_round (x : Time) : (s.withNow x).round = s.round := rfl
@[simp] theorem withNow_resp (x : Time) : (s.withNow x).resp = s.resp := rfl
@[simp] theorem withNow_buzz (x : Time) : (s.withNow x).buzz = s.buzz := rfl
@[simp] theorem withNow_score (x : Time) : (s.withNow x).score = s.score := rfl
@[simp] theorem withNow_sorter (x : Time) : (s.withNow x).sorter = s.sorter := rfl
@[simp] theorem withNow_comp (x : Time) : (s.withNow x).comp = s.comp := rfl
@[simp] theorem withNow_link (x : Time) : (s.withNow x).link = s.link := rfl
@[simp] theorem withNow_hub (x : Time) : (s.withNow x).hub = s.hub := rfl
@[simp] theorem withNow_loader (x : Time) : (s.withNow x).loader = s.loader := rfl
@[simp] theorem withNow_free (x : Time) : (s.withNow x).free = s.free := rfl
@[simp] theorem withNow_pending (x : Time) : (s.withNow x).pending = s.pending := rfl

@[simp] theorem withPorts_now (x : Vector Port 4) : (s.withPorts x).now = s.now := rfl
@[simp] theorem withPorts_ports (x : Vector Port 4) : (s.withPorts x).ports = x := rfl
@[simp] theorem withPorts_stamper (x : Vector Port 4) : (s.withPorts x).stamper = s.stamper := rfl
@[simp] theorem withPorts_seats (x : Vector Port 4) : (s.withPorts x).seats = s.seats := rfl
@[simp] theorem withPorts_teams (x : Vector Port 4) : (s.withPorts x).teams = s.teams := rfl
@[simp] theorem withPorts_questions (x : Vector Port 4) : (s.withPorts x).questions = s.questions := rfl
@[simp] theorem withPorts_cues (x : Vector Port 4) : (s.withPorts x).cues = s.cues := rfl
@[simp] theorem withPorts_round (x : Vector Port 4) : (s.withPorts x).round = s.round := rfl
@[simp] theorem withPorts_resp (x : Vector Port 4) : (s.withPorts x).resp = s.resp := rfl
@[simp] theorem withPorts_buzz (x : Vector Port 4) : (s.withPorts x).buzz = s.buzz := rfl
@[simp] theorem withPorts_score (x : Vector Port 4) : (s.withPorts x).score = s.score := rfl
@[simp] theorem withPorts_sorter (x : Vector Port 4) : (s.withPorts x).sorter = s.sorter := rfl
@[simp] theorem withPorts_comp (x : Vector Port 4) : (s.withPorts x).comp = s.comp := rfl
@[simp] theorem withPorts_link (x : Vector Port 4) : (s.withPorts x).link = s.link := rfl
@[simp] theorem withPorts_hub (x : Vector Port 4) : (s.withPorts x).hub = s.hub := rfl
@[simp] theorem withPorts_loader (x : Vector Port 4) : (s.withPorts x).loader = s.loader := rfl
@[simp] theorem withPorts_free (x : Vector Port 4) : (s.withPorts x).free = s.free := rfl
@[simp] theorem withPorts_pending (x : Vector Port 4) : (s.withPorts x).pending = s.pending := rfl

@[simp] theorem withStamper_now (x : Stamper) : (s.withStamper x).now = s.now := rfl
@[simp] theorem withStamper_ports (x : Stamper) : (s.withStamper x).ports = s.ports := rfl
@[simp] theorem withStamper_stamper (x : Stamper) : (s.withStamper x).stamper = x := rfl
@[simp] theorem withStamper_seats (x : Stamper) : (s.withStamper x).seats = s.seats := rfl
@[simp] theorem withStamper_teams (x : Stamper) : (s.withStamper x).teams = s.teams := rfl
@[simp] theorem withStamper_questions (x : Stamper) : (s.withStamper x).questions = s.questions := rfl
@[simp] theorem withStamper_cues (x : Stamper) : (s.withStamper x).cues = s.cues := rfl
@[simp] theorem withStamper_round (x : Stamper) : (s.withStamper x).round = s.round := rfl
@[simp] theorem withStamper_resp (x : Stamper) : (s.withStamper x).resp = s.resp := rfl
@[simp] theorem withStamper_buzz (x : Stamper) : (s.withStamper x).buzz = s.buzz := rfl
@[simp] theorem withStamper_score (x : Stamper) : (s.withStamper x).score = s.score := rfl
@[simp] theorem withStamper_sorter (x : Stamper) : (s.withStamper x).sorter = s.sorter := rfl
@[simp] theorem withStamper_comp (x : Stamper) : (s.withStamper x).comp = s.comp := rfl
@[simp] theorem withStamper_link (x : Stamper) : (s.withStamper x).link = s.link := rfl
@[simp] theorem withStamper_hub (x : Stamper) : (s.withStamper x).hub = s.hub := rfl
@[simp] theorem withStamper_loader (x : Stamper) : (s.withStamper x).loader = s.loader := rfl
@[simp] theorem withStamper_free (x : Stamper) : (s.withStamper x).free = s.free := rfl
@[simp] theorem withStamper_pending (x : Stamper) : (s.withStamper x).pending = s.pending := rfl

@[simp] theorem withSeats_now (x : Vector Seat 256) : (s.withSeats x).now = s.now := rfl
@[simp] theorem withSeats_ports (x : Vector Seat 256) : (s.withSeats x).ports = s.ports := rfl
@[simp] theorem withSeats_stamper (x : Vector Seat 256) : (s.withSeats x).stamper = s.stamper := rfl
@[simp] theorem withSeats_seats (x : Vector Seat 256) : (s.withSeats x).seats = x := rfl
@[simp] theorem withSeats_teams (x : Vector Seat 256) : (s.withSeats x).teams = s.teams := rfl
@[simp] theorem withSeats_questions (x : Vector Seat 256) : (s.withSeats x).questions = s.questions := rfl
@[simp] theorem withSeats_cues (x : Vector Seat 256) : (s.withSeats x).cues = s.cues := rfl
@[simp] theorem withSeats_round (x : Vector Seat 256) : (s.withSeats x).round = s.round := rfl
@[simp] theorem withSeats_resp (x : Vector Seat 256) : (s.withSeats x).resp = s.resp := rfl
@[simp] theorem withSeats_buzz (x : Vector Seat 256) : (s.withSeats x).buzz = s.buzz := rfl
@[simp] theorem withSeats_score (x : Vector Seat 256) : (s.withSeats x).score = s.score := rfl
@[simp] theorem withSeats_sorter (x : Vector Seat 256) : (s.withSeats x).sorter = s.sorter := rfl
@[simp] theorem withSeats_comp (x : Vector Seat 256) : (s.withSeats x).comp = s.comp := rfl
@[simp] theorem withSeats_link (x : Vector Seat 256) : (s.withSeats x).link = s.link := rfl
@[simp] theorem withSeats_hub (x : Vector Seat 256) : (s.withSeats x).hub = s.hub := rfl
@[simp] theorem withSeats_loader (x : Vector Seat 256) : (s.withSeats x).loader = s.loader := rfl
@[simp] theorem withSeats_free (x : Vector Seat 256) : (s.withSeats x).free = s.free := rfl
@[simp] theorem withSeats_pending (x : Vector Seat 256) : (s.withSeats x).pending = s.pending := rfl

@[simp] theorem withTeams_now (x : Vector Team 16) : (s.withTeams x).now = s.now := rfl
@[simp] theorem withTeams_ports (x : Vector Team 16) : (s.withTeams x).ports = s.ports := rfl
@[simp] theorem withTeams_stamper (x : Vector Team 16) : (s.withTeams x).stamper = s.stamper := rfl
@[simp] theorem withTeams_seats (x : Vector Team 16) : (s.withTeams x).seats = s.seats := rfl
@[simp] theorem withTeams_teams (x : Vector Team 16) : (s.withTeams x).teams = x := rfl
@[simp] theorem withTeams_questions (x : Vector Team 16) : (s.withTeams x).questions = s.questions := rfl
@[simp] theorem withTeams_cues (x : Vector Team 16) : (s.withTeams x).cues = s.cues := rfl
@[simp] theorem withTeams_round (x : Vector Team 16) : (s.withTeams x).round = s.round := rfl
@[simp] theorem withTeams_resp (x : Vector Team 16) : (s.withTeams x).resp = s.resp := rfl
@[simp] theorem withTeams_buzz (x : Vector Team 16) : (s.withTeams x).buzz = s.buzz := rfl
@[simp] theorem withTeams_score (x : Vector Team 16) : (s.withTeams x).score = s.score := rfl
@[simp] theorem withTeams_sorter (x : Vector Team 16) : (s.withTeams x).sorter = s.sorter := rfl
@[simp] theorem withTeams_comp (x : Vector Team 16) : (s.withTeams x).comp = s.comp := rfl
@[simp] theorem withTeams_link (x : Vector Team 16) : (s.withTeams x).link = s.link := rfl
@[simp] theorem withTeams_hub (x : Vector Team 16) : (s.withTeams x).hub = s.hub := rfl
@[simp] theorem withTeams_loader (x : Vector Team 16) : (s.withTeams x).loader = s.loader := rfl
@[simp] theorem withTeams_free (x : Vector Team 16) : (s.withTeams x).free = s.free := rfl
@[simp] theorem withTeams_pending (x : Vector Team 16) : (s.withTeams x).pending = s.pending := rfl

@[simp] theorem withQuestions_now (x : Vector Question 128) : (s.withQuestions x).now = s.now := rfl
@[simp] theorem withQuestions_ports (x : Vector Question 128) : (s.withQuestions x).ports = s.ports := rfl
@[simp] theorem withQuestions_stamper (x : Vector Question 128) : (s.withQuestions x).stamper = s.stamper := rfl
@[simp] theorem withQuestions_seats (x : Vector Question 128) : (s.withQuestions x).seats = s.seats := rfl
@[simp] theorem withQuestions_teams (x : Vector Question 128) : (s.withQuestions x).teams = s.teams := rfl
@[simp] theorem withQuestions_questions (x : Vector Question 128) : (s.withQuestions x).questions = x := rfl
@[simp] theorem withQuestions_cues (x : Vector Question 128) : (s.withQuestions x).cues = s.cues := rfl
@[simp] theorem withQuestions_round (x : Vector Question 128) : (s.withQuestions x).round = s.round := rfl
@[simp] theorem withQuestions_resp (x : Vector Question 128) : (s.withQuestions x).resp = s.resp := rfl
@[simp] theorem withQuestions_buzz (x : Vector Question 128) : (s.withQuestions x).buzz = s.buzz := rfl
@[simp] theorem withQuestions_score (x : Vector Question 128) : (s.withQuestions x).score = s.score := rfl
@[simp] theorem withQuestions_sorter (x : Vector Question 128) : (s.withQuestions x).sorter = s.sorter := rfl
@[simp] theorem withQuestions_comp (x : Vector Question 128) : (s.withQuestions x).comp = s.comp := rfl
@[simp] theorem withQuestions_link (x : Vector Question 128) : (s.withQuestions x).link = s.link := rfl
@[simp] theorem withQuestions_hub (x : Vector Question 128) : (s.withQuestions x).hub = s.hub := rfl
@[simp] theorem withQuestions_loader (x : Vector Question 128) : (s.withQuestions x).loader = s.loader := rfl
@[simp] theorem withQuestions_free (x : Vector Question 128) : (s.withQuestions x).free = s.free := rfl
@[simp] theorem withQuestions_pending (x : Vector Question 128) : (s.withQuestions x).pending = s.pending := rfl

@[simp] theorem withCues_now (x : Vector CueEntry 64) : (s.withCues x).now = s.now := rfl
@[simp] theorem withCues_ports (x : Vector CueEntry 64) : (s.withCues x).ports = s.ports := rfl
@[simp] theorem withCues_stamper (x : Vector CueEntry 64) : (s.withCues x).stamper = s.stamper := rfl
@[simp] theorem withCues_seats (x : Vector CueEntry 64) : (s.withCues x).seats = s.seats := rfl
@[simp] theorem withCues_teams (x : Vector CueEntry 64) : (s.withCues x).teams = s.teams := rfl
@[simp] theorem withCues_questions (x : Vector CueEntry 64) : (s.withCues x).questions = s.questions := rfl
@[simp] theorem withCues_cues (x : Vector CueEntry 64) : (s.withCues x).cues = x := rfl
@[simp] theorem withCues_round (x : Vector CueEntry 64) : (s.withCues x).round = s.round := rfl
@[simp] theorem withCues_resp (x : Vector CueEntry 64) : (s.withCues x).resp = s.resp := rfl
@[simp] theorem withCues_buzz (x : Vector CueEntry 64) : (s.withCues x).buzz = s.buzz := rfl
@[simp] theorem withCues_score (x : Vector CueEntry 64) : (s.withCues x).score = s.score := rfl
@[simp] theorem withCues_sorter (x : Vector CueEntry 64) : (s.withCues x).sorter = s.sorter := rfl
@[simp] theorem withCues_comp (x : Vector CueEntry 64) : (s.withCues x).comp = s.comp := rfl
@[simp] theorem withCues_link (x : Vector CueEntry 64) : (s.withCues x).link = s.link := rfl
@[simp] theorem withCues_hub (x : Vector CueEntry 64) : (s.withCues x).hub = s.hub := rfl
@[simp] theorem withCues_loader (x : Vector CueEntry 64) : (s.withCues x).loader = s.loader := rfl
@[simp] theorem withCues_free (x : Vector CueEntry 64) : (s.withCues x).free = s.free := rfl
@[simp] theorem withCues_pending (x : Vector CueEntry 64) : (s.withCues x).pending = s.pending := rfl

@[simp] theorem withRound_now (x : Round) : (s.withRound x).now = s.now := rfl
@[simp] theorem withRound_ports (x : Round) : (s.withRound x).ports = s.ports := rfl
@[simp] theorem withRound_stamper (x : Round) : (s.withRound x).stamper = s.stamper := rfl
@[simp] theorem withRound_seats (x : Round) : (s.withRound x).seats = s.seats := rfl
@[simp] theorem withRound_teams (x : Round) : (s.withRound x).teams = s.teams := rfl
@[simp] theorem withRound_questions (x : Round) : (s.withRound x).questions = s.questions := rfl
@[simp] theorem withRound_cues (x : Round) : (s.withRound x).cues = s.cues := rfl
@[simp] theorem withRound_round (x : Round) : (s.withRound x).round = x := rfl
@[simp] theorem withRound_resp (x : Round) : (s.withRound x).resp = s.resp := rfl
@[simp] theorem withRound_buzz (x : Round) : (s.withRound x).buzz = s.buzz := rfl
@[simp] theorem withRound_score (x : Round) : (s.withRound x).score = s.score := rfl
@[simp] theorem withRound_sorter (x : Round) : (s.withRound x).sorter = s.sorter := rfl
@[simp] theorem withRound_comp (x : Round) : (s.withRound x).comp = s.comp := rfl
@[simp] theorem withRound_link (x : Round) : (s.withRound x).link = s.link := rfl
@[simp] theorem withRound_hub (x : Round) : (s.withRound x).hub = s.hub := rfl
@[simp] theorem withRound_loader (x : Round) : (s.withRound x).loader = s.loader := rfl
@[simp] theorem withRound_free (x : Round) : (s.withRound x).free = s.free := rfl
@[simp] theorem withRound_pending (x : Round) : (s.withRound x).pending = s.pending := rfl

@[simp] theorem withResp_now (x : Responses) : (s.withResp x).now = s.now := rfl
@[simp] theorem withResp_ports (x : Responses) : (s.withResp x).ports = s.ports := rfl
@[simp] theorem withResp_stamper (x : Responses) : (s.withResp x).stamper = s.stamper := rfl
@[simp] theorem withResp_seats (x : Responses) : (s.withResp x).seats = s.seats := rfl
@[simp] theorem withResp_teams (x : Responses) : (s.withResp x).teams = s.teams := rfl
@[simp] theorem withResp_questions (x : Responses) : (s.withResp x).questions = s.questions := rfl
@[simp] theorem withResp_cues (x : Responses) : (s.withResp x).cues = s.cues := rfl
@[simp] theorem withResp_round (x : Responses) : (s.withResp x).round = s.round := rfl
@[simp] theorem withResp_resp (x : Responses) : (s.withResp x).resp = x := rfl
@[simp] theorem withResp_buzz (x : Responses) : (s.withResp x).buzz = s.buzz := rfl
@[simp] theorem withResp_score (x : Responses) : (s.withResp x).score = s.score := rfl
@[simp] theorem withResp_sorter (x : Responses) : (s.withResp x).sorter = s.sorter := rfl
@[simp] theorem withResp_comp (x : Responses) : (s.withResp x).comp = s.comp := rfl
@[simp] theorem withResp_link (x : Responses) : (s.withResp x).link = s.link := rfl
@[simp] theorem withResp_hub (x : Responses) : (s.withResp x).hub = s.hub := rfl
@[simp] theorem withResp_loader (x : Responses) : (s.withResp x).loader = s.loader := rfl
@[simp] theorem withResp_free (x : Responses) : (s.withResp x).free = s.free := rfl
@[simp] theorem withResp_pending (x : Responses) : (s.withResp x).pending = s.pending := rfl

@[simp] theorem withBuzz_now (x : Buzz) : (s.withBuzz x).now = s.now := rfl
@[simp] theorem withBuzz_ports (x : Buzz) : (s.withBuzz x).ports = s.ports := rfl
@[simp] theorem withBuzz_stamper (x : Buzz) : (s.withBuzz x).stamper = s.stamper := rfl
@[simp] theorem withBuzz_seats (x : Buzz) : (s.withBuzz x).seats = s.seats := rfl
@[simp] theorem withBuzz_teams (x : Buzz) : (s.withBuzz x).teams = s.teams := rfl
@[simp] theorem withBuzz_questions (x : Buzz) : (s.withBuzz x).questions = s.questions := rfl
@[simp] theorem withBuzz_cues (x : Buzz) : (s.withBuzz x).cues = s.cues := rfl
@[simp] theorem withBuzz_round (x : Buzz) : (s.withBuzz x).round = s.round := rfl
@[simp] theorem withBuzz_resp (x : Buzz) : (s.withBuzz x).resp = s.resp := rfl
@[simp] theorem withBuzz_buzz (x : Buzz) : (s.withBuzz x).buzz = x := rfl
@[simp] theorem withBuzz_score (x : Buzz) : (s.withBuzz x).score = s.score := rfl
@[simp] theorem withBuzz_sorter (x : Buzz) : (s.withBuzz x).sorter = s.sorter := rfl
@[simp] theorem withBuzz_comp (x : Buzz) : (s.withBuzz x).comp = s.comp := rfl
@[simp] theorem withBuzz_link (x : Buzz) : (s.withBuzz x).link = s.link := rfl
@[simp] theorem withBuzz_hub (x : Buzz) : (s.withBuzz x).hub = s.hub := rfl
@[simp] theorem withBuzz_loader (x : Buzz) : (s.withBuzz x).loader = s.loader := rfl
@[simp] theorem withBuzz_free (x : Buzz) : (s.withBuzz x).free = s.free := rfl
@[simp] theorem withBuzz_pending (x : Buzz) : (s.withBuzz x).pending = s.pending := rfl

@[simp] theorem withScore_now (x : Score) : (s.withScore x).now = s.now := rfl
@[simp] theorem withScore_ports (x : Score) : (s.withScore x).ports = s.ports := rfl
@[simp] theorem withScore_stamper (x : Score) : (s.withScore x).stamper = s.stamper := rfl
@[simp] theorem withScore_seats (x : Score) : (s.withScore x).seats = s.seats := rfl
@[simp] theorem withScore_teams (x : Score) : (s.withScore x).teams = s.teams := rfl
@[simp] theorem withScore_questions (x : Score) : (s.withScore x).questions = s.questions := rfl
@[simp] theorem withScore_cues (x : Score) : (s.withScore x).cues = s.cues := rfl
@[simp] theorem withScore_round (x : Score) : (s.withScore x).round = s.round := rfl
@[simp] theorem withScore_resp (x : Score) : (s.withScore x).resp = s.resp := rfl
@[simp] theorem withScore_buzz (x : Score) : (s.withScore x).buzz = s.buzz := rfl
@[simp] theorem withScore_score (x : Score) : (s.withScore x).score = x := rfl
@[simp] theorem withScore_sorter (x : Score) : (s.withScore x).sorter = s.sorter := rfl
@[simp] theorem withScore_comp (x : Score) : (s.withScore x).comp = s.comp := rfl
@[simp] theorem withScore_link (x : Score) : (s.withScore x).link = s.link := rfl
@[simp] theorem withScore_hub (x : Score) : (s.withScore x).hub = s.hub := rfl
@[simp] theorem withScore_loader (x : Score) : (s.withScore x).loader = s.loader := rfl
@[simp] theorem withScore_free (x : Score) : (s.withScore x).free = s.free := rfl
@[simp] theorem withScore_pending (x : Score) : (s.withScore x).pending = s.pending := rfl

@[simp] theorem withSorter_now (x : Sorter) : (s.withSorter x).now = s.now := rfl
@[simp] theorem withSorter_ports (x : Sorter) : (s.withSorter x).ports = s.ports := rfl
@[simp] theorem withSorter_stamper (x : Sorter) : (s.withSorter x).stamper = s.stamper := rfl
@[simp] theorem withSorter_seats (x : Sorter) : (s.withSorter x).seats = s.seats := rfl
@[simp] theorem withSorter_teams (x : Sorter) : (s.withSorter x).teams = s.teams := rfl
@[simp] theorem withSorter_questions (x : Sorter) : (s.withSorter x).questions = s.questions := rfl
@[simp] theorem withSorter_cues (x : Sorter) : (s.withSorter x).cues = s.cues := rfl
@[simp] theorem withSorter_round (x : Sorter) : (s.withSorter x).round = s.round := rfl
@[simp] theorem withSorter_resp (x : Sorter) : (s.withSorter x).resp = s.resp := rfl
@[simp] theorem withSorter_buzz (x : Sorter) : (s.withSorter x).buzz = s.buzz := rfl
@[simp] theorem withSorter_score (x : Sorter) : (s.withSorter x).score = s.score := rfl
@[simp] theorem withSorter_sorter (x : Sorter) : (s.withSorter x).sorter = x := rfl
@[simp] theorem withSorter_comp (x : Sorter) : (s.withSorter x).comp = s.comp := rfl
@[simp] theorem withSorter_link (x : Sorter) : (s.withSorter x).link = s.link := rfl
@[simp] theorem withSorter_hub (x : Sorter) : (s.withSorter x).hub = s.hub := rfl
@[simp] theorem withSorter_loader (x : Sorter) : (s.withSorter x).loader = s.loader := rfl
@[simp] theorem withSorter_free (x : Sorter) : (s.withSorter x).free = s.free := rfl
@[simp] theorem withSorter_pending (x : Sorter) : (s.withSorter x).pending = s.pending := rfl

@[simp] theorem withComp_now (x : Composer) : (s.withComp x).now = s.now := rfl
@[simp] theorem withComp_ports (x : Composer) : (s.withComp x).ports = s.ports := rfl
@[simp] theorem withComp_stamper (x : Composer) : (s.withComp x).stamper = s.stamper := rfl
@[simp] theorem withComp_seats (x : Composer) : (s.withComp x).seats = s.seats := rfl
@[simp] theorem withComp_teams (x : Composer) : (s.withComp x).teams = s.teams := rfl
@[simp] theorem withComp_questions (x : Composer) : (s.withComp x).questions = s.questions := rfl
@[simp] theorem withComp_cues (x : Composer) : (s.withComp x).cues = s.cues := rfl
@[simp] theorem withComp_round (x : Composer) : (s.withComp x).round = s.round := rfl
@[simp] theorem withComp_resp (x : Composer) : (s.withComp x).resp = s.resp := rfl
@[simp] theorem withComp_buzz (x : Composer) : (s.withComp x).buzz = s.buzz := rfl
@[simp] theorem withComp_score (x : Composer) : (s.withComp x).score = s.score := rfl
@[simp] theorem withComp_sorter (x : Composer) : (s.withComp x).sorter = s.sorter := rfl
@[simp] theorem withComp_comp (x : Composer) : (s.withComp x).comp = x := rfl
@[simp] theorem withComp_link (x : Composer) : (s.withComp x).link = s.link := rfl
@[simp] theorem withComp_hub (x : Composer) : (s.withComp x).hub = s.hub := rfl
@[simp] theorem withComp_loader (x : Composer) : (s.withComp x).loader = s.loader := rfl
@[simp] theorem withComp_free (x : Composer) : (s.withComp x).free = s.free := rfl
@[simp] theorem withComp_pending (x : Composer) : (s.withComp x).pending = s.pending := rfl

@[simp] theorem withLink_now (x : LinkSwitch) : (s.withLink x).now = s.now := rfl
@[simp] theorem withLink_ports (x : LinkSwitch) : (s.withLink x).ports = s.ports := rfl
@[simp] theorem withLink_stamper (x : LinkSwitch) : (s.withLink x).stamper = s.stamper := rfl
@[simp] theorem withLink_seats (x : LinkSwitch) : (s.withLink x).seats = s.seats := rfl
@[simp] theorem withLink_teams (x : LinkSwitch) : (s.withLink x).teams = s.teams := rfl
@[simp] theorem withLink_questions (x : LinkSwitch) : (s.withLink x).questions = s.questions := rfl
@[simp] theorem withLink_cues (x : LinkSwitch) : (s.withLink x).cues = s.cues := rfl
@[simp] theorem withLink_round (x : LinkSwitch) : (s.withLink x).round = s.round := rfl
@[simp] theorem withLink_resp (x : LinkSwitch) : (s.withLink x).resp = s.resp := rfl
@[simp] theorem withLink_buzz (x : LinkSwitch) : (s.withLink x).buzz = s.buzz := rfl
@[simp] theorem withLink_score (x : LinkSwitch) : (s.withLink x).score = s.score := rfl
@[simp] theorem withLink_sorter (x : LinkSwitch) : (s.withLink x).sorter = s.sorter := rfl
@[simp] theorem withLink_comp (x : LinkSwitch) : (s.withLink x).comp = s.comp := rfl
@[simp] theorem withLink_link (x : LinkSwitch) : (s.withLink x).link = x := rfl
@[simp] theorem withLink_hub (x : LinkSwitch) : (s.withLink x).hub = s.hub := rfl
@[simp] theorem withLink_loader (x : LinkSwitch) : (s.withLink x).loader = s.loader := rfl
@[simp] theorem withLink_free (x : LinkSwitch) : (s.withLink x).free = s.free := rfl
@[simp] theorem withLink_pending (x : LinkSwitch) : (s.withLink x).pending = s.pending := rfl

@[simp] theorem withHub_now (x : Hub) : (s.withHub x).now = s.now := rfl
@[simp] theorem withHub_ports (x : Hub) : (s.withHub x).ports = s.ports := rfl
@[simp] theorem withHub_stamper (x : Hub) : (s.withHub x).stamper = s.stamper := rfl
@[simp] theorem withHub_seats (x : Hub) : (s.withHub x).seats = s.seats := rfl
@[simp] theorem withHub_teams (x : Hub) : (s.withHub x).teams = s.teams := rfl
@[simp] theorem withHub_questions (x : Hub) : (s.withHub x).questions = s.questions := rfl
@[simp] theorem withHub_cues (x : Hub) : (s.withHub x).cues = s.cues := rfl
@[simp] theorem withHub_round (x : Hub) : (s.withHub x).round = s.round := rfl
@[simp] theorem withHub_resp (x : Hub) : (s.withHub x).resp = s.resp := rfl
@[simp] theorem withHub_buzz (x : Hub) : (s.withHub x).buzz = s.buzz := rfl
@[simp] theorem withHub_score (x : Hub) : (s.withHub x).score = s.score := rfl
@[simp] theorem withHub_sorter (x : Hub) : (s.withHub x).sorter = s.sorter := rfl
@[simp] theorem withHub_comp (x : Hub) : (s.withHub x).comp = s.comp := rfl
@[simp] theorem withHub_link (x : Hub) : (s.withHub x).link = s.link := rfl
@[simp] theorem withHub_hub (x : Hub) : (s.withHub x).hub = x := rfl
@[simp] theorem withHub_loader (x : Hub) : (s.withHub x).loader = s.loader := rfl
@[simp] theorem withHub_free (x : Hub) : (s.withHub x).free = s.free := rfl
@[simp] theorem withHub_pending (x : Hub) : (s.withHub x).pending = s.pending := rfl

@[simp] theorem withLoader_now (x : Loader) : (s.withLoader x).now = s.now := rfl
@[simp] theorem withLoader_ports (x : Loader) : (s.withLoader x).ports = s.ports := rfl
@[simp] theorem withLoader_stamper (x : Loader) : (s.withLoader x).stamper = s.stamper := rfl
@[simp] theorem withLoader_seats (x : Loader) : (s.withLoader x).seats = s.seats := rfl
@[simp] theorem withLoader_teams (x : Loader) : (s.withLoader x).teams = s.teams := rfl
@[simp] theorem withLoader_questions (x : Loader) : (s.withLoader x).questions = s.questions := rfl
@[simp] theorem withLoader_cues (x : Loader) : (s.withLoader x).cues = s.cues := rfl
@[simp] theorem withLoader_round (x : Loader) : (s.withLoader x).round = s.round := rfl
@[simp] theorem withLoader_resp (x : Loader) : (s.withLoader x).resp = s.resp := rfl
@[simp] theorem withLoader_buzz (x : Loader) : (s.withLoader x).buzz = s.buzz := rfl
@[simp] theorem withLoader_score (x : Loader) : (s.withLoader x).score = s.score := rfl
@[simp] theorem withLoader_sorter (x : Loader) : (s.withLoader x).sorter = s.sorter := rfl
@[simp] theorem withLoader_comp (x : Loader) : (s.withLoader x).comp = s.comp := rfl
@[simp] theorem withLoader_link (x : Loader) : (s.withLoader x).link = s.link := rfl
@[simp] theorem withLoader_hub (x : Loader) : (s.withLoader x).hub = s.hub := rfl
@[simp] theorem withLoader_loader (x : Loader) : (s.withLoader x).loader = x := rfl
@[simp] theorem withLoader_free (x : Loader) : (s.withLoader x).free = s.free := rfl
@[simp] theorem withLoader_pending (x : Loader) : (s.withLoader x).pending = s.pending := rfl

@[simp] theorem withFree_now (x : Nat) : (s.withFree x).now = s.now := rfl
@[simp] theorem withFree_ports (x : Nat) : (s.withFree x).ports = s.ports := rfl
@[simp] theorem withFree_stamper (x : Nat) : (s.withFree x).stamper = s.stamper := rfl
@[simp] theorem withFree_seats (x : Nat) : (s.withFree x).seats = s.seats := rfl
@[simp] theorem withFree_teams (x : Nat) : (s.withFree x).teams = s.teams := rfl
@[simp] theorem withFree_questions (x : Nat) : (s.withFree x).questions = s.questions := rfl
@[simp] theorem withFree_cues (x : Nat) : (s.withFree x).cues = s.cues := rfl
@[simp] theorem withFree_round (x : Nat) : (s.withFree x).round = s.round := rfl
@[simp] theorem withFree_resp (x : Nat) : (s.withFree x).resp = s.resp := rfl
@[simp] theorem withFree_buzz (x : Nat) : (s.withFree x).buzz = s.buzz := rfl
@[simp] theorem withFree_score (x : Nat) : (s.withFree x).score = s.score := rfl
@[simp] theorem withFree_sorter (x : Nat) : (s.withFree x).sorter = s.sorter := rfl
@[simp] theorem withFree_comp (x : Nat) : (s.withFree x).comp = s.comp := rfl
@[simp] theorem withFree_link (x : Nat) : (s.withFree x).link = s.link := rfl
@[simp] theorem withFree_hub (x : Nat) : (s.withFree x).hub = s.hub := rfl
@[simp] theorem withFree_loader (x : Nat) : (s.withFree x).loader = s.loader := rfl
@[simp] theorem withFree_free (x : Nat) : (s.withFree x).free = x := rfl
@[simp] theorem withFree_pending (x : Nat) : (s.withFree x).pending = s.pending := rfl

@[simp] theorem withNow_twice (x y : Time) : (s.withNow x).withNow y = s.withNow y := rfl
@[simp] theorem withPorts_twice (x y : Vector Port 4) : (s.withPorts x).withPorts y = s.withPorts y := rfl
@[simp] theorem withStamper_twice (x y : Stamper) : (s.withStamper x).withStamper y = s.withStamper y := rfl
@[simp] theorem withSeats_twice (x y : Vector Seat 256) : (s.withSeats x).withSeats y = s.withSeats y := rfl
@[simp] theorem withTeams_twice (x y : Vector Team 16) : (s.withTeams x).withTeams y = s.withTeams y := rfl
@[simp] theorem withQuestions_twice (x y : Vector Question 128) : (s.withQuestions x).withQuestions y = s.withQuestions y := rfl
@[simp] theorem withCues_twice (x y : Vector CueEntry 64) : (s.withCues x).withCues y = s.withCues y := rfl
@[simp] theorem withRound_twice (x y : Round) : (s.withRound x).withRound y = s.withRound y := rfl
@[simp] theorem withResp_twice (x y : Responses) : (s.withResp x).withResp y = s.withResp y := rfl
@[simp] theorem withBuzz_twice (x y : Buzz) : (s.withBuzz x).withBuzz y = s.withBuzz y := rfl
@[simp] theorem withScore_twice (x y : Score) : (s.withScore x).withScore y = s.withScore y := rfl
@[simp] theorem withSorter_twice (x y : Sorter) : (s.withSorter x).withSorter y = s.withSorter y := rfl
@[simp] theorem withComp_twice (x y : Composer) : (s.withComp x).withComp y = s.withComp y := rfl
@[simp] theorem withLink_twice (x y : LinkSwitch) : (s.withLink x).withLink y = s.withLink y := rfl
@[simp] theorem withHub_twice (x y : Hub) : (s.withHub x).withHub y = s.withHub y := rfl
@[simp] theorem withLoader_twice (x y : Loader) : (s.withLoader x).withLoader y = s.withLoader y := rfl
@[simp] theorem withFree_twice (x y : Nat) : (s.withFree x).withFree y = s.withFree y := rfl

end Sys2Proof.Machine
end

