-- ==== Sys2Proof/Laws/Folds.lean ====
section
/-! SUPPORT. Two facts about folds over seats, ports and positions: what every step keeps the fold keeps, and an invariant of
every step is one of the fold. -/

namespace Sys2Proof.Machine

/-- A reading that no step changes is unchanged by the fold. -/
theorem foldl_keeps {α β γ : Type _} (f : β → α → β) (g : β → γ) (h : ∀ b a, g (f b a) = g b) (l : List α) (b : β) :
    g (l.foldl f b) = g b := by
  induction l generalizing b with
  | nil => rfl
  | cons a l ih => rw [List.foldl_cons, ih, h]

/-- A property that every step keeps is kept by the fold. -/
theorem foldl_invariant {α β : Type _} (f : β → α → β) (P : β → Prop) (h : ∀ b a, P b → P (f b a)) (l : List α) (b : β)
    (hb : P b) : P (l.foldl f b) := by
  induction l generalizing b with
  | nil => exact hb
  | cons a l ih => exact ih _ (h b a hb)

/-- A fold of steps, each of which either keeps a reading or sets it the same way, applied to a list without repeats. -/
theorem foldl_at_most_once {α β γ : Type _} [DecidableEq α] (f : β → α → β) (g : β → γ) (x : α)
    (other : ∀ b a, a ≠ x → g (f b a) = g b) (l : List α) (hl : l.Nodup) (b : β) (P : γ → γ → Prop)
    (here : ∀ b', g b' = g b → P (g b) (g (f b' x))) :
    (x ∈ l → P (g b) (g (l.foldl f b))) ∧ (x ∉ l → g (l.foldl f b) = g b) := by
  induction l generalizing b with
  | nil => simp
  | cons a l ih =>
    have hn := List.nodup_cons.mp hl
    rw [List.foldl_cons]
    by_cases ha : a = x
    · subst ha
      have tail : ∀ b' : β, g (l.foldl f b') = g b' := by
        intro b'
        have : ∀ (m : List α), a ∉ m → ∀ b'' : β, g (m.foldl f b'') = g b'' := by
          intro m hm
          induction m with
          | nil => intro _; rfl
          | cons c m ihm =>
            intro b''
            rw [List.foldl_cons, ihm (fun h => hm (List.mem_cons_of_mem _ h)),
              other _ _ (fun h => hm (h ▸ List.mem_cons_self))]
        exact this l hn.1 b'
      refine ⟨fun _ => ?_, fun h => absurd List.mem_cons_self h⟩
      rw [tail]
      exact here b rfl
    · have hk : g (f b a) = g b := other b a ha
      have := ih hn.2 (f b a) (by intro b' hb'; rw [hk]; exact here b' (hb'.trans hk))
      rw [hk] at this
      refine ⟨fun h => this.1 ?_, fun h => this.2 fun h' => h (List.mem_cons_of_mem _ h')⟩
      rcases List.mem_cons.mp h with h | h
      · exact absurd h.symm ha
      · exact h

end Sys2Proof.Machine
end

