-- ==== Sys2Proof/Laws/Frames.lean ====
section
/-! SUPPORT. What each operation of Machine/Ops.lean leaves unchanged: one simp lemma for each block that it does not touch. -/

namespace Sys2Proof.Machine

variable (s : State)

@[simp] theorem setPort_now (p : Fin 4) (x : Port) : (s.setPort p x).now = s.now := rfl
@[simp] theorem setPort_stamper (p : Fin 4) (x : Port) : (s.setPort p x).stamper = s.stamper := rfl
@[simp] theorem setPort_seats (p : Fin 4) (x : Port) : (s.setPort p x).seats = s.seats := rfl
@[simp] theorem setPort_teams (p : Fin 4) (x : Port) : (s.setPort p x).teams = s.teams := rfl
@[simp] theorem setPort_questions (p : Fin 4) (x : Port) : (s.setPort p x).questions = s.questions := rfl
@[simp] theorem setPort_cues (p : Fin 4) (x : Port) : (s.setPort p x).cues = s.cues := rfl
@[simp] theorem setPort_round (p : Fin 4) (x : Port) : (s.setPort p x).round = s.round := rfl
@[simp] theorem setPort_resp (p : Fin 4) (x : Port) : (s.setPort p x).resp = s.resp := rfl
@[simp] theorem setPort_buzz (p : Fin 4) (x : Port) : (s.setPort p x).buzz = s.buzz := rfl
@[simp] theorem setPort_score (p : Fin 4) (x : Port) : (s.setPort p x).score = s.score := rfl
@[simp] theorem setPort_sorter (p : Fin 4) (x : Port) : (s.setPort p x).sorter = s.sorter := rfl
@[simp] theorem setPort_comp (p : Fin 4) (x : Port) : (s.setPort p x).comp = s.comp := rfl
@[simp] theorem setPort_link (p : Fin 4) (x : Port) : (s.setPort p x).link = s.link := rfl
@[simp] theorem setPort_hub (p : Fin 4) (x : Port) : (s.setPort p x).hub = s.hub := rfl
@[simp] theorem setPort_loader (p : Fin 4) (x : Port) : (s.setPort p x).loader = s.loader := rfl
@[simp] theorem setPort_free (p : Fin 4) (x : Port) : (s.setPort p x).free = s.free := rfl
@[simp] theorem setPort_pending (p : Fin 4) (x : Port) : (s.setPort p x).pending = s.pending := rfl

@[simp] theorem setSeat_now (k : Fin 256) (x : Seat) : (s.setSeat k x).now = s.now := rfl
@[simp] theorem setSeat_ports (k : Fin 256) (x : Seat) : (s.setSeat k x).ports = s.ports := rfl
@[simp] theorem setSeat_stamper (k : Fin 256) (x : Seat) : (s.setSeat k x).stamper = s.stamper := rfl
@[simp] theorem setSeat_teams (k : Fin 256) (x : Seat) : (s.setSeat k x).teams = s.teams := rfl
@[simp] theorem setSeat_questions (k : Fin 256) (x : Seat) : (s.setSeat k x).questions = s.questions := rfl
@[simp] theorem setSeat_cues (k : Fin 256) (x : Seat) : (s.setSeat k x).cues = s.cues := rfl
@[simp] theorem setSeat_round (k : Fin 256) (x : Seat) : (s.setSeat k x).round = s.round := rfl
@[simp] theorem setSeat_resp (k : Fin 256) (x : Seat) : (s.setSeat k x).resp = s.resp := rfl
@[simp] theorem setSeat_buzz (k : Fin 256) (x : Seat) : (s.setSeat k x).buzz = s.buzz := rfl
@[simp] theorem setSeat_score (k : Fin 256) (x : Seat) : (s.setSeat k x).score = s.score := rfl
@[simp] theorem setSeat_sorter (k : Fin 256) (x : Seat) : (s.setSeat k x).sorter = s.sorter := rfl
@[simp] theorem setSeat_comp (k : Fin 256) (x : Seat) : (s.setSeat k x).comp = s.comp := rfl
@[simp] theorem setSeat_link (k : Fin 256) (x : Seat) : (s.setSeat k x).link = s.link := rfl
@[simp] theorem setSeat_hub (k : Fin 256) (x : Seat) : (s.setSeat k x).hub = s.hub := rfl
@[simp] theorem setSeat_loader (k : Fin 256) (x : Seat) : (s.setSeat k x).loader = s.loader := rfl
@[simp] theorem setSeat_free (k : Fin 256) (x : Seat) : (s.setSeat k x).free = s.free := rfl
@[simp] theorem setSeat_pending (k : Fin 256) (x : Seat) : (s.setSeat k x).pending = s.pending := rfl

@[simp] theorem mapSeats_now (f : Fin 256 → Seat → Seat) : (s.mapSeats f).now = s.now := by unfold State.mapSeats; simp only [withSeats_now]
@[simp] theorem mapSeats_ports (f : Fin 256 → Seat → Seat) : (s.mapSeats f).ports = s.ports := by unfold State.mapSeats; simp only [withSeats_ports]
@[simp] theorem mapSeats_stamper (f : Fin 256 → Seat → Seat) : (s.mapSeats f).stamper = s.stamper := by unfold State.mapSeats; simp only [withSeats_stamper]
@[simp] theorem mapSeats_teams (f : Fin 256 → Seat → Seat) : (s.mapSeats f).teams = s.teams := by unfold State.mapSeats; simp only [withSeats_teams]
@[simp] theorem mapSeats_questions (f : Fin 256 → Seat → Seat) : (s.mapSeats f).questions = s.questions := by unfold State.mapSeats; simp only [withSeats_questions]
@[simp] theorem mapSeats_cues (f : Fin 256 → Seat → Seat) : (s.mapSeats f).cues = s.cues := by unfold State.mapSeats; simp only [withSeats_cues]
@[simp] theorem mapSeats_round (f : Fin 256 → Seat → Seat) : (s.mapSeats f).round = s.round := by unfold State.mapSeats; simp only [withSeats_round]
@[simp] theorem mapSeats_resp (f : Fin 256 → Seat → Seat) : (s.mapSeats f).resp = s.resp := by unfold State.mapSeats; simp only [withSeats_resp]
@[simp] theorem mapSeats_buzz (f : Fin 256 → Seat → Seat) : (s.mapSeats f).buzz = s.buzz := by unfold State.mapSeats; simp only [withSeats_buzz]
@[simp] theorem mapSeats_score (f : Fin 256 → Seat → Seat) : (s.mapSeats f).score = s.score := by unfold State.mapSeats; simp only [withSeats_score]
@[simp] theorem mapSeats_sorter (f : Fin 256 → Seat → Seat) : (s.mapSeats f).sorter = s.sorter := by unfold State.mapSeats; simp only [withSeats_sorter]
@[simp] theorem mapSeats_comp (f : Fin 256 → Seat → Seat) : (s.mapSeats f).comp = s.comp := by unfold State.mapSeats; simp only [withSeats_comp]
@[simp] theorem mapSeats_link (f : Fin 256 → Seat → Seat) : (s.mapSeats f).link = s.link := by unfold State.mapSeats; simp only [withSeats_link]
@[simp] theorem mapSeats_hub (f : Fin 256 → Seat → Seat) : (s.mapSeats f).hub = s.hub := by unfold State.mapSeats; simp only [withSeats_hub]
@[simp] theorem mapSeats_loader (f : Fin 256 → Seat → Seat) : (s.mapSeats f).loader = s.loader := by unfold State.mapSeats; simp only [withSeats_loader]
@[simp] theorem mapSeats_free (f : Fin 256 → Seat → Seat) : (s.mapSeats f).free = s.free := by unfold State.mapSeats; simp only [withSeats_free]
@[simp] theorem mapSeats_pending (f : Fin 256 → Seat → Seat) : (s.mapSeats f).pending = s.pending := by unfold State.mapSeats; simp only [withSeats_pending]

@[simp] theorem enqueueNotice_now (n : Notice) : (enqueueNotice n s).now = s.now := by unfold enqueueNotice; (repeat' split) <;> simp
@[simp] theorem enqueueNotice_ports (n : Notice) : (enqueueNotice n s).ports = s.ports := by unfold enqueueNotice; (repeat' split) <;> simp
@[simp] theorem enqueueNotice_stamper (n : Notice) : (enqueueNotice n s).stamper = s.stamper := by unfold enqueueNotice; (repeat' split) <;> simp
@[simp] theorem enqueueNotice_seats (n : Notice) : (enqueueNotice n s).seats = s.seats := by unfold enqueueNotice; (repeat' split) <;> simp
@[simp] theorem enqueueNotice_teams (n : Notice) : (enqueueNotice n s).teams = s.teams := by unfold enqueueNotice; (repeat' split) <;> simp
@[simp] theorem enqueueNotice_questions (n : Notice) : (enqueueNotice n s).questions = s.questions := by unfold enqueueNotice; (repeat' split) <;> simp
@[simp] theorem enqueueNotice_cues (n : Notice) : (enqueueNotice n s).cues = s.cues := by unfold enqueueNotice; (repeat' split) <;> simp
@[simp] theorem enqueueNotice_round (n : Notice) : (enqueueNotice n s).round = s.round := by unfold enqueueNotice; (repeat' split) <;> simp
@[simp] theorem enqueueNotice_resp (n : Notice) : (enqueueNotice n s).resp = s.resp := by unfold enqueueNotice; (repeat' split) <;> simp
@[simp] theorem enqueueNotice_buzz (n : Notice) : (enqueueNotice n s).buzz = s.buzz := by unfold enqueueNotice; (repeat' split) <;> simp
@[simp] theorem enqueueNotice_score (n : Notice) : (enqueueNotice n s).score = s.score := by unfold enqueueNotice; (repeat' split) <;> simp
@[simp] theorem enqueueNotice_sorter (n : Notice) : (enqueueNotice n s).sorter = s.sorter := by unfold enqueueNotice; (repeat' split) <;> simp
@[simp] theorem enqueueNotice_comp (n : Notice) : (enqueueNotice n s).comp = s.comp := by unfold enqueueNotice; (repeat' split) <;> simp
@[simp] theorem enqueueNotice_link (n : Notice) : (enqueueNotice n s).link = s.link := by unfold enqueueNotice; (repeat' split) <;> simp
@[simp] theorem enqueueNotice_loader (n : Notice) : (enqueueNotice n s).loader = s.loader := by unfold enqueueNotice; (repeat' split) <;> simp
@[simp] theorem enqueueNotice_free (n : Notice) : (enqueueNotice n s).free = s.free := by unfold enqueueNotice; (repeat' split) <;> simp
@[simp] theorem enqueueNotice_pending (n : Notice) : (enqueueNotice n s).pending = s.pending := by unfold enqueueNotice; (repeat' split) <;> simp

@[simp] theorem raiseNotice_now (b : NoticeBody) : (raiseNotice b s).now = s.now := by unfold raiseNotice; (repeat' split) <;> simp
@[simp] theorem raiseNotice_ports (b : NoticeBody) : (raiseNotice b s).ports = s.ports := by unfold raiseNotice; (repeat' split) <;> simp
@[simp] theorem raiseNotice_stamper (b : NoticeBody) : (raiseNotice b s).stamper = s.stamper := by unfold raiseNotice; (repeat' split) <;> simp
@[simp] theorem raiseNotice_seats (b : NoticeBody) : (raiseNotice b s).seats = s.seats := by unfold raiseNotice; (repeat' split) <;> simp
@[simp] theorem raiseNotice_teams (b : NoticeBody) : (raiseNotice b s).teams = s.teams := by unfold raiseNotice; (repeat' split) <;> simp
@[simp] theorem raiseNotice_questions (b : NoticeBody) : (raiseNotice b s).questions = s.questions := by unfold raiseNotice; (repeat' split) <;> simp
@[simp] theorem raiseNotice_cues (b : NoticeBody) : (raiseNotice b s).cues = s.cues := by unfold raiseNotice; (repeat' split) <;> simp
@[simp] theorem raiseNotice_round (b : NoticeBody) : (raiseNotice b s).round = s.round := by unfold raiseNotice; (repeat' split) <;> simp
@[simp] theorem raiseNotice_resp (b : NoticeBody) : (raiseNotice b s).resp = s.resp := by unfold raiseNotice; (repeat' split) <;> simp
@[simp] theorem raiseNotice_buzz (b : NoticeBody) : (raiseNotice b s).buzz = s.buzz := by unfold raiseNotice; (repeat' split) <;> simp
@[simp] theorem raiseNotice_score (b : NoticeBody) : (raiseNotice b s).score = s.score := by unfold raiseNotice; (repeat' split) <;> simp
@[simp] theorem raiseNotice_sorter (b : NoticeBody) : (raiseNotice b s).sorter = s.sorter := by unfold raiseNotice; (repeat' split) <;> simp
@[simp] theorem raiseNotice_comp (b : NoticeBody) : (raiseNotice b s).comp = s.comp := by unfold raiseNotice; (repeat' split) <;> simp
@[simp] theorem raiseNotice_link (b : NoticeBody) : (raiseNotice b s).link = s.link := by unfold raiseNotice; (repeat' split) <;> simp
@[simp] theorem raiseNotice_loader (b : NoticeBody) : (raiseNotice b s).loader = s.loader := by unfold raiseNotice; (repeat' split) <;> simp
@[simp] theorem raiseNotice_free (b : NoticeBody) : (raiseNotice b s).free = s.free := by unfold raiseNotice; (repeat' split) <;> simp
@[simp] theorem raiseNotice_pending (b : NoticeBody) : (raiseNotice b s).pending = s.pending := by unfold raiseNotice; (repeat' split) <;> simp

@[simp] theorem buildTally_now : (buildTally s).now = s.now := by unfold buildTally; simp
@[simp] theorem buildTally_ports : (buildTally s).ports = s.ports := by unfold buildTally; simp
@[simp] theorem buildTally_stamper : (buildTally s).stamper = s.stamper := by unfold buildTally; simp
@[simp] theorem buildTally_seats : (buildTally s).seats = s.seats := by unfold buildTally; simp
@[simp] theorem buildTally_teams : (buildTally s).teams = s.teams := by unfold buildTally; simp
@[simp] theorem buildTally_questions : (buildTally s).questions = s.questions := by unfold buildTally; simp
@[simp] theorem buildTally_cues : (buildTally s).cues = s.cues := by unfold buildTally; simp
@[simp] theorem buildTally_round : (buildTally s).round = s.round := by unfold buildTally; simp
@[simp] theorem buildTally_resp : (buildTally s).resp = s.resp := by unfold buildTally; simp
@[simp] theorem buildTally_buzz : (buildTally s).buzz = s.buzz := by unfold buildTally; simp
@[simp] theorem buildTally_score : (buildTally s).score = s.score := by unfold buildTally; simp
@[simp] theorem buildTally_sorter : (buildTally s).sorter = s.sorter := by unfold buildTally; simp
@[simp] theorem buildTally_comp : (buildTally s).comp = s.comp := by unfold buildTally; simp
@[simp] theorem buildTally_link : (buildTally s).link = s.link := by unfold buildTally; simp
@[simp] theorem buildTally_loader : (buildTally s).loader = s.loader := by unfold buildTally; simp
@[simp] theorem buildTally_free : (buildTally s).free = s.free := by unfold buildTally; simp
@[simp] theorem buildTally_pending : (buildTally s).pending = s.pending := by unfold buildTally; simp

@[simp] theorem raiseTally_now : (raiseTally s).now = s.now := by unfold raiseTally; (repeat' split) <;> simp
@[simp] theorem raiseTally_ports : (raiseTally s).ports = s.ports := by unfold raiseTally; (repeat' split) <;> simp
@[simp] theorem raiseTally_stamper : (raiseTally s).stamper = s.stamper := by unfold raiseTally; (repeat' split) <;> simp
@[simp] theorem raiseTally_seats : (raiseTally s).seats = s.seats := by unfold raiseTally; (repeat' split) <;> simp
@[simp] theorem raiseTally_teams : (raiseTally s).teams = s.teams := by unfold raiseTally; (repeat' split) <;> simp
@[simp] theorem raiseTally_questions : (raiseTally s).questions = s.questions := by unfold raiseTally; (repeat' split) <;> simp
@[simp] theorem raiseTally_cues : (raiseTally s).cues = s.cues := by unfold raiseTally; (repeat' split) <;> simp
@[simp] theorem raiseTally_round : (raiseTally s).round = s.round := by unfold raiseTally; (repeat' split) <;> simp
@[simp] theorem raiseTally_resp : (raiseTally s).resp = s.resp := by unfold raiseTally; (repeat' split) <;> simp
@[simp] theorem raiseTally_buzz : (raiseTally s).buzz = s.buzz := by unfold raiseTally; (repeat' split) <;> simp
@[simp] theorem raiseTally_score : (raiseTally s).score = s.score := by unfold raiseTally; (repeat' split) <;> simp
@[simp] theorem raiseTally_sorter : (raiseTally s).sorter = s.sorter := by unfold raiseTally; (repeat' split) <;> simp
@[simp] theorem raiseTally_comp : (raiseTally s).comp = s.comp := by unfold raiseTally; (repeat' split) <;> simp
@[simp] theorem raiseTally_link : (raiseTally s).link = s.link := by unfold raiseTally; (repeat' split) <;> simp
@[simp] theorem raiseTally_loader : (raiseTally s).loader = s.loader := by unfold raiseTally; (repeat' split) <;> simp
@[simp] theorem raiseTally_free : (raiseTally s).free = s.free := by unfold raiseTally; (repeat' split) <;> simp
@[simp] theorem raiseTally_pending : (raiseTally s).pending = s.pending := by unfold raiseTally; (repeat' split) <;> simp

@[simp] theorem buildSeat_now : (buildSeat s).now = s.now := by unfold buildSeat; simp
@[simp] theorem buildSeat_ports : (buildSeat s).ports = s.ports := by unfold buildSeat; simp
@[simp] theorem buildSeat_stamper : (buildSeat s).stamper = s.stamper := by unfold buildSeat; simp
@[simp] theorem buildSeat_seats : (buildSeat s).seats = s.seats := by unfold buildSeat; simp
@[simp] theorem buildSeat_teams : (buildSeat s).teams = s.teams := by unfold buildSeat; simp
@[simp] theorem buildSeat_questions : (buildSeat s).questions = s.questions := by unfold buildSeat; simp
@[simp] theorem buildSeat_cues : (buildSeat s).cues = s.cues := by unfold buildSeat; simp
@[simp] theorem buildSeat_round : (buildSeat s).round = s.round := by unfold buildSeat; simp
@[simp] theorem buildSeat_resp : (buildSeat s).resp = s.resp := by unfold buildSeat; simp
@[simp] theorem buildSeat_buzz : (buildSeat s).buzz = s.buzz := by unfold buildSeat; simp
@[simp] theorem buildSeat_score : (buildSeat s).score = s.score := by unfold buildSeat; simp
@[simp] theorem buildSeat_sorter : (buildSeat s).sorter = s.sorter := by unfold buildSeat; simp
@[simp] theorem buildSeat_comp : (buildSeat s).comp = s.comp := by unfold buildSeat; simp
@[simp] theorem buildSeat_link : (buildSeat s).link = s.link := by unfold buildSeat; simp
@[simp] theorem buildSeat_loader : (buildSeat s).loader = s.loader := by unfold buildSeat; simp
@[simp] theorem buildSeat_free : (buildSeat s).free = s.free := by unfold buildSeat; simp
@[simp] theorem buildSeat_pending : (buildSeat s).pending = s.pending := by unfold buildSeat; simp

@[simp] theorem raiseSeat_now (k : Fin 256) (c : Causes) : (raiseSeat k c s).now = s.now := by simp [raiseSeat, apply_ite State.now]
@[simp] theorem raiseSeat_ports (k : Fin 256) (c : Causes) : (raiseSeat k c s).ports = s.ports := by simp [raiseSeat, apply_ite State.ports]
@[simp] theorem raiseSeat_stamper (k : Fin 256) (c : Causes) : (raiseSeat k c s).stamper = s.stamper := by simp [raiseSeat, apply_ite State.stamper]
@[simp] theorem raiseSeat_seats (k : Fin 256) (c : Causes) : (raiseSeat k c s).seats = s.seats := by simp [raiseSeat, apply_ite State.seats]
@[simp] theorem raiseSeat_teams (k : Fin 256) (c : Causes) : (raiseSeat k c s).teams = s.teams := by simp [raiseSeat, apply_ite State.teams]
@[simp] theorem raiseSeat_questions (k : Fin 256) (c : Causes) : (raiseSeat k c s).questions = s.questions := by simp [raiseSeat, apply_ite State.questions]
@[simp] theorem raiseSeat_cues (k : Fin 256) (c : Causes) : (raiseSeat k c s).cues = s.cues := by simp [raiseSeat, apply_ite State.cues]
@[simp] theorem raiseSeat_round (k : Fin 256) (c : Causes) : (raiseSeat k c s).round = s.round := by simp [raiseSeat, apply_ite State.round]
@[simp] theorem raiseSeat_resp (k : Fin 256) (c : Causes) : (raiseSeat k c s).resp = s.resp := by simp [raiseSeat, apply_ite State.resp]
@[simp] theorem raiseSeat_buzz (k : Fin 256) (c : Causes) : (raiseSeat k c s).buzz = s.buzz := by simp [raiseSeat, apply_ite State.buzz]
@[simp] theorem raiseSeat_score (k : Fin 256) (c : Causes) : (raiseSeat k c s).score = s.score := by simp [raiseSeat, apply_ite State.score]
@[simp] theorem raiseSeat_sorter (k : Fin 256) (c : Causes) : (raiseSeat k c s).sorter = s.sorter := by simp [raiseSeat, apply_ite State.sorter]
@[simp] theorem raiseSeat_comp (k : Fin 256) (c : Causes) : (raiseSeat k c s).comp = s.comp := by simp [raiseSeat, apply_ite State.comp]
@[simp] theorem raiseSeat_link (k : Fin 256) (c : Causes) : (raiseSeat k c s).link = s.link := by simp [raiseSeat, apply_ite State.link]
@[simp] theorem raiseSeat_loader (k : Fin 256) (c : Causes) : (raiseSeat k c s).loader = s.loader := by simp [raiseSeat, apply_ite State.loader]
@[simp] theorem raiseSeat_free (k : Fin 256) (c : Causes) : (raiseSeat k c s).free = s.free := by simp [raiseSeat, apply_ite State.free]
@[simp] theorem raiseSeat_pending (k : Fin 256) (c : Causes) : (raiseSeat k c s).pending = s.pending := by simp [raiseSeat, apply_ite State.pending]

@[simp] theorem startCompose_now : (startCompose s).now = s.now := by unfold startCompose; simp
@[simp] theorem startCompose_ports : (startCompose s).ports = s.ports := by unfold startCompose; simp
@[simp] theorem startCompose_stamper : (startCompose s).stamper = s.stamper := by unfold startCompose; simp
@[simp] theorem startCompose_seats : (startCompose s).seats = s.seats := by unfold startCompose; simp
@[simp] theorem startCompose_teams : (startCompose s).teams = s.teams := by unfold startCompose; simp
@[simp] theorem startCompose_questions : (startCompose s).questions = s.questions := by unfold startCompose; simp
@[simp] theorem startCompose_cues : (startCompose s).cues = s.cues := by unfold startCompose; simp
@[simp] theorem startCompose_round : (startCompose s).round = s.round := by unfold startCompose; simp
@[simp] theorem startCompose_resp : (startCompose s).resp = s.resp := by unfold startCompose; simp
@[simp] theorem startCompose_buzz : (startCompose s).buzz = s.buzz := by unfold startCompose; simp
@[simp] theorem startCompose_score : (startCompose s).score = s.score := by unfold startCompose; simp
@[simp] theorem startCompose_sorter : (startCompose s).sorter = s.sorter := by unfold startCompose; simp
@[simp] theorem startCompose_link : (startCompose s).link = s.link := by unfold startCompose; simp
@[simp] theorem startCompose_hub : (startCompose s).hub = s.hub := by unfold startCompose; simp
@[simp] theorem startCompose_loader : (startCompose s).loader = s.loader := by unfold startCompose; simp
@[simp] theorem startCompose_free : (startCompose s).free = s.free := by unfold startCompose; simp
@[simp] theorem startCompose_pending : (startCompose s).pending = s.pending := by unfold startCompose; simp

@[simp] theorem recompose_now : (recompose s).now = s.now := by unfold recompose; (repeat' split) <;> simp
@[simp] theorem recompose_ports : (recompose s).ports = s.ports := by unfold recompose; (repeat' split) <;> simp
@[simp] theorem recompose_stamper : (recompose s).stamper = s.stamper := by unfold recompose; (repeat' split) <;> simp
@[simp] theorem recompose_seats : (recompose s).seats = s.seats := by unfold recompose; (repeat' split) <;> simp
@[simp] theorem recompose_teams : (recompose s).teams = s.teams := by unfold recompose; (repeat' split) <;> simp
@[simp] theorem recompose_questions : (recompose s).questions = s.questions := by unfold recompose; (repeat' split) <;> simp
@[simp] theorem recompose_cues : (recompose s).cues = s.cues := by unfold recompose; (repeat' split) <;> simp
@[simp] theorem recompose_round : (recompose s).round = s.round := by unfold recompose; (repeat' split) <;> simp
@[simp] theorem recompose_resp : (recompose s).resp = s.resp := by unfold recompose; (repeat' split) <;> simp
@[simp] theorem recompose_buzz : (recompose s).buzz = s.buzz := by unfold recompose; (repeat' split) <;> simp
@[simp] theorem recompose_score : (recompose s).score = s.score := by unfold recompose; (repeat' split) <;> simp
@[simp] theorem recompose_sorter : (recompose s).sorter = s.sorter := by unfold recompose; (repeat' split) <;> simp
@[simp] theorem recompose_link : (recompose s).link = s.link := by unfold recompose; (repeat' split) <;> simp
@[simp] theorem recompose_hub : (recompose s).hub = s.hub := by unfold recompose; (repeat' split) <;> simp
@[simp] theorem recompose_loader : (recompose s).loader = s.loader := by unfold recompose; (repeat' split) <;> simp
@[simp] theorem recompose_free : (recompose s).free = s.free := by unfold recompose; (repeat' split) <;> simp
@[simp] theorem recompose_pending : (recompose s).pending = s.pending := by unfold recompose; (repeat' split) <;> simp

@[simp] theorem reportChange_now (f : View → Bool) : (reportChange f s).now = s.now := by unfold reportChange; (repeat' split) <;> simp
@[simp] theorem reportChange_ports (f : View → Bool) : (reportChange f s).ports = s.ports := by unfold reportChange; (repeat' split) <;> simp
@[simp] theorem reportChange_stamper (f : View → Bool) : (reportChange f s).stamper = s.stamper := by unfold reportChange; (repeat' split) <;> simp
@[simp] theorem reportChange_seats (f : View → Bool) : (reportChange f s).seats = s.seats := by unfold reportChange; (repeat' split) <;> simp
@[simp] theorem reportChange_teams (f : View → Bool) : (reportChange f s).teams = s.teams := by unfold reportChange; (repeat' split) <;> simp
@[simp] theorem reportChange_questions (f : View → Bool) : (reportChange f s).questions = s.questions := by unfold reportChange; (repeat' split) <;> simp
@[simp] theorem reportChange_cues (f : View → Bool) : (reportChange f s).cues = s.cues := by unfold reportChange; (repeat' split) <;> simp
@[simp] theorem reportChange_round (f : View → Bool) : (reportChange f s).round = s.round := by unfold reportChange; (repeat' split) <;> simp
@[simp] theorem reportChange_resp (f : View → Bool) : (reportChange f s).resp = s.resp := by unfold reportChange; (repeat' split) <;> simp
@[simp] theorem reportChange_buzz (f : View → Bool) : (reportChange f s).buzz = s.buzz := by unfold reportChange; (repeat' split) <;> simp
@[simp] theorem reportChange_score (f : View → Bool) : (reportChange f s).score = s.score := by unfold reportChange; (repeat' split) <;> simp
@[simp] theorem reportChange_sorter (f : View → Bool) : (reportChange f s).sorter = s.sorter := by unfold reportChange; (repeat' split) <;> simp
@[simp] theorem reportChange_link (f : View → Bool) : (reportChange f s).link = s.link := by unfold reportChange; (repeat' split) <;> simp
@[simp] theorem reportChange_hub (f : View → Bool) : (reportChange f s).hub = s.hub := by unfold reportChange; (repeat' split) <;> simp
@[simp] theorem reportChange_loader (f : View → Bool) : (reportChange f s).loader = s.loader := by unfold reportChange; (repeat' split) <;> simp
@[simp] theorem reportChange_free (f : View → Bool) : (reportChange f s).free = s.free := by unfold reportChange; (repeat' split) <;> simp
@[simp] theorem reportChange_pending (f : View → Bool) : (reportChange f s).pending = s.pending := by unfold reportChange; (repeat' split) <;> simp

@[simp] theorem reportTallies_now : (reportTallies s).now = s.now := by unfold reportTallies; simp
@[simp] theorem reportTallies_ports : (reportTallies s).ports = s.ports := by unfold reportTallies; simp
@[simp] theorem reportTallies_stamper : (reportTallies s).stamper = s.stamper := by unfold reportTallies; simp
@[simp] theorem reportTallies_seats : (reportTallies s).seats = s.seats := by unfold reportTallies; simp
@[simp] theorem reportTallies_teams : (reportTallies s).teams = s.teams := by unfold reportTallies; simp
@[simp] theorem reportTallies_questions : (reportTallies s).questions = s.questions := by unfold reportTallies; simp
@[simp] theorem reportTallies_cues : (reportTallies s).cues = s.cues := by unfold reportTallies; simp
@[simp] theorem reportTallies_round : (reportTallies s).round = s.round := by unfold reportTallies; simp
@[simp] theorem reportTallies_resp : (reportTallies s).resp = s.resp := by unfold reportTallies; simp
@[simp] theorem reportTallies_buzz : (reportTallies s).buzz = s.buzz := by unfold reportTallies; simp
@[simp] theorem reportTallies_score : (reportTallies s).score = s.score := by unfold reportTallies; simp
@[simp] theorem reportTallies_sorter : (reportTallies s).sorter = s.sorter := by unfold reportTallies; simp
@[simp] theorem reportTallies_link : (reportTallies s).link = s.link := by unfold reportTallies; simp
@[simp] theorem reportTallies_hub : (reportTallies s).hub = s.hub := by unfold reportTallies; simp
@[simp] theorem reportTallies_loader : (reportTallies s).loader = s.loader := by unfold reportTallies; simp
@[simp] theorem reportTallies_free : (reportTallies s).free = s.free := by unfold reportTallies; simp
@[simp] theorem reportTallies_pending : (reportTallies s).pending = s.pending := by unfold reportTallies; simp

@[simp] theorem reportBuzz_now : (reportBuzz s).now = s.now := by unfold reportBuzz; simp
@[simp] theorem reportBuzz_ports : (reportBuzz s).ports = s.ports := by unfold reportBuzz; simp
@[simp] theorem reportBuzz_stamper : (reportBuzz s).stamper = s.stamper := by unfold reportBuzz; simp
@[simp] theorem reportBuzz_seats : (reportBuzz s).seats = s.seats := by unfold reportBuzz; simp
@[simp] theorem reportBuzz_teams : (reportBuzz s).teams = s.teams := by unfold reportBuzz; simp
@[simp] theorem reportBuzz_questions : (reportBuzz s).questions = s.questions := by unfold reportBuzz; simp
@[simp] theorem reportBuzz_cues : (reportBuzz s).cues = s.cues := by unfold reportBuzz; simp
@[simp] theorem reportBuzz_round : (reportBuzz s).round = s.round := by unfold reportBuzz; simp
@[simp] theorem reportBuzz_resp : (reportBuzz s).resp = s.resp := by unfold reportBuzz; simp
@[simp] theorem reportBuzz_buzz : (reportBuzz s).buzz = s.buzz := by unfold reportBuzz; simp
@[simp] theorem reportBuzz_score : (reportBuzz s).score = s.score := by unfold reportBuzz; simp
@[simp] theorem reportBuzz_sorter : (reportBuzz s).sorter = s.sorter := by unfold reportBuzz; simp
@[simp] theorem reportBuzz_link : (reportBuzz s).link = s.link := by unfold reportBuzz; simp
@[simp] theorem reportBuzz_hub : (reportBuzz s).hub = s.hub := by unfold reportBuzz; simp
@[simp] theorem reportBuzz_loader : (reportBuzz s).loader = s.loader := by unfold reportBuzz; simp
@[simp] theorem reportBuzz_free : (reportBuzz s).free = s.free := by unfold reportBuzz; simp
@[simp] theorem reportBuzz_pending : (reportBuzz s).pending = s.pending := by unfold reportBuzz; simp

@[simp] theorem placeBurst_now (v : ViewImage) (r : Option Byte) : (placeBurst v r s).now = s.now := by unfold placeBurst; simp
@[simp] theorem placeBurst_ports (v : ViewImage) (r : Option Byte) : (placeBurst v r s).ports = s.ports := by unfold placeBurst; simp
@[simp] theorem placeBurst_stamper (v : ViewImage) (r : Option Byte) : (placeBurst v r s).stamper = s.stamper := by unfold placeBurst; simp
@[simp] theorem placeBurst_seats (v : ViewImage) (r : Option Byte) : (placeBurst v r s).seats = s.seats := by unfold placeBurst; simp
@[simp] theorem placeBurst_teams (v : ViewImage) (r : Option Byte) : (placeBurst v r s).teams = s.teams := by unfold placeBurst; simp
@[simp] theorem placeBurst_questions (v : ViewImage) (r : Option Byte) : (placeBurst v r s).questions = s.questions := by unfold placeBurst; simp
@[simp] theorem placeBurst_cues (v : ViewImage) (r : Option Byte) : (placeBurst v r s).cues = s.cues := by unfold placeBurst; simp
@[simp] theorem placeBurst_round (v : ViewImage) (r : Option Byte) : (placeBurst v r s).round = s.round := by unfold placeBurst; simp
@[simp] theorem placeBurst_resp (v : ViewImage) (r : Option Byte) : (placeBurst v r s).resp = s.resp := by unfold placeBurst; simp
@[simp] theorem placeBurst_buzz (v : ViewImage) (r : Option Byte) : (placeBurst v r s).buzz = s.buzz := by unfold placeBurst; simp
@[simp] theorem placeBurst_score (v : ViewImage) (r : Option Byte) : (placeBurst v r s).score = s.score := by unfold placeBurst; simp
@[simp] theorem placeBurst_sorter (v : ViewImage) (r : Option Byte) : (placeBurst v r s).sorter = s.sorter := by unfold placeBurst; simp
@[simp] theorem placeBurst_comp (v : ViewImage) (r : Option Byte) : (placeBurst v r s).comp = s.comp := by unfold placeBurst; simp
@[simp] theorem placeBurst_hub (v : ViewImage) (r : Option Byte) : (placeBurst v r s).hub = s.hub := by unfold placeBurst; simp
@[simp] theorem placeBurst_loader (v : ViewImage) (r : Option Byte) : (placeBurst v r s).loader = s.loader := by unfold placeBurst; simp
@[simp] theorem placeBurst_free (v : ViewImage) (r : Option Byte) : (placeBurst v r s).free = s.free := by unfold placeBurst; simp
@[simp] theorem placeBurst_pending (v : ViewImage) (r : Option Byte) : (placeBurst v r s).pending = s.pending := by unfold placeBurst; simp

@[simp] theorem placeCurtainBlank_now (r : Option Byte) : (placeCurtainBlank r s).now = s.now := by unfold placeCurtainBlank; simp
@[simp] theorem placeCurtainBlank_ports (r : Option Byte) : (placeCurtainBlank r s).ports = s.ports := by unfold placeCurtainBlank; simp
@[simp] theorem placeCurtainBlank_stamper (r : Option Byte) : (placeCurtainBlank r s).stamper = s.stamper := by unfold placeCurtainBlank; simp
@[simp] theorem placeCurtainBlank_seats (r : Option Byte) : (placeCurtainBlank r s).seats = s.seats := by unfold placeCurtainBlank; simp
@[simp] theorem placeCurtainBlank_teams (r : Option Byte) : (placeCurtainBlank r s).teams = s.teams := by unfold placeCurtainBlank; simp
@[simp] theorem placeCurtainBlank_questions (r : Option Byte) : (placeCurtainBlank r s).questions = s.questions := by unfold placeCurtainBlank; simp
@[simp] theorem placeCurtainBlank_cues (r : Option Byte) : (placeCurtainBlank r s).cues = s.cues := by unfold placeCurtainBlank; simp
@[simp] theorem placeCurtainBlank_round (r : Option Byte) : (placeCurtainBlank r s).round = s.round := by unfold placeCurtainBlank; simp
@[simp] theorem placeCurtainBlank_resp (r : Option Byte) : (placeCurtainBlank r s).resp = s.resp := by unfold placeCurtainBlank; simp
@[simp] theorem placeCurtainBlank_buzz (r : Option Byte) : (placeCurtainBlank r s).buzz = s.buzz := by unfold placeCurtainBlank; simp
@[simp] theorem placeCurtainBlank_score (r : Option Byte) : (placeCurtainBlank r s).score = s.score := by unfold placeCurtainBlank; simp
@[simp] theorem placeCurtainBlank_sorter (r : Option Byte) : (placeCurtainBlank r s).sorter = s.sorter := by unfold placeCurtainBlank; simp
@[simp] theorem placeCurtainBlank_comp (r : Option Byte) : (placeCurtainBlank r s).comp = s.comp := by unfold placeCurtainBlank; simp
@[simp] theorem placeCurtainBlank_hub (r : Option Byte) : (placeCurtainBlank r s).hub = s.hub := by unfold placeCurtainBlank; simp
@[simp] theorem placeCurtainBlank_loader (r : Option Byte) : (placeCurtainBlank r s).loader = s.loader := by unfold placeCurtainBlank; simp
@[simp] theorem placeCurtainBlank_pending (r : Option Byte) : (placeCurtainBlank r s).pending = s.pending := by unfold placeCurtainBlank; simp

@[simp] theorem startRanking_now : (startRanking s).now = s.now := by unfold startRanking; simp
@[simp] theorem startRanking_ports : (startRanking s).ports = s.ports := by unfold startRanking; simp
@[simp] theorem startRanking_stamper : (startRanking s).stamper = s.stamper := by unfold startRanking; simp
@[simp] theorem startRanking_seats : (startRanking s).seats = s.seats := by unfold startRanking; simp
@[simp] theorem startRanking_teams : (startRanking s).teams = s.teams := by unfold startRanking; simp
@[simp] theorem startRanking_questions : (startRanking s).questions = s.questions := by unfold startRanking; simp
@[simp] theorem startRanking_cues : (startRanking s).cues = s.cues := by unfold startRanking; simp
@[simp] theorem startRanking_round : (startRanking s).round = s.round := by unfold startRanking; simp
@[simp] theorem startRanking_resp : (startRanking s).resp = s.resp := by unfold startRanking; simp
@[simp] theorem startRanking_buzz : (startRanking s).buzz = s.buzz := by unfold startRanking; simp
@[simp] theorem startRanking_score : (startRanking s).score = s.score := by unfold startRanking; simp
@[simp] theorem startRanking_comp : (startRanking s).comp = s.comp := by unfold startRanking; simp
@[simp] theorem startRanking_link : (startRanking s).link = s.link := by unfold startRanking; simp
@[simp] theorem startRanking_hub : (startRanking s).hub = s.hub := by unfold startRanking; simp
@[simp] theorem startRanking_loader : (startRanking s).loader = s.loader := by unfold startRanking; simp
@[simp] theorem startRanking_free : (startRanking s).free = s.free := by unfold startRanking; simp
@[simp] theorem startRanking_pending : (startRanking s).pending = s.pending := by unfold startRanking; simp

@[simp] theorem triggerRanking_now : (triggerRanking s).now = s.now := by unfold triggerRanking; (repeat' split) <;> simp
@[simp] theorem triggerRanking_ports : (triggerRanking s).ports = s.ports := by unfold triggerRanking; (repeat' split) <;> simp
@[simp] theorem triggerRanking_stamper : (triggerRanking s).stamper = s.stamper := by unfold triggerRanking; (repeat' split) <;> simp
@[simp] theorem triggerRanking_seats : (triggerRanking s).seats = s.seats := by unfold triggerRanking; (repeat' split) <;> simp
@[simp] theorem triggerRanking_teams : (triggerRanking s).teams = s.teams := by unfold triggerRanking; (repeat' split) <;> simp
@[simp] theorem triggerRanking_questions : (triggerRanking s).questions = s.questions := by unfold triggerRanking; (repeat' split) <;> simp
@[simp] theorem triggerRanking_cues : (triggerRanking s).cues = s.cues := by unfold triggerRanking; (repeat' split) <;> simp
@[simp] theorem triggerRanking_round : (triggerRanking s).round = s.round := by unfold triggerRanking; (repeat' split) <;> simp
@[simp] theorem triggerRanking_resp : (triggerRanking s).resp = s.resp := by unfold triggerRanking; (repeat' split) <;> simp
@[simp] theorem triggerRanking_buzz : (triggerRanking s).buzz = s.buzz := by unfold triggerRanking; (repeat' split) <;> simp
@[simp] theorem triggerRanking_score : (triggerRanking s).score = s.score := by unfold triggerRanking; (repeat' split) <;> simp
@[simp] theorem triggerRanking_comp : (triggerRanking s).comp = s.comp := by unfold triggerRanking; (repeat' split) <;> simp
@[simp] theorem triggerRanking_link : (triggerRanking s).link = s.link := by unfold triggerRanking; (repeat' split) <;> simp
@[simp] theorem triggerRanking_hub : (triggerRanking s).hub = s.hub := by unfold triggerRanking; (repeat' split) <;> simp
@[simp] theorem triggerRanking_loader : (triggerRanking s).loader = s.loader := by unfold triggerRanking; (repeat' split) <;> simp
@[simp] theorem triggerRanking_free : (triggerRanking s).free = s.free := by unfold triggerRanking; (repeat' split) <;> simp
@[simp] theorem triggerRanking_pending : (triggerRanking s).pending = s.pending := by unfold triggerRanking; (repeat' split) <;> simp

@[simp] theorem sendBurst_now (b : Burst) : (sendBurst b s).now = s.now := by unfold sendBurst; simp
@[simp] theorem sendBurst_ports (b : Burst) : (sendBurst b s).ports = s.ports := by unfold sendBurst; simp
@[simp] theorem sendBurst_stamper (b : Burst) : (sendBurst b s).stamper = s.stamper := by unfold sendBurst; simp
@[simp] theorem sendBurst_seats (b : Burst) : (sendBurst b s).seats = s.seats := by unfold sendBurst; simp
@[simp] theorem sendBurst_teams (b : Burst) : (sendBurst b s).teams = s.teams := by unfold sendBurst; simp
@[simp] theorem sendBurst_questions (b : Burst) : (sendBurst b s).questions = s.questions := by unfold sendBurst; simp
@[simp] theorem sendBurst_cues (b : Burst) : (sendBurst b s).cues = s.cues := by unfold sendBurst; simp
@[simp] theorem sendBurst_round (b : Burst) : (sendBurst b s).round = s.round := by unfold sendBurst; simp
@[simp] theorem sendBurst_resp (b : Burst) : (sendBurst b s).resp = s.resp := by unfold sendBurst; simp
@[simp] theorem sendBurst_buzz (b : Burst) : (sendBurst b s).buzz = s.buzz := by unfold sendBurst; simp
@[simp] theorem sendBurst_score (b : Burst) : (sendBurst b s).score = s.score := by unfold sendBurst; simp
@[simp] theorem sendBurst_sorter (b : Burst) : (sendBurst b s).sorter = s.sorter := by unfold sendBurst; simp
@[simp] theorem sendBurst_comp (b : Burst) : (sendBurst b s).comp = s.comp := by unfold sendBurst; simp
@[simp] theorem sendBurst_hub (b : Burst) : (sendBurst b s).hub = s.hub := by unfold sendBurst; simp
@[simp] theorem sendBurst_loader (b : Burst) : (sendBurst b s).loader = s.loader := by unfold sendBurst; simp
@[simp] theorem sendBurst_pending (b : Burst) : (sendBurst b s).pending = s.pending := by unfold sendBurst; simp

@[simp] theorem sendPassed_now (f : Frame) (q : List Frame) : (sendPassed f q s).now = s.now := by unfold sendPassed; simp
@[simp] theorem sendPassed_ports (f : Frame) (q : List Frame) : (sendPassed f q s).ports = s.ports := by unfold sendPassed; simp
@[simp] theorem sendPassed_stamper (f : Frame) (q : List Frame) : (sendPassed f q s).stamper = s.stamper := by unfold sendPassed; simp
@[simp] theorem sendPassed_seats (f : Frame) (q : List Frame) : (sendPassed f q s).seats = s.seats := by unfold sendPassed; simp
@[simp] theorem sendPassed_teams (f : Frame) (q : List Frame) : (sendPassed f q s).teams = s.teams := by unfold sendPassed; simp
@[simp] theorem sendPassed_questions (f : Frame) (q : List Frame) : (sendPassed f q s).questions = s.questions := by unfold sendPassed; simp
@[simp] theorem sendPassed_cues (f : Frame) (q : List Frame) : (sendPassed f q s).cues = s.cues := by unfold sendPassed; simp
@[simp] theorem sendPassed_round (f : Frame) (q : List Frame) : (sendPassed f q s).round = s.round := by unfold sendPassed; simp
@[simp] theorem sendPassed_resp (f : Frame) (q : List Frame) : (sendPassed f q s).resp = s.resp := by unfold sendPassed; simp
@[simp] theorem sendPassed_buzz (f : Frame) (q : List Frame) : (sendPassed f q s).buzz = s.buzz := by unfold sendPassed; simp
@[simp] theorem sendPassed_score (f : Frame) (q : List Frame) : (sendPassed f q s).score = s.score := by unfold sendPassed; simp
@[simp] theorem sendPassed_sorter (f : Frame) (q : List Frame) : (sendPassed f q s).sorter = s.sorter := by unfold sendPassed; simp
@[simp] theorem sendPassed_comp (f : Frame) (q : List Frame) : (sendPassed f q s).comp = s.comp := by unfold sendPassed; simp
@[simp] theorem sendPassed_hub (f : Frame) (q : List Frame) : (sendPassed f q s).hub = s.hub := by unfold sendPassed; simp
@[simp] theorem sendPassed_loader (f : Frame) (q : List Frame) : (sendPassed f q s).loader = s.loader := by unfold sendPassed; simp
@[simp] theorem sendPassed_free (f : Frame) (q : List Frame) : (sendPassed f q s).free = s.free := by unfold sendPassed; simp
@[simp] theorem sendPassed_pending (f : Frame) (q : List Frame) : (sendPassed f q s).pending = s.pending := by unfold sendPassed; simp

@[simp] theorem wallChoose_now : (wallChoose s).now = s.now := by unfold wallChoose; (repeat' split) <;> simp
@[simp] theorem wallChoose_ports : (wallChoose s).ports = s.ports := by unfold wallChoose; (repeat' split) <;> simp
@[simp] theorem wallChoose_stamper : (wallChoose s).stamper = s.stamper := by unfold wallChoose; (repeat' split) <;> simp
@[simp] theorem wallChoose_seats : (wallChoose s).seats = s.seats := by unfold wallChoose; (repeat' split) <;> simp
@[simp] theorem wallChoose_teams : (wallChoose s).teams = s.teams := by unfold wallChoose; (repeat' split) <;> simp
@[simp] theorem wallChoose_questions : (wallChoose s).questions = s.questions := by unfold wallChoose; (repeat' split) <;> simp
@[simp] theorem wallChoose_cues : (wallChoose s).cues = s.cues := by unfold wallChoose; (repeat' split) <;> simp
@[simp] theorem wallChoose_round : (wallChoose s).round = s.round := by unfold wallChoose; (repeat' split) <;> simp
@[simp] theorem wallChoose_resp : (wallChoose s).resp = s.resp := by unfold wallChoose; (repeat' split) <;> simp
@[simp] theorem wallChoose_buzz : (wallChoose s).buzz = s.buzz := by unfold wallChoose; (repeat' split) <;> simp
@[simp] theorem wallChoose_score : (wallChoose s).score = s.score := by unfold wallChoose; (repeat' split) <;> simp
@[simp] theorem wallChoose_sorter : (wallChoose s).sorter = s.sorter := by unfold wallChoose; (repeat' split) <;> simp
@[simp] theorem wallChoose_comp : (wallChoose s).comp = s.comp := by unfold wallChoose; (repeat' split) <;> simp
@[simp] theorem wallChoose_hub : (wallChoose s).hub = s.hub := by unfold wallChoose; (repeat' split) <;> simp
@[simp] theorem wallChoose_loader : (wallChoose s).loader = s.loader := by unfold wallChoose; (repeat' split) <;> simp
@[simp] theorem wallChoose_pending : (wallChoose s).pending = s.pending := by unfold wallChoose; (repeat' split) <;> simp

@[simp] theorem consoleChoose_now : (consoleChoose s).now = s.now := by unfold consoleChoose; (repeat' split) <;> simp
@[simp] theorem consoleChoose_ports : (consoleChoose s).ports = s.ports := by unfold consoleChoose; (repeat' split) <;> simp
@[simp] theorem consoleChoose_stamper : (consoleChoose s).stamper = s.stamper := by unfold consoleChoose; (repeat' split) <;> simp
@[simp] theorem consoleChoose_seats : (consoleChoose s).seats = s.seats := by unfold consoleChoose; (repeat' split) <;> simp
@[simp] theorem consoleChoose_teams : (consoleChoose s).teams = s.teams := by unfold consoleChoose; (repeat' split) <;> simp
@[simp] theorem consoleChoose_questions : (consoleChoose s).questions = s.questions := by unfold consoleChoose; (repeat' split) <;> simp
@[simp] theorem consoleChoose_cues : (consoleChoose s).cues = s.cues := by unfold consoleChoose; (repeat' split) <;> simp
@[simp] theorem consoleChoose_round : (consoleChoose s).round = s.round := by unfold consoleChoose; (repeat' split) <;> simp
@[simp] theorem consoleChoose_resp : (consoleChoose s).resp = s.resp := by unfold consoleChoose; (repeat' split) <;> simp
@[simp] theorem consoleChoose_buzz : (consoleChoose s).buzz = s.buzz := by unfold consoleChoose; (repeat' split) <;> simp
@[simp] theorem consoleChoose_score : (consoleChoose s).score = s.score := by unfold consoleChoose; (repeat' split) <;> simp
@[simp] theorem consoleChoose_sorter : (consoleChoose s).sorter = s.sorter := by unfold consoleChoose; (repeat' split) <;> simp
@[simp] theorem consoleChoose_comp : (consoleChoose s).comp = s.comp := by unfold consoleChoose; (repeat' split) <;> simp
@[simp] theorem consoleChoose_loader : (consoleChoose s).loader = s.loader := by unfold consoleChoose; (repeat' split) <;> simp
@[simp] theorem consoleChoose_pending : (consoleChoose s).pending = s.pending := by unfold consoleChoose; (repeat' split) <;> simp

@[simp] theorem settleLinks_now : (settleLinks s).now = s.now := by unfold settleLinks; simp
@[simp] theorem settleLinks_ports : (settleLinks s).ports = s.ports := by unfold settleLinks; simp
@[simp] theorem settleLinks_stamper : (settleLinks s).stamper = s.stamper := by unfold settleLinks; simp
@[simp] theorem settleLinks_seats : (settleLinks s).seats = s.seats := by unfold settleLinks; simp
@[simp] theorem settleLinks_teams : (settleLinks s).teams = s.teams := by unfold settleLinks; simp
@[simp] theorem settleLinks_questions : (settleLinks s).questions = s.questions := by unfold settleLinks; simp
@[simp] theorem settleLinks_cues : (settleLinks s).cues = s.cues := by unfold settleLinks; simp
@[simp] theorem settleLinks_round : (settleLinks s).round = s.round := by unfold settleLinks; simp
@[simp] theorem settleLinks_resp : (settleLinks s).resp = s.resp := by unfold settleLinks; simp
@[simp] theorem settleLinks_buzz : (settleLinks s).buzz = s.buzz := by unfold settleLinks; simp
@[simp] theorem settleLinks_score : (settleLinks s).score = s.score := by unfold settleLinks; simp
@[simp] theorem settleLinks_sorter : (settleLinks s).sorter = s.sorter := by unfold settleLinks; simp
@[simp] theorem settleLinks_comp : (settleLinks s).comp = s.comp := by unfold settleLinks; simp
@[simp] theorem settleLinks_loader : (settleLinks s).loader = s.loader := by unfold settleLinks; simp
@[simp] theorem settleLinks_pending : (settleLinks s).pending = s.pending := by unfold settleLinks; simp

@[simp] theorem placeReply_now (p : List Byte) (st : Status) (b : List Byte) : (placeReply p st b s).now = s.now := by unfold placeReply; simp
@[simp] theorem placeReply_ports (p : List Byte) (st : Status) (b : List Byte) : (placeReply p st b s).ports = s.ports := by unfold placeReply; simp
@[simp] theorem placeReply_stamper (p : List Byte) (st : Status) (b : List Byte) : (placeReply p st b s).stamper = s.stamper := by unfold placeReply; simp
@[simp] theorem placeReply_seats (p : List Byte) (st : Status) (b : List Byte) : (placeReply p st b s).seats = s.seats := by unfold placeReply; simp
@[simp] theorem placeReply_teams (p : List Byte) (st : Status) (b : List Byte) : (placeReply p st b s).teams = s.teams := by unfold placeReply; simp
@[simp] theorem placeReply_questions (p : List Byte) (st : Status) (b : List Byte) : (placeReply p st b s).questions = s.questions := by unfold placeReply; simp
@[simp] theorem placeReply_cues (p : List Byte) (st : Status) (b : List Byte) : (placeReply p st b s).cues = s.cues := by unfold placeReply; simp
@[simp] theorem placeReply_round (p : List Byte) (st : Status) (b : List Byte) : (placeReply p st b s).round = s.round := by unfold placeReply; simp
@[simp] theorem placeReply_resp (p : List Byte) (st : Status) (b : List Byte) : (placeReply p st b s).resp = s.resp := by unfold placeReply; simp
@[simp] theorem placeReply_buzz (p : List Byte) (st : Status) (b : List Byte) : (placeReply p st b s).buzz = s.buzz := by unfold placeReply; simp
@[simp] theorem placeReply_score (p : List Byte) (st : Status) (b : List Byte) : (placeReply p st b s).score = s.score := by unfold placeReply; simp
@[simp] theorem placeReply_sorter (p : List Byte) (st : Status) (b : List Byte) : (placeReply p st b s).sorter = s.sorter := by unfold placeReply; simp
@[simp] theorem placeReply_comp (p : List Byte) (st : Status) (b : List Byte) : (placeReply p st b s).comp = s.comp := by unfold placeReply; simp
@[simp] theorem placeReply_hub (p : List Byte) (st : Status) (b : List Byte) : (placeReply p st b s).hub = s.hub := by unfold placeReply; simp
@[simp] theorem placeReply_loader (p : List Byte) (st : Status) (b : List Byte) : (placeReply p st b s).loader = s.loader := by unfold placeReply; simp
@[simp] theorem placeReply_free (p : List Byte) (st : Status) (b : List Byte) : (placeReply p st b s).free = s.free := by unfold placeReply; simp
@[simp] theorem placeReply_pending (p : List Byte) (st : Status) (b : List Byte) : (placeReply p st b s).pending = s.pending := by unfold placeReply; simp

@[simp] theorem nextRequest_now : (nextRequest s).now = s.now := by unfold nextRequest; (repeat' split) <;> simp
@[simp] theorem nextRequest_ports : (nextRequest s).ports = s.ports := by unfold nextRequest; (repeat' split) <;> simp
@[simp] theorem nextRequest_stamper : (nextRequest s).stamper = s.stamper := by unfold nextRequest; (repeat' split) <;> simp
@[simp] theorem nextRequest_seats : (nextRequest s).seats = s.seats := by unfold nextRequest; (repeat' split) <;> simp
@[simp] theorem nextRequest_teams : (nextRequest s).teams = s.teams := by unfold nextRequest; (repeat' split) <;> simp
@[simp] theorem nextRequest_questions : (nextRequest s).questions = s.questions := by unfold nextRequest; (repeat' split) <;> simp
@[simp] theorem nextRequest_cues : (nextRequest s).cues = s.cues := by unfold nextRequest; (repeat' split) <;> simp
@[simp] theorem nextRequest_round : (nextRequest s).round = s.round := by unfold nextRequest; (repeat' split) <;> simp
@[simp] theorem nextRequest_resp : (nextRequest s).resp = s.resp := by unfold nextRequest; (repeat' split) <;> simp
@[simp] theorem nextRequest_buzz : (nextRequest s).buzz = s.buzz := by unfold nextRequest; (repeat' split) <;> simp
@[simp] theorem nextRequest_score : (nextRequest s).score = s.score := by unfold nextRequest; (repeat' split) <;> simp
@[simp] theorem nextRequest_sorter : (nextRequest s).sorter = s.sorter := by unfold nextRequest; (repeat' split) <;> simp
@[simp] theorem nextRequest_comp : (nextRequest s).comp = s.comp := by unfold nextRequest; (repeat' split) <;> simp
@[simp] theorem nextRequest_link : (nextRequest s).link = s.link := by unfold nextRequest; (repeat' split) <;> simp
@[simp] theorem nextRequest_loader : (nextRequest s).loader = s.loader := by unfold nextRequest; (repeat' split) <;> simp
@[simp] theorem nextRequest_free : (nextRequest s).free = s.free := by unfold nextRequest; (repeat' split) <;> simp
@[simp] theorem nextRequest_pending : (nextRequest s).pending = s.pending := by unfold nextRequest; (repeat' split) <;> simp

end Sys2Proof.Machine
end

