-- ==== Sys2Proof/Laws/SeatFrames.lean ====
section
/-! SUPPORT. What each operation of Machine/SeatOps.lean leaves unchanged: one simp lemma for each block that it does not touch. -/

namespace Sys2Proof.Machine

variable (s : State)

@[simp] theorem emptyFeedback_now (p : Fin 4) : (emptyFeedback p s).now = s.now := by unfold emptyFeedback; simp
@[simp] theorem emptyFeedback_stamper (p : Fin 4) : (emptyFeedback p s).stamper = s.stamper := by unfold emptyFeedback; simp
@[simp] theorem emptyFeedback_teams (p : Fin 4) : (emptyFeedback p s).teams = s.teams := by unfold emptyFeedback; simp
@[simp] theorem emptyFeedback_questions (p : Fin 4) : (emptyFeedback p s).questions = s.questions := by unfold emptyFeedback; simp
@[simp] theorem emptyFeedback_cues (p : Fin 4) : (emptyFeedback p s).cues = s.cues := by unfold emptyFeedback; simp
@[simp] theorem emptyFeedback_round (p : Fin 4) : (emptyFeedback p s).round = s.round := by unfold emptyFeedback; simp
@[simp] theorem emptyFeedback_resp (p : Fin 4) : (emptyFeedback p s).resp = s.resp := by unfold emptyFeedback; simp
@[simp] theorem emptyFeedback_buzz (p : Fin 4) : (emptyFeedback p s).buzz = s.buzz := by unfold emptyFeedback; simp
@[simp] theorem emptyFeedback_score (p : Fin 4) : (emptyFeedback p s).score = s.score := by unfold emptyFeedback; simp
@[simp] theorem emptyFeedback_sorter (p : Fin 4) : (emptyFeedback p s).sorter = s.sorter := by unfold emptyFeedback; simp
@[simp] theorem emptyFeedback_comp (p : Fin 4) : (emptyFeedback p s).comp = s.comp := by unfold emptyFeedback; simp
@[simp] theorem emptyFeedback_link (p : Fin 4) : (emptyFeedback p s).link = s.link := by unfold emptyFeedback; simp
@[simp] theorem emptyFeedback_hub (p : Fin 4) : (emptyFeedback p s).hub = s.hub := by unfold emptyFeedback; simp
@[simp] theorem emptyFeedback_loader (p : Fin 4) : (emptyFeedback p s).loader = s.loader := by unfold emptyFeedback; simp
@[simp] theorem emptyFeedback_free (p : Fin 4) : (emptyFeedback p s).free = s.free := by unfold emptyFeedback; simp
@[simp] theorem emptyFeedback_pending (p : Fin 4) : (emptyFeedback p s).pending = s.pending := by unfold emptyFeedback; simp

@[simp] theorem startLampSweep_now (p : Fin 4) : (startLampSweep p s).now = s.now := by unfold startLampSweep; simp
@[simp] theorem startLampSweep_stamper (p : Fin 4) : (startLampSweep p s).stamper = s.stamper := by unfold startLampSweep; simp
@[simp] theorem startLampSweep_teams (p : Fin 4) : (startLampSweep p s).teams = s.teams := by unfold startLampSweep; simp
@[simp] theorem startLampSweep_questions (p : Fin 4) : (startLampSweep p s).questions = s.questions := by unfold startLampSweep; simp
@[simp] theorem startLampSweep_cues (p : Fin 4) : (startLampSweep p s).cues = s.cues := by unfold startLampSweep; simp
@[simp] theorem startLampSweep_round (p : Fin 4) : (startLampSweep p s).round = s.round := by unfold startLampSweep; simp
@[simp] theorem startLampSweep_resp (p : Fin 4) : (startLampSweep p s).resp = s.resp := by unfold startLampSweep; simp
@[simp] theorem startLampSweep_buzz (p : Fin 4) : (startLampSweep p s).buzz = s.buzz := by unfold startLampSweep; simp
@[simp] theorem startLampSweep_score (p : Fin 4) : (startLampSweep p s).score = s.score := by unfold startLampSweep; simp
@[simp] theorem startLampSweep_sorter (p : Fin 4) : (startLampSweep p s).sorter = s.sorter := by unfold startLampSweep; simp
@[simp] theorem startLampSweep_comp (p : Fin 4) : (startLampSweep p s).comp = s.comp := by unfold startLampSweep; simp
@[simp] theorem startLampSweep_link (p : Fin 4) : (startLampSweep p s).link = s.link := by unfold startLampSweep; simp
@[simp] theorem startLampSweep_hub (p : Fin 4) : (startLampSweep p s).hub = s.hub := by unfold startLampSweep; simp
@[simp] theorem startLampSweep_loader (p : Fin 4) : (startLampSweep p s).loader = s.loader := by unfold startLampSweep; simp
@[simp] theorem startLampSweep_free (p : Fin 4) : (startLampSweep p s).free = s.free := by unfold startLampSweep; simp
@[simp] theorem startLampSweep_pending (p : Fin 4) : (startLampSweep p s).pending = s.pending := by unfold startLampSweep; simp

@[simp] theorem queueFeedback_now (k : Fin 256) : (queueFeedback k s).now = s.now := by simp [queueFeedback, apply_ite State.now]
@[simp] theorem queueFeedback_stamper (k : Fin 256) : (queueFeedback k s).stamper = s.stamper := by simp [queueFeedback, apply_ite State.stamper]
@[simp] theorem queueFeedback_teams (k : Fin 256) : (queueFeedback k s).teams = s.teams := by simp [queueFeedback, apply_ite State.teams]
@[simp] theorem queueFeedback_questions (k : Fin 256) : (queueFeedback k s).questions = s.questions := by simp [queueFeedback, apply_ite State.questions]
@[simp] theorem queueFeedback_cues (k : Fin 256) : (queueFeedback k s).cues = s.cues := by simp [queueFeedback, apply_ite State.cues]
@[simp] theorem queueFeedback_round (k : Fin 256) : (queueFeedback k s).round = s.round := by simp [queueFeedback, apply_ite State.round]
@[simp] theorem queueFeedback_resp (k : Fin 256) : (queueFeedback k s).resp = s.resp := by simp [queueFeedback, apply_ite State.resp]
@[simp] theorem queueFeedback_buzz (k : Fin 256) : (queueFeedback k s).buzz = s.buzz := by simp [queueFeedback, apply_ite State.buzz]
@[simp] theorem queueFeedback_score (k : Fin 256) : (queueFeedback k s).score = s.score := by simp [queueFeedback, apply_ite State.score]
@[simp] theorem queueFeedback_sorter (k : Fin 256) : (queueFeedback k s).sorter = s.sorter := by simp [queueFeedback, apply_ite State.sorter]
@[simp] theorem queueFeedback_comp (k : Fin 256) : (queueFeedback k s).comp = s.comp := by simp [queueFeedback, apply_ite State.comp]
@[simp] theorem queueFeedback_link (k : Fin 256) : (queueFeedback k s).link = s.link := by simp [queueFeedback, apply_ite State.link]
@[simp] theorem queueFeedback_hub (k : Fin 256) : (queueFeedback k s).hub = s.hub := by simp [queueFeedback, apply_ite State.hub]
@[simp] theorem queueFeedback_loader (k : Fin 256) : (queueFeedback k s).loader = s.loader := by simp [queueFeedback, apply_ite State.loader]
@[simp] theorem queueFeedback_free (k : Fin 256) : (queueFeedback k s).free = s.free := by simp [queueFeedback, apply_ite State.free]
@[simp] theorem queueFeedback_pending (k : Fin 256) : (queueFeedback k s).pending = s.pending := by simp [queueFeedback, apply_ite State.pending]

@[simp] theorem requestLamp_now (k : Fin 256) (x : Lamp) : (requestLamp k x s).now = s.now := by simp [requestLamp, apply_ite State.now]
@[simp] theorem requestLamp_stamper (k : Fin 256) (x : Lamp) : (requestLamp k x s).stamper = s.stamper := by simp [requestLamp, apply_ite State.stamper]
@[simp] theorem requestLamp_teams (k : Fin 256) (x : Lamp) : (requestLamp k x s).teams = s.teams := by simp [requestLamp, apply_ite State.teams]
@[simp] theorem requestLamp_questions (k : Fin 256) (x : Lamp) : (requestLamp k x s).questions = s.questions := by simp [requestLamp, apply_ite State.questions]
@[simp] theorem requestLamp_cues (k : Fin 256) (x : Lamp) : (requestLamp k x s).cues = s.cues := by simp [requestLamp, apply_ite State.cues]
@[simp] theorem requestLamp_round (k : Fin 256) (x : Lamp) : (requestLamp k x s).round = s.round := by simp [requestLamp, apply_ite State.round]
@[simp] theorem requestLamp_resp (k : Fin 256) (x : Lamp) : (requestLamp k x s).resp = s.resp := by simp [requestLamp, apply_ite State.resp]
@[simp] theorem requestLamp_buzz (k : Fin 256) (x : Lamp) : (requestLamp k x s).buzz = s.buzz := by simp [requestLamp, apply_ite State.buzz]
@[simp] theorem requestLamp_score (k : Fin 256) (x : Lamp) : (requestLamp k x s).score = s.score := by simp [requestLamp, apply_ite State.score]
@[simp] theorem requestLamp_sorter (k : Fin 256) (x : Lamp) : (requestLamp k x s).sorter = s.sorter := by simp [requestLamp, apply_ite State.sorter]
@[simp] theorem requestLamp_comp (k : Fin 256) (x : Lamp) : (requestLamp k x s).comp = s.comp := by simp [requestLamp, apply_ite State.comp]
@[simp] theorem requestLamp_link (k : Fin 256) (x : Lamp) : (requestLamp k x s).link = s.link := by simp [requestLamp, apply_ite State.link]
@[simp] theorem requestLamp_hub (k : Fin 256) (x : Lamp) : (requestLamp k x s).hub = s.hub := by simp [requestLamp, apply_ite State.hub]
@[simp] theorem requestLamp_loader (k : Fin 256) (x : Lamp) : (requestLamp k x s).loader = s.loader := by simp [requestLamp, apply_ite State.loader]
@[simp] theorem requestLamp_free (k : Fin 256) (x : Lamp) : (requestLamp k x s).free = s.free := by simp [requestLamp, apply_ite State.free]
@[simp] theorem requestLamp_pending (k : Fin 256) (x : Lamp) : (requestLamp k x s).pending = s.pending := by simp [requestLamp, apply_ite State.pending]

@[simp] theorem lampsOff_now (f : Lamp → Bool) : (lampsOff f s).now = s.now := by unfold lampsOff; simp
@[simp] theorem lampsOff_ports (f : Lamp → Bool) : (lampsOff f s).ports = s.ports := by unfold lampsOff; simp
@[simp] theorem lampsOff_stamper (f : Lamp → Bool) : (lampsOff f s).stamper = s.stamper := by unfold lampsOff; simp
@[simp] theorem lampsOff_teams (f : Lamp → Bool) : (lampsOff f s).teams = s.teams := by unfold lampsOff; simp
@[simp] theorem lampsOff_questions (f : Lamp → Bool) : (lampsOff f s).questions = s.questions := by unfold lampsOff; simp
@[simp] theorem lampsOff_cues (f : Lamp → Bool) : (lampsOff f s).cues = s.cues := by unfold lampsOff; simp
@[simp] theorem lampsOff_round (f : Lamp → Bool) : (lampsOff f s).round = s.round := by unfold lampsOff; simp
@[simp] theorem lampsOff_resp (f : Lamp → Bool) : (lampsOff f s).resp = s.resp := by unfold lampsOff; simp
@[simp] theorem lampsOff_buzz (f : Lamp → Bool) : (lampsOff f s).buzz = s.buzz := by unfold lampsOff; simp
@[simp] theorem lampsOff_score (f : Lamp → Bool) : (lampsOff f s).score = s.score := by unfold lampsOff; simp
@[simp] theorem lampsOff_sorter (f : Lamp → Bool) : (lampsOff f s).sorter = s.sorter := by unfold lampsOff; simp
@[simp] theorem lampsOff_comp (f : Lamp → Bool) : (lampsOff f s).comp = s.comp := by unfold lampsOff; simp
@[simp] theorem lampsOff_link (f : Lamp → Bool) : (lampsOff f s).link = s.link := by unfold lampsOff; simp
@[simp] theorem lampsOff_hub (f : Lamp → Bool) : (lampsOff f s).hub = s.hub := by unfold lampsOff; simp
@[simp] theorem lampsOff_loader (f : Lamp → Bool) : (lampsOff f s).loader = s.loader := by unfold lampsOff; simp
@[simp] theorem lampsOff_free (f : Lamp → Bool) : (lampsOff f s).free = s.free := by unfold lampsOff; simp
@[simp] theorem lampsOff_pending (f : Lamp → Bool) : (lampsOff f s).pending = s.pending := by unfold lampsOff; simp

@[simp] theorem setPresence_now (l : Bool) (k : Fin 256) (x : Seat) : (setPresence l k x s).now = s.now := by unfold setPresence; simp
@[simp] theorem setPresence_ports (l : Bool) (k : Fin 256) (x : Seat) : (setPresence l k x s).ports = s.ports := by unfold setPresence; simp
@[simp] theorem setPresence_stamper (l : Bool) (k : Fin 256) (x : Seat) : (setPresence l k x s).stamper = s.stamper := by unfold setPresence; simp
@[simp] theorem setPresence_teams (l : Bool) (k : Fin 256) (x : Seat) : (setPresence l k x s).teams = s.teams := by unfold setPresence; simp
@[simp] theorem setPresence_questions (l : Bool) (k : Fin 256) (x : Seat) : (setPresence l k x s).questions = s.questions := by unfold setPresence; simp
@[simp] theorem setPresence_cues (l : Bool) (k : Fin 256) (x : Seat) : (setPresence l k x s).cues = s.cues := by unfold setPresence; simp
@[simp] theorem setPresence_round (l : Bool) (k : Fin 256) (x : Seat) : (setPresence l k x s).round = s.round := by unfold setPresence; simp
@[simp] theorem setPresence_resp (l : Bool) (k : Fin 256) (x : Seat) : (setPresence l k x s).resp = s.resp := by unfold setPresence; simp
@[simp] theorem setPresence_buzz (l : Bool) (k : Fin 256) (x : Seat) : (setPresence l k x s).buzz = s.buzz := by unfold setPresence; simp
@[simp] theorem setPresence_score (l : Bool) (k : Fin 256) (x : Seat) : (setPresence l k x s).score = s.score := by unfold setPresence; simp
@[simp] theorem setPresence_sorter (l : Bool) (k : Fin 256) (x : Seat) : (setPresence l k x s).sorter = s.sorter := by unfold setPresence; simp
@[simp] theorem setPresence_comp (l : Bool) (k : Fin 256) (x : Seat) : (setPresence l k x s).comp = s.comp := by unfold setPresence; simp
@[simp] theorem setPresence_link (l : Bool) (k : Fin 256) (x : Seat) : (setPresence l k x s).link = s.link := by unfold setPresence; simp
@[simp] theorem setPresence_loader (l : Bool) (k : Fin 256) (x : Seat) : (setPresence l k x s).loader = s.loader := by unfold setPresence; simp
@[simp] theorem setPresence_free (l : Bool) (k : Fin 256) (x : Seat) : (setPresence l k x s).free = s.free := by unfold setPresence; simp
@[simp] theorem setPresence_pending (l : Bool) (k : Fin 256) (x : Seat) : (setPresence l k x s).pending = s.pending := by unfold setPresence; simp

@[simp] theorem reportCheck_now (a r : Bool) (k : Fin 256) : (reportCheck a r k s).now = s.now := by simp [reportCheck, apply_ite State.now]
@[simp] theorem reportCheck_ports (a r : Bool) (k : Fin 256) : (reportCheck a r k s).ports = s.ports := by simp [reportCheck, apply_ite State.ports]
@[simp] theorem reportCheck_stamper (a r : Bool) (k : Fin 256) : (reportCheck a r k s).stamper = s.stamper := by simp [reportCheck, apply_ite State.stamper]
@[simp] theorem reportCheck_teams (a r : Bool) (k : Fin 256) : (reportCheck a r k s).teams = s.teams := by simp [reportCheck, apply_ite State.teams]
@[simp] theorem reportCheck_questions (a r : Bool) (k : Fin 256) : (reportCheck a r k s).questions = s.questions := by simp [reportCheck, apply_ite State.questions]
@[simp] theorem reportCheck_cues (a r : Bool) (k : Fin 256) : (reportCheck a r k s).cues = s.cues := by simp [reportCheck, apply_ite State.cues]
@[simp] theorem reportCheck_round (a r : Bool) (k : Fin 256) : (reportCheck a r k s).round = s.round := by simp [reportCheck, apply_ite State.round]
@[simp] theorem reportCheck_resp (a r : Bool) (k : Fin 256) : (reportCheck a r k s).resp = s.resp := by simp [reportCheck, apply_ite State.resp]
@[simp] theorem reportCheck_buzz (a r : Bool) (k : Fin 256) : (reportCheck a r k s).buzz = s.buzz := by simp [reportCheck, apply_ite State.buzz]
@[simp] theorem reportCheck_score (a r : Bool) (k : Fin 256) : (reportCheck a r k s).score = s.score := by simp [reportCheck, apply_ite State.score]
@[simp] theorem reportCheck_sorter (a r : Bool) (k : Fin 256) : (reportCheck a r k s).sorter = s.sorter := by simp [reportCheck, apply_ite State.sorter]
@[simp] theorem reportCheck_comp (a r : Bool) (k : Fin 256) : (reportCheck a r k s).comp = s.comp := by simp [reportCheck, apply_ite State.comp]
@[simp] theorem reportCheck_link (a r : Bool) (k : Fin 256) : (reportCheck a r k s).link = s.link := by simp [reportCheck, apply_ite State.link]
@[simp] theorem reportCheck_loader (a r : Bool) (k : Fin 256) : (reportCheck a r k s).loader = s.loader := by simp [reportCheck, apply_ite State.loader]
@[simp] theorem reportCheck_free (a r : Bool) (k : Fin 256) : (reportCheck a r k s).free = s.free := by simp [reportCheck, apply_ite State.free]
@[simp] theorem reportCheck_pending (a r : Bool) (k : Fin 256) : (reportCheck a r k s).pending = s.pending := by simp [reportCheck, apply_ite State.pending]

@[simp] theorem silencePort_now (p : Fin 4) : (silencePort p s).now = s.now := by unfold silencePort; exact foldl_keeps _ State.now (by intros; simp) _ _
@[simp] theorem silencePort_ports (p : Fin 4) : (silencePort p s).ports = s.ports := by unfold silencePort; exact foldl_keeps _ State.ports (by intros; simp) _ _
@[simp] theorem silencePort_stamper (p : Fin 4) : (silencePort p s).stamper = s.stamper := by unfold silencePort; exact foldl_keeps _ State.stamper (by intros; simp) _ _
@[simp] theorem silencePort_teams (p : Fin 4) : (silencePort p s).teams = s.teams := by unfold silencePort; exact foldl_keeps _ State.teams (by intros; simp) _ _
@[simp] theorem silencePort_questions (p : Fin 4) : (silencePort p s).questions = s.questions := by unfold silencePort; exact foldl_keeps _ State.questions (by intros; simp) _ _
@[simp] theorem silencePort_cues (p : Fin 4) : (silencePort p s).cues = s.cues := by unfold silencePort; exact foldl_keeps _ State.cues (by intros; simp) _ _
@[simp] theorem silencePort_round (p : Fin 4) : (silencePort p s).round = s.round := by unfold silencePort; exact foldl_keeps _ State.round (by intros; simp) _ _
@[simp] theorem silencePort_resp (p : Fin 4) : (silencePort p s).resp = s.resp := by unfold silencePort; exact foldl_keeps _ State.resp (by intros; simp) _ _
@[simp] theorem silencePort_buzz (p : Fin 4) : (silencePort p s).buzz = s.buzz := by unfold silencePort; exact foldl_keeps _ State.buzz (by intros; simp) _ _
@[simp] theorem silencePort_score (p : Fin 4) : (silencePort p s).score = s.score := by unfold silencePort; exact foldl_keeps _ State.score (by intros; simp) _ _
@[simp] theorem silencePort_sorter (p : Fin 4) : (silencePort p s).sorter = s.sorter := by unfold silencePort; exact foldl_keeps _ State.sorter (by intros; simp) _ _
@[simp] theorem silencePort_comp (p : Fin 4) : (silencePort p s).comp = s.comp := by unfold silencePort; exact foldl_keeps _ State.comp (by intros; simp) _ _
@[simp] theorem silencePort_link (p : Fin 4) : (silencePort p s).link = s.link := by unfold silencePort; exact foldl_keeps _ State.link (by intros; simp) _ _
@[simp] theorem silencePort_loader (p : Fin 4) : (silencePort p s).loader = s.loader := by unfold silencePort; exact foldl_keeps _ State.loader (by intros; simp) _ _
@[simp] theorem silencePort_free (p : Fin 4) : (silencePort p s).free = s.free := by unfold silencePort; exact foldl_keeps _ State.free (by intros; simp) _ _
@[simp] theorem silencePort_pending (p : Fin 4) : (silencePort p s).pending = s.pending := by unfold silencePort; exact foldl_keeps _ State.pending (by intros; simp) _ _

@[simp] theorem absentPort_now (l : Bool) (p : Fin 4) : (absentPort l p s).now = s.now := by unfold absentPort; exact foldl_keeps _ State.now (by intros; simp) _ _
@[simp] theorem absentPort_ports (l : Bool) (p : Fin 4) : (absentPort l p s).ports = s.ports := by unfold absentPort; exact foldl_keeps _ State.ports (by intros; simp) _ _
@[simp] theorem absentPort_stamper (l : Bool) (p : Fin 4) : (absentPort l p s).stamper = s.stamper := by unfold absentPort; exact foldl_keeps _ State.stamper (by intros; simp) _ _
@[simp] theorem absentPort_teams (l : Bool) (p : Fin 4) : (absentPort l p s).teams = s.teams := by unfold absentPort; exact foldl_keeps _ State.teams (by intros; simp) _ _
@[simp] theorem absentPort_questions (l : Bool) (p : Fin 4) : (absentPort l p s).questions = s.questions := by unfold absentPort; exact foldl_keeps _ State.questions (by intros; simp) _ _
@[simp] theorem absentPort_cues (l : Bool) (p : Fin 4) : (absentPort l p s).cues = s.cues := by unfold absentPort; exact foldl_keeps _ State.cues (by intros; simp) _ _
@[simp] theorem absentPort_round (l : Bool) (p : Fin 4) : (absentPort l p s).round = s.round := by unfold absentPort; exact foldl_keeps _ State.round (by intros; simp) _ _
@[simp] theorem absentPort_resp (l : Bool) (p : Fin 4) : (absentPort l p s).resp = s.resp := by unfold absentPort; exact foldl_keeps _ State.resp (by intros; simp) _ _
@[simp] theorem absentPort_buzz (l : Bool) (p : Fin 4) : (absentPort l p s).buzz = s.buzz := by unfold absentPort; exact foldl_keeps _ State.buzz (by intros; simp) _ _
@[simp] theorem absentPort_score (l : Bool) (p : Fin 4) : (absentPort l p s).score = s.score := by unfold absentPort; exact foldl_keeps _ State.score (by intros; simp) _ _
@[simp] theorem absentPort_sorter (l : Bool) (p : Fin 4) : (absentPort l p s).sorter = s.sorter := by unfold absentPort; exact foldl_keeps _ State.sorter (by intros; simp) _ _
@[simp] theorem absentPort_comp (l : Bool) (p : Fin 4) : (absentPort l p s).comp = s.comp := by unfold absentPort; exact foldl_keeps _ State.comp (by intros; simp) _ _
@[simp] theorem absentPort_link (l : Bool) (p : Fin 4) : (absentPort l p s).link = s.link := by unfold absentPort; exact foldl_keeps _ State.link (by intros; simp) _ _
@[simp] theorem absentPort_loader (l : Bool) (p : Fin 4) : (absentPort l p s).loader = s.loader := by unfold absentPort; exact foldl_keeps _ State.loader (by intros; simp) _ _
@[simp] theorem absentPort_free (l : Bool) (p : Fin 4) : (absentPort l p s).free = s.free := by unfold absentPort; exact foldl_keeps _ State.free (by intros; simp) _ _
@[simp] theorem absentPort_pending (l : Bool) (p : Fin 4) : (absentPort l p s).pending = s.pending := by unfold absentPort; exact foldl_keeps _ State.pending (by intros; simp) _ _

@[simp] theorem applyPendingSeat_now (l : Bool) (k : Fin 256) : (applyPendingSeat l k s).now = s.now := by unfold applyPendingSeat; (repeat' split) <;> simp
@[simp] theorem applyPendingSeat_ports (l : Bool) (k : Fin 256) : (applyPendingSeat l k s).ports = s.ports := by unfold applyPendingSeat; (repeat' split) <;> simp
@[simp] theorem applyPendingSeat_stamper (l : Bool) (k : Fin 256) : (applyPendingSeat l k s).stamper = s.stamper := by unfold applyPendingSeat; (repeat' split) <;> simp
@[simp] theorem applyPendingSeat_teams (l : Bool) (k : Fin 256) : (applyPendingSeat l k s).teams = s.teams := by unfold applyPendingSeat; (repeat' split) <;> simp
@[simp] theorem applyPendingSeat_questions (l : Bool) (k : Fin 256) : (applyPendingSeat l k s).questions = s.questions := by unfold applyPendingSeat; (repeat' split) <;> simp
@[simp] theorem applyPendingSeat_cues (l : Bool) (k : Fin 256) : (applyPendingSeat l k s).cues = s.cues := by unfold applyPendingSeat; (repeat' split) <;> simp
@[simp] theorem applyPendingSeat_round (l : Bool) (k : Fin 256) : (applyPendingSeat l k s).round = s.round := by unfold applyPendingSeat; (repeat' split) <;> simp
@[simp] theorem applyPendingSeat_resp (l : Bool) (k : Fin 256) : (applyPendingSeat l k s).resp = s.resp := by unfold applyPendingSeat; (repeat' split) <;> simp
@[simp] theorem applyPendingSeat_buzz (l : Bool) (k : Fin 256) : (applyPendingSeat l k s).buzz = s.buzz := by unfold applyPendingSeat; (repeat' split) <;> simp
@[simp] theorem applyPendingSeat_score (l : Bool) (k : Fin 256) : (applyPendingSeat l k s).score = s.score := by unfold applyPendingSeat; (repeat' split) <;> simp
@[simp] theorem applyPendingSeat_sorter (l : Bool) (k : Fin 256) : (applyPendingSeat l k s).sorter = s.sorter := by unfold applyPendingSeat; (repeat' split) <;> simp
@[simp] theorem applyPendingSeat_comp (l : Bool) (k : Fin 256) : (applyPendingSeat l k s).comp = s.comp := by unfold applyPendingSeat; (repeat' split) <;> simp
@[simp] theorem applyPendingSeat_link (l : Bool) (k : Fin 256) : (applyPendingSeat l k s).link = s.link := by unfold applyPendingSeat; (repeat' split) <;> simp
@[simp] theorem applyPendingSeat_loader (l : Bool) (k : Fin 256) : (applyPendingSeat l k s).loader = s.loader := by unfold applyPendingSeat; (repeat' split) <;> simp
@[simp] theorem applyPendingSeat_free (l : Bool) (k : Fin 256) : (applyPendingSeat l k s).free = s.free := by unfold applyPendingSeat; (repeat' split) <;> simp
@[simp] theorem applyPendingSeat_pending (l : Bool) (k : Fin 256) : (applyPendingSeat l k s).pending = s.pending := by unfold applyPendingSeat; (repeat' split) <;> simp

@[simp] theorem applyPending_now (l : Bool) : (applyPending l s).now = s.now := by unfold applyPending; exact foldl_keeps _ State.now (by intros; simp) _ _
@[simp] theorem applyPending_ports (l : Bool) : (applyPending l s).ports = s.ports := by unfold applyPending; exact foldl_keeps _ State.ports (by intros; simp) _ _
@[simp] theorem applyPending_stamper (l : Bool) : (applyPending l s).stamper = s.stamper := by unfold applyPending; exact foldl_keeps _ State.stamper (by intros; simp) _ _
@[simp] theorem applyPending_teams (l : Bool) : (applyPending l s).teams = s.teams := by unfold applyPending; exact foldl_keeps _ State.teams (by intros; simp) _ _
@[simp] theorem applyPending_questions (l : Bool) : (applyPending l s).questions = s.questions := by unfold applyPending; exact foldl_keeps _ State.questions (by intros; simp) _ _
@[simp] theorem applyPending_cues (l : Bool) : (applyPending l s).cues = s.cues := by unfold applyPending; exact foldl_keeps _ State.cues (by intros; simp) _ _
@[simp] theorem applyPending_round (l : Bool) : (applyPending l s).round = s.round := by unfold applyPending; exact foldl_keeps _ State.round (by intros; simp) _ _
@[simp] theorem applyPending_resp (l : Bool) : (applyPending l s).resp = s.resp := by unfold applyPending; exact foldl_keeps _ State.resp (by intros; simp) _ _
@[simp] theorem applyPending_buzz (l : Bool) : (applyPending l s).buzz = s.buzz := by unfold applyPending; exact foldl_keeps _ State.buzz (by intros; simp) _ _
@[simp] theorem applyPending_score (l : Bool) : (applyPending l s).score = s.score := by unfold applyPending; exact foldl_keeps _ State.score (by intros; simp) _ _
@[simp] theorem applyPending_sorter (l : Bool) : (applyPending l s).sorter = s.sorter := by unfold applyPending; exact foldl_keeps _ State.sorter (by intros; simp) _ _
@[simp] theorem applyPending_comp (l : Bool) : (applyPending l s).comp = s.comp := by unfold applyPending; exact foldl_keeps _ State.comp (by intros; simp) _ _
@[simp] theorem applyPending_link (l : Bool) : (applyPending l s).link = s.link := by unfold applyPending; exact foldl_keeps _ State.link (by intros; simp) _ _
@[simp] theorem applyPending_loader (l : Bool) : (applyPending l s).loader = s.loader := by unfold applyPending; exact foldl_keeps _ State.loader (by intros; simp) _ _
@[simp] theorem applyPending_free (l : Bool) : (applyPending l s).free = s.free := by unfold applyPending; exact foldl_keeps _ State.free (by intros; simp) _ _
@[simp] theorem applyPending_pending (l : Bool) : (applyPending l s).pending = s.pending := by unfold applyPending; exact foldl_keeps _ State.pending (by intros; simp) _ _

end Sys2Proof.Machine
end

