-- ==== Sys2Proof/Laws/RoundFrames.lean ====
section
/-! SUPPORT. What each operation of Machine/BuzzOps.lean leaves unchanged: one simp lemma for each block that it does not touch. -/

namespace Sys2Proof.Machine

variable (s : State)

@[simp] theorem takeSnapshot_now : (takeSnapshot s).now = s.now := by unfold takeSnapshot; simp
@[simp] theorem takeSnapshot_ports : (takeSnapshot s).ports = s.ports := by unfold takeSnapshot; simp
@[simp] theorem takeSnapshot_stamper : (takeSnapshot s).stamper = s.stamper := by unfold takeSnapshot; simp
@[simp] theorem takeSnapshot_seats : (takeSnapshot s).seats = s.seats := by unfold takeSnapshot; simp
@[simp] theorem takeSnapshot_teams : (takeSnapshot s).teams = s.teams := by unfold takeSnapshot; simp
@[simp] theorem takeSnapshot_questions : (takeSnapshot s).questions = s.questions := by unfold takeSnapshot; simp
@[simp] theorem takeSnapshot_cues : (takeSnapshot s).cues = s.cues := by unfold takeSnapshot; simp
@[simp] theorem takeSnapshot_resp : (takeSnapshot s).resp = s.resp := by unfold takeSnapshot; simp
@[simp] theorem takeSnapshot_buzz : (takeSnapshot s).buzz = s.buzz := by unfold takeSnapshot; simp
@[simp] theorem takeSnapshot_score : (takeSnapshot s).score = s.score := by unfold takeSnapshot; simp
@[simp] theorem takeSnapshot_sorter : (takeSnapshot s).sorter = s.sorter := by unfold takeSnapshot; simp
@[simp] theorem takeSnapshot_comp : (takeSnapshot s).comp = s.comp := by unfold takeSnapshot; simp
@[simp] theorem takeSnapshot_link : (takeSnapshot s).link = s.link := by unfold takeSnapshot; simp
@[simp] theorem takeSnapshot_hub : (takeSnapshot s).hub = s.hub := by unfold takeSnapshot; simp
@[simp] theorem takeSnapshot_loader : (takeSnapshot s).loader = s.loader := by unfold takeSnapshot; simp
@[simp] theorem takeSnapshot_free : (takeSnapshot s).free = s.free := by unfold takeSnapshot; simp
@[simp] theorem takeSnapshot_pending : (takeSnapshot s).pending = s.pending := by unfold takeSnapshot; simp

@[simp] theorem moveRound_now (x : RoundState) (w : Bool) : (moveRound x w s).now = s.now := by unfold moveRound; simp
@[simp] theorem moveRound_ports (x : RoundState) (w : Bool) : (moveRound x w s).ports = s.ports := by unfold moveRound; simp
@[simp] theorem moveRound_stamper (x : RoundState) (w : Bool) : (moveRound x w s).stamper = s.stamper := by unfold moveRound; simp
@[simp] theorem moveRound_seats (x : RoundState) (w : Bool) : (moveRound x w s).seats = s.seats := by unfold moveRound; simp
@[simp] theorem moveRound_teams (x : RoundState) (w : Bool) : (moveRound x w s).teams = s.teams := by unfold moveRound; simp
@[simp] theorem moveRound_questions (x : RoundState) (w : Bool) : (moveRound x w s).questions = s.questions := by unfold moveRound; simp
@[simp] theorem moveRound_cues (x : RoundState) (w : Bool) : (moveRound x w s).cues = s.cues := by unfold moveRound; simp
@[simp] theorem moveRound_resp (x : RoundState) (w : Bool) : (moveRound x w s).resp = s.resp := by unfold moveRound; simp
@[simp] theorem moveRound_buzz (x : RoundState) (w : Bool) : (moveRound x w s).buzz = s.buzz := by unfold moveRound; simp
@[simp] theorem moveRound_score (x : RoundState) (w : Bool) : (moveRound x w s).score = s.score := by unfold moveRound; simp
@[simp] theorem moveRound_sorter (x : RoundState) (w : Bool) : (moveRound x w s).sorter = s.sorter := by unfold moveRound; simp
@[simp] theorem moveRound_comp (x : RoundState) (w : Bool) : (moveRound x w s).comp = s.comp := by unfold moveRound; simp
@[simp] theorem moveRound_link (x : RoundState) (w : Bool) : (moveRound x w s).link = s.link := by unfold moveRound; simp
@[simp] theorem moveRound_loader (x : RoundState) (w : Bool) : (moveRound x w s).loader = s.loader := by unfold moveRound; simp
@[simp] theorem moveRound_free (x : RoundState) (w : Bool) : (moveRound x w s).free = s.free := by unfold moveRound; simp
@[simp] theorem moveRound_pending (x : RoundState) (w : Bool) : (moveRound x w s).pending = s.pending := by unfold moveRound; simp

@[simp] theorem beginWalk_now : (beginWalk s).now = s.now := by unfold beginWalk; simp
@[simp] theorem beginWalk_ports : (beginWalk s).ports = s.ports := by unfold beginWalk; simp
@[simp] theorem beginWalk_stamper : (beginWalk s).stamper = s.stamper := by unfold beginWalk; simp
@[simp] theorem beginWalk_seats : (beginWalk s).seats = s.seats := by unfold beginWalk; simp
@[simp] theorem beginWalk_teams : (beginWalk s).teams = s.teams := by unfold beginWalk; simp
@[simp] theorem beginWalk_questions : (beginWalk s).questions = s.questions := by unfold beginWalk; simp
@[simp] theorem beginWalk_cues : (beginWalk s).cues = s.cues := by unfold beginWalk; simp
@[simp] theorem beginWalk_round : (beginWalk s).round = s.round := by unfold beginWalk; simp
@[simp] theorem beginWalk_resp : (beginWalk s).resp = s.resp := by unfold beginWalk; simp
@[simp] theorem beginWalk_buzz : (beginWalk s).buzz = s.buzz := by unfold beginWalk; simp
@[simp] theorem beginWalk_sorter : (beginWalk s).sorter = s.sorter := by unfold beginWalk; simp
@[simp] theorem beginWalk_comp : (beginWalk s).comp = s.comp := by unfold beginWalk; simp
@[simp] theorem beginWalk_link : (beginWalk s).link = s.link := by unfold beginWalk; simp
@[simp] theorem beginWalk_hub : (beginWalk s).hub = s.hub := by unfold beginWalk; simp
@[simp] theorem beginWalk_loader : (beginWalk s).loader = s.loader := by unfold beginWalk; simp
@[simp] theorem beginWalk_free : (beginWalk s).free = s.free := by unfold beginWalk; simp
@[simp] theorem beginWalk_pending : (beginWalk s).pending = s.pending := by unfold beginWalk; simp

@[simp] theorem enterCommitting_now (w : Bool) : (enterCommitting w s).now = s.now := by unfold enterCommitting; simp
@[simp] theorem enterCommitting_ports (w : Bool) : (enterCommitting w s).ports = s.ports := by unfold enterCommitting; simp
@[simp] theorem enterCommitting_stamper (w : Bool) : (enterCommitting w s).stamper = s.stamper := by unfold enterCommitting; simp
@[simp] theorem enterCommitting_seats (w : Bool) : (enterCommitting w s).seats = s.seats := by unfold enterCommitting; simp
@[simp] theorem enterCommitting_teams (w : Bool) : (enterCommitting w s).teams = s.teams := by unfold enterCommitting; simp
@[simp] theorem enterCommitting_questions (w : Bool) : (enterCommitting w s).questions = s.questions := by unfold enterCommitting; simp
@[simp] theorem enterCommitting_cues (w : Bool) : (enterCommitting w s).cues = s.cues := by unfold enterCommitting; simp
@[simp] theorem enterCommitting_resp (w : Bool) : (enterCommitting w s).resp = s.resp := by unfold enterCommitting; simp
@[simp] theorem enterCommitting_buzz (w : Bool) : (enterCommitting w s).buzz = s.buzz := by unfold enterCommitting; simp
@[simp] theorem enterCommitting_sorter (w : Bool) : (enterCommitting w s).sorter = s.sorter := by unfold enterCommitting; simp
@[simp] theorem enterCommitting_comp (w : Bool) : (enterCommitting w s).comp = s.comp := by unfold enterCommitting; simp
@[simp] theorem enterCommitting_link (w : Bool) : (enterCommitting w s).link = s.link := by unfold enterCommitting; simp
@[simp] theorem enterCommitting_loader (w : Bool) : (enterCommitting w s).loader = s.loader := by unfold enterCommitting; simp
@[simp] theorem enterCommitting_free (w : Bool) : (enterCommitting w s).free = s.free := by unfold enterCommitting; simp
@[simp] theorem enterCommitting_pending (w : Bool) : (enterCommitting w s).pending = s.pending := by unfold enterCommitting; simp

@[simp] theorem releaseFloor_now : (releaseFloor s).now = s.now := by simp [releaseFloor, apply_ite State.now]
@[simp] theorem releaseFloor_ports : (releaseFloor s).ports = s.ports := by simp [releaseFloor, apply_ite State.ports]
@[simp] theorem releaseFloor_stamper : (releaseFloor s).stamper = s.stamper := by simp [releaseFloor, apply_ite State.stamper]
@[simp] theorem releaseFloor_seats : (releaseFloor s).seats = s.seats := by simp [releaseFloor, apply_ite State.seats]
@[simp] theorem releaseFloor_teams : (releaseFloor s).teams = s.teams := by simp [releaseFloor, apply_ite State.teams]
@[simp] theorem releaseFloor_questions : (releaseFloor s).questions = s.questions := by simp [releaseFloor, apply_ite State.questions]
@[simp] theorem releaseFloor_cues : (releaseFloor s).cues = s.cues := by simp [releaseFloor, apply_ite State.cues]
@[simp] theorem releaseFloor_round : (releaseFloor s).round = s.round := by simp [releaseFloor, apply_ite State.round]
@[simp] theorem releaseFloor_resp : (releaseFloor s).resp = s.resp := by simp [releaseFloor, apply_ite State.resp]
@[simp] theorem releaseFloor_score : (releaseFloor s).score = s.score := by simp [releaseFloor, apply_ite State.score]
@[simp] theorem releaseFloor_sorter : (releaseFloor s).sorter = s.sorter := by simp [releaseFloor, apply_ite State.sorter]
@[simp] theorem releaseFloor_link : (releaseFloor s).link = s.link := by simp [releaseFloor, apply_ite State.link]
@[simp] theorem releaseFloor_hub : (releaseFloor s).hub = s.hub := by simp [releaseFloor, apply_ite State.hub]
@[simp] theorem releaseFloor_loader : (releaseFloor s).loader = s.loader := by simp [releaseFloor, apply_ite State.loader]
@[simp] theorem releaseFloor_free : (releaseFloor s).free = s.free := by simp [releaseFloor, apply_ite State.free]
@[simp] theorem releaseFloor_pending : (releaseFloor s).pending = s.pending := by simp [releaseFloor, apply_ite State.pending]

@[simp] theorem endQuestion_now : (endQuestion s).now = s.now := by
  simp only [endQuestion]
  (repeat' split) <;> simp
@[simp] theorem endQuestion_ports : (endQuestion s).ports = s.ports := by
  simp only [endQuestion]
  (repeat' split) <;> simp
@[simp] theorem endQuestion_stamper : (endQuestion s).stamper = s.stamper := by
  simp only [endQuestion]
  (repeat' split) <;> simp
@[simp] theorem endQuestion_seats : (endQuestion s).seats = s.seats := by
  simp only [endQuestion]
  (repeat' split) <;> simp
@[simp] theorem endQuestion_teams : (endQuestion s).teams = s.teams := by
  simp only [endQuestion]
  (repeat' split) <;> simp
@[simp] theorem endQuestion_questions : (endQuestion s).questions = s.questions := by
  simp only [endQuestion]
  (repeat' split) <;> simp
@[simp] theorem endQuestion_cues : (endQuestion s).cues = s.cues := by
  simp only [endQuestion]
  (repeat' split) <;> simp
@[simp] theorem endQuestion_resp : (endQuestion s).resp = s.resp := by
  simp only [endQuestion]
  (repeat' split) <;> simp
@[simp] theorem endQuestion_sorter : (endQuestion s).sorter = s.sorter := by
  simp only [endQuestion]
  (repeat' split) <;> simp
@[simp] theorem endQuestion_link : (endQuestion s).link = s.link := by
  simp only [endQuestion]
  (repeat' split) <;> simp
@[simp] theorem endQuestion_loader : (endQuestion s).loader = s.loader := by
  simp only [endQuestion]
  (repeat' split) <;> simp
@[simp] theorem endQuestion_free : (endQuestion s).free = s.free := by
  simp only [endQuestion]
  (repeat' split) <;> simp
@[simp] theorem endQuestion_pending : (endQuestion s).pending = s.pending := by
  simp only [endQuestion]
  (repeat' split) <;> simp

@[simp] theorem floorGranted_now : (floorGranted s).now = s.now := by simp [floorGranted, apply_ite State.now]
@[simp] theorem floorGranted_ports : (floorGranted s).ports = s.ports := by simp [floorGranted, apply_ite State.ports]
@[simp] theorem floorGranted_stamper : (floorGranted s).stamper = s.stamper := by simp [floorGranted, apply_ite State.stamper]
@[simp] theorem floorGranted_seats : (floorGranted s).seats = s.seats := by simp [floorGranted, apply_ite State.seats]
@[simp] theorem floorGranted_teams : (floorGranted s).teams = s.teams := by simp [floorGranted, apply_ite State.teams]
@[simp] theorem floorGranted_questions : (floorGranted s).questions = s.questions := by simp [floorGranted, apply_ite State.questions]
@[simp] theorem floorGranted_cues : (floorGranted s).cues = s.cues := by simp [floorGranted, apply_ite State.cues]
@[simp] theorem floorGranted_resp : (floorGranted s).resp = s.resp := by simp [floorGranted, apply_ite State.resp]
@[simp] theorem floorGranted_buzz : (floorGranted s).buzz = s.buzz := by simp [floorGranted, apply_ite State.buzz]
@[simp] theorem floorGranted_score : (floorGranted s).score = s.score := by simp [floorGranted, apply_ite State.score]
@[simp] theorem floorGranted_sorter : (floorGranted s).sorter = s.sorter := by simp [floorGranted, apply_ite State.sorter]
@[simp] theorem floorGranted_comp : (floorGranted s).comp = s.comp := by simp [floorGranted, apply_ite State.comp]
@[simp] theorem floorGranted_link : (floorGranted s).link = s.link := by simp [floorGranted, apply_ite State.link]
@[simp] theorem floorGranted_loader : (floorGranted s).loader = s.loader := by simp [floorGranted, apply_ite State.loader]
@[simp] theorem floorGranted_free : (floorGranted s).free = s.free := by simp [floorGranted, apply_ite State.free]
@[simp] theorem floorGranted_pending : (floorGranted s).pending = s.pending := by simp [floorGranted, apply_ite State.pending]

@[simp] theorem grantFloor_now (e : BuzzEntry) : (grantFloor e s).now = s.now := by unfold grantFloor; simp
@[simp] theorem grantFloor_stamper (e : BuzzEntry) : (grantFloor e s).stamper = s.stamper := by unfold grantFloor; simp
@[simp] theorem grantFloor_teams (e : BuzzEntry) : (grantFloor e s).teams = s.teams := by unfold grantFloor; simp
@[simp] theorem grantFloor_questions (e : BuzzEntry) : (grantFloor e s).questions = s.questions := by unfold grantFloor; simp
@[simp] theorem grantFloor_cues (e : BuzzEntry) : (grantFloor e s).cues = s.cues := by unfold grantFloor; simp
@[simp] theorem grantFloor_resp (e : BuzzEntry) : (grantFloor e s).resp = s.resp := by unfold grantFloor; simp
@[simp] theorem grantFloor_score (e : BuzzEntry) : (grantFloor e s).score = s.score := by unfold grantFloor; simp
@[simp] theorem grantFloor_sorter (e : BuzzEntry) : (grantFloor e s).sorter = s.sorter := by unfold grantFloor; simp
@[simp] theorem grantFloor_link (e : BuzzEntry) : (grantFloor e s).link = s.link := by unfold grantFloor; simp
@[simp] theorem grantFloor_loader (e : BuzzEntry) : (grantFloor e s).loader = s.loader := by unfold grantFloor; simp
@[simp] theorem grantFloor_free (e : BuzzEntry) : (grantFloor e s).free = s.free := by unfold grantFloor; simp
@[simp] theorem grantFloor_pending (e : BuzzEntry) : (grantFloor e s).pending = s.pending := by unfold grantFloor; simp

@[simp] theorem grantTest_now : (grantTest s).now = s.now := by unfold grantTest; (repeat' split) <;> simp
@[simp] theorem grantTest_stamper : (grantTest s).stamper = s.stamper := by unfold grantTest; (repeat' split) <;> simp
@[simp] theorem grantTest_teams : (grantTest s).teams = s.teams := by unfold grantTest; (repeat' split) <;> simp
@[simp] theorem grantTest_questions : (grantTest s).questions = s.questions := by unfold grantTest; (repeat' split) <;> simp
@[simp] theorem grantTest_cues : (grantTest s).cues = s.cues := by unfold grantTest; (repeat' split) <;> simp
@[simp] theorem grantTest_resp : (grantTest s).resp = s.resp := by unfold grantTest; (repeat' split) <;> simp
@[simp] theorem grantTest_score : (grantTest s).score = s.score := by unfold grantTest; (repeat' split) <;> simp
@[simp] theorem grantTest_sorter : (grantTest s).sorter = s.sorter := by unfold grantTest; (repeat' split) <;> simp
@[simp] theorem grantTest_link : (grantTest s).link = s.link := by unfold grantTest; (repeat' split) <;> simp
@[simp] theorem grantTest_loader : (grantTest s).loader = s.loader := by unfold grantTest; (repeat' split) <;> simp
@[simp] theorem grantTest_free : (grantTest s).free = s.free := by unfold grantTest; (repeat' split) <;> simp
@[simp] theorem grantTest_pending : (grantTest s).pending = s.pending := by unfold grantTest; (repeat' split) <;> simp

@[simp] theorem settleExpires_now : (settleExpires s).now = s.now := by
  simp only [settleExpires]
  (repeat' split) <;> simp
@[simp] theorem settleExpires_stamper : (settleExpires s).stamper = s.stamper := by
  simp only [settleExpires]
  (repeat' split) <;> simp
@[simp] theorem settleExpires_teams : (settleExpires s).teams = s.teams := by
  simp only [settleExpires]
  (repeat' split) <;> simp
@[simp] theorem settleExpires_questions : (settleExpires s).questions = s.questions := by
  simp only [settleExpires]
  (repeat' split) <;> simp
@[simp] theorem settleExpires_cues : (settleExpires s).cues = s.cues := by
  simp only [settleExpires]
  (repeat' split) <;> simp
@[simp] theorem settleExpires_resp : (settleExpires s).resp = s.resp := by
  simp only [settleExpires]
  (repeat' split) <;> simp
@[simp] theorem settleExpires_sorter : (settleExpires s).sorter = s.sorter := by
  simp only [settleExpires]
  (repeat' split) <;> simp
@[simp] theorem settleExpires_link : (settleExpires s).link = s.link := by
  simp only [settleExpires]
  (repeat' split) <;> simp
@[simp] theorem settleExpires_loader : (settleExpires s).loader = s.loader := by
  simp only [settleExpires]
  (repeat' split) <;> simp
@[simp] theorem settleExpires_free : (settleExpires s).free = s.free := by
  simp only [settleExpires]
  (repeat' split) <;> simp
@[simp] theorem settleExpires_pending : (settleExpires s).pending = s.pending := by
  simp only [settleExpires]
  (repeat' split) <;> simp

@[simp] theorem closeAnswering_now : (closeAnswering s).now = s.now := by simp [closeAnswering, apply_ite State.now]
@[simp] theorem closeAnswering_stamper : (closeAnswering s).stamper = s.stamper := by simp [closeAnswering, apply_ite State.stamper]
@[simp] theorem closeAnswering_teams : (closeAnswering s).teams = s.teams := by simp [closeAnswering, apply_ite State.teams]
@[simp] theorem closeAnswering_questions : (closeAnswering s).questions = s.questions := by simp [closeAnswering, apply_ite State.questions]
@[simp] theorem closeAnswering_cues : (closeAnswering s).cues = s.cues := by simp [closeAnswering, apply_ite State.cues]
@[simp] theorem closeAnswering_sorter : (closeAnswering s).sorter = s.sorter := by simp [closeAnswering, apply_ite State.sorter]
@[simp] theorem closeAnswering_link : (closeAnswering s).link = s.link := by simp [closeAnswering, apply_ite State.link]
@[simp] theorem closeAnswering_loader : (closeAnswering s).loader = s.loader := by simp [closeAnswering, apply_ite State.loader]
@[simp] theorem closeAnswering_free : (closeAnswering s).free = s.free := by simp [closeAnswering, apply_ite State.free]
@[simp] theorem closeAnswering_pending : (closeAnswering s).pending = s.pending := by simp [closeAnswering, apply_ite State.pending]

@[simp] theorem closeAction_now : ((closeAction s).1).now = s.now := by unfold closeAction; (repeat' split) <;> simp
@[simp] theorem closeAction_stamper : ((closeAction s).1).stamper = s.stamper := by unfold closeAction; (repeat' split) <;> simp
@[simp] theorem closeAction_teams : ((closeAction s).1).teams = s.teams := by unfold closeAction; (repeat' split) <;> simp
@[simp] theorem closeAction_questions : ((closeAction s).1).questions = s.questions := by unfold closeAction; (repeat' split) <;> simp
@[simp] theorem closeAction_cues : ((closeAction s).1).cues = s.cues := by unfold closeAction; (repeat' split) <;> simp
@[simp] theorem closeAction_sorter : ((closeAction s).1).sorter = s.sorter := by unfold closeAction; (repeat' split) <;> simp
@[simp] theorem closeAction_link : ((closeAction s).1).link = s.link := by unfold closeAction; (repeat' split) <;> simp
@[simp] theorem closeAction_loader : ((closeAction s).1).loader = s.loader := by unfold closeAction; (repeat' split) <;> simp
@[simp] theorem closeAction_free : ((closeAction s).1).free = s.free := by unfold closeAction; (repeat' split) <;> simp
@[simp] theorem closeAction_pending : ((closeAction s).1).pending = s.pending := by unfold closeAction; (repeat' split) <;> simp

@[simp] theorem commitAction_now : ((commitAction s).1).now = s.now := by unfold commitAction; (repeat' split) <;> simp
@[simp] theorem commitAction_ports : ((commitAction s).1).ports = s.ports := by unfold commitAction; (repeat' split) <;> simp
@[simp] theorem commitAction_stamper : ((commitAction s).1).stamper = s.stamper := by unfold commitAction; (repeat' split) <;> simp
@[simp] theorem commitAction_seats : ((commitAction s).1).seats = s.seats := by unfold commitAction; (repeat' split) <;> simp
@[simp] theorem commitAction_teams : ((commitAction s).1).teams = s.teams := by unfold commitAction; (repeat' split) <;> simp
@[simp] theorem commitAction_questions : ((commitAction s).1).questions = s.questions := by unfold commitAction; (repeat' split) <;> simp
@[simp] theorem commitAction_cues : ((commitAction s).1).cues = s.cues := by unfold commitAction; (repeat' split) <;> simp
@[simp] theorem commitAction_resp : ((commitAction s).1).resp = s.resp := by unfold commitAction; (repeat' split) <;> simp
@[simp] theorem commitAction_buzz : ((commitAction s).1).buzz = s.buzz := by unfold commitAction; (repeat' split) <;> simp
@[simp] theorem commitAction_sorter : ((commitAction s).1).sorter = s.sorter := by unfold commitAction; (repeat' split) <;> simp
@[simp] theorem commitAction_comp : ((commitAction s).1).comp = s.comp := by unfold commitAction; (repeat' split) <;> simp
@[simp] theorem commitAction_link : ((commitAction s).1).link = s.link := by unfold commitAction; (repeat' split) <;> simp
@[simp] theorem commitAction_loader : ((commitAction s).1).loader = s.loader := by unfold commitAction; (repeat' split) <;> simp
@[simp] theorem commitAction_free : ((commitAction s).1).free = s.free := by unfold commitAction; (repeat' split) <;> simp
@[simp] theorem commitAction_pending : ((commitAction s).1).pending = s.pending := by unfold commitAction; (repeat' split) <;> simp

@[simp] theorem cancelQuestion_now : (cancelQuestion s).now = s.now := by unfold cancelQuestion; simp
@[simp] theorem cancelQuestion_ports : (cancelQuestion s).ports = s.ports := by unfold cancelQuestion; simp
@[simp] theorem cancelQuestion_stamper : (cancelQuestion s).stamper = s.stamper := by unfold cancelQuestion; simp
@[simp] theorem cancelQuestion_teams : (cancelQuestion s).teams = s.teams := by unfold cancelQuestion; simp
@[simp] theorem cancelQuestion_questions : (cancelQuestion s).questions = s.questions := by unfold cancelQuestion; simp
@[simp] theorem cancelQuestion_cues : (cancelQuestion s).cues = s.cues := by unfold cancelQuestion; simp
@[simp] theorem cancelQuestion_resp : (cancelQuestion s).resp = s.resp := by unfold cancelQuestion; simp
@[simp] theorem cancelQuestion_score : (cancelQuestion s).score = s.score := by unfold cancelQuestion; simp
@[simp] theorem cancelQuestion_sorter : (cancelQuestion s).sorter = s.sorter := by unfold cancelQuestion; simp
@[simp] theorem cancelQuestion_link : (cancelQuestion s).link = s.link := by unfold cancelQuestion; simp
@[simp] theorem cancelQuestion_loader : (cancelQuestion s).loader = s.loader := by unfold cancelQuestion; simp
@[simp] theorem cancelQuestion_free : (cancelQuestion s).free = s.free := by unfold cancelQuestion; simp
@[simp] theorem cancelQuestion_pending : (cancelQuestion s).pending = s.pending := by unfold cancelQuestion; simp

@[simp] theorem cancelAction_now : ((cancelAction s).1).now = s.now := by unfold cancelAction; (repeat' split) <;> simp
@[simp] theorem cancelAction_ports : ((cancelAction s).1).ports = s.ports := by unfold cancelAction; (repeat' split) <;> simp
@[simp] theorem cancelAction_stamper : ((cancelAction s).1).stamper = s.stamper := by unfold cancelAction; (repeat' split) <;> simp
@[simp] theorem cancelAction_teams : ((cancelAction s).1).teams = s.teams := by unfold cancelAction; (repeat' split) <;> simp
@[simp] theorem cancelAction_questions : ((cancelAction s).1).questions = s.questions := by unfold cancelAction; (repeat' split) <;> simp
@[simp] theorem cancelAction_cues : ((cancelAction s).1).cues = s.cues := by unfold cancelAction; (repeat' split) <;> simp
@[simp] theorem cancelAction_resp : ((cancelAction s).1).resp = s.resp := by unfold cancelAction; (repeat' split) <;> simp
@[simp] theorem cancelAction_score : ((cancelAction s).1).score = s.score := by unfold cancelAction; (repeat' split) <;> simp
@[simp] theorem cancelAction_sorter : ((cancelAction s).1).sorter = s.sorter := by unfold cancelAction; (repeat' split) <;> simp
@[simp] theorem cancelAction_link : ((cancelAction s).1).link = s.link := by unfold cancelAction; (repeat' split) <;> simp
@[simp] theorem cancelAction_loader : ((cancelAction s).1).loader = s.loader := by unfold cancelAction; (repeat' split) <;> simp
@[simp] theorem cancelAction_free : ((cancelAction s).1).free = s.free := by unfold cancelAction; (repeat' split) <;> simp
@[simp] theorem cancelAction_pending : ((cancelAction s).1).pending = s.pending := by unfold cancelAction; (repeat' split) <;> simp

@[simp] theorem clearResponses_now (q : Fin 128) : (clearResponses q s).now = s.now := by simp [clearResponses, apply_ite State.now]
@[simp] theorem clearResponses_ports (q : Fin 128) : (clearResponses q s).ports = s.ports := by simp [clearResponses, apply_ite State.ports]
@[simp] theorem clearResponses_stamper (q : Fin 128) : (clearResponses q s).stamper = s.stamper := by simp [clearResponses, apply_ite State.stamper]
@[simp] theorem clearResponses_seats (q : Fin 128) : (clearResponses q s).seats = s.seats := by simp [clearResponses, apply_ite State.seats]
@[simp] theorem clearResponses_teams (q : Fin 128) : (clearResponses q s).teams = s.teams := by simp [clearResponses, apply_ite State.teams]
@[simp] theorem clearResponses_questions (q : Fin 128) : (clearResponses q s).questions = s.questions := by simp [clearResponses, apply_ite State.questions]
@[simp] theorem clearResponses_cues (q : Fin 128) : (clearResponses q s).cues = s.cues := by simp [clearResponses, apply_ite State.cues]
@[simp] theorem clearResponses_round (q : Fin 128) : (clearResponses q s).round = s.round := by simp [clearResponses, apply_ite State.round]
@[simp] theorem clearResponses_buzz (q : Fin 128) : (clearResponses q s).buzz = s.buzz := by simp [clearResponses, apply_ite State.buzz]
@[simp] theorem clearResponses_score (q : Fin 128) : (clearResponses q s).score = s.score := by simp [clearResponses, apply_ite State.score]
@[simp] theorem clearResponses_sorter (q : Fin 128) : (clearResponses q s).sorter = s.sorter := by simp [clearResponses, apply_ite State.sorter]
@[simp] theorem clearResponses_link (q : Fin 128) : (clearResponses q s).link = s.link := by simp [clearResponses, apply_ite State.link]
@[simp] theorem clearResponses_loader (q : Fin 128) : (clearResponses q s).loader = s.loader := by simp [clearResponses, apply_ite State.loader]
@[simp] theorem clearResponses_free (q : Fin 128) : (clearResponses q s).free = s.free := by simp [clearResponses, apply_ite State.free]
@[simp] theorem clearResponses_pending (q : Fin 128) : (clearResponses q s).pending = s.pending := by simp [clearResponses, apply_ite State.pending]

@[simp] theorem openLamps_now (q : Fin 128) : (openLamps q s).now = s.now := by
  unfold openLamps
  split
  · rw [foldl_keeps _ State.now (by intro b a; split <;> simp)]; simp
  · simp
@[simp] theorem openLamps_stamper (q : Fin 128) : (openLamps q s).stamper = s.stamper := by
  unfold openLamps
  split
  · rw [foldl_keeps _ State.stamper (by intro b a; split <;> simp)]; simp
  · simp
@[simp] theorem openLamps_teams (q : Fin 128) : (openLamps q s).teams = s.teams := by
  unfold openLamps
  split
  · rw [foldl_keeps _ State.teams (by intro b a; split <;> simp)]; simp
  · simp
@[simp] theorem openLamps_questions (q : Fin 128) : (openLamps q s).questions = s.questions := by
  unfold openLamps
  split
  · rw [foldl_keeps _ State.questions (by intro b a; split <;> simp)]; simp
  · simp
@[simp] theorem openLamps_cues (q : Fin 128) : (openLamps q s).cues = s.cues := by
  unfold openLamps
  split
  · rw [foldl_keeps _ State.cues (by intro b a; split <;> simp)]; simp
  · simp
@[simp] theorem openLamps_round (q : Fin 128) : (openLamps q s).round = s.round := by
  unfold openLamps
  split
  · rw [foldl_keeps _ State.round (by intro b a; split <;> simp)]; simp
  · simp
@[simp] theorem openLamps_resp (q : Fin 128) : (openLamps q s).resp = s.resp := by
  unfold openLamps
  split
  · rw [foldl_keeps _ State.resp (by intro b a; split <;> simp)]; simp
  · simp
@[simp] theorem openLamps_buzz (q : Fin 128) : (openLamps q s).buzz = s.buzz := by
  unfold openLamps
  split
  · rw [foldl_keeps _ State.buzz (by intro b a; split <;> simp)]; simp
  · simp
@[simp] theorem openLamps_score (q : Fin 128) : (openLamps q s).score = s.score := by
  unfold openLamps
  split
  · rw [foldl_keeps _ State.score (by intro b a; split <;> simp)]; simp
  · simp
@[simp] theorem openLamps_sorter (q : Fin 128) : (openLamps q s).sorter = s.sorter := by
  unfold openLamps
  split
  · rw [foldl_keeps _ State.sorter (by intro b a; split <;> simp)]; simp
  · simp
@[simp] theorem openLamps_comp (q : Fin 128) : (openLamps q s).comp = s.comp := by
  unfold openLamps
  split
  · rw [foldl_keeps _ State.comp (by intro b a; split <;> simp)]; simp
  · simp
@[simp] theorem openLamps_link (q : Fin 128) : (openLamps q s).link = s.link := by
  unfold openLamps
  split
  · rw [foldl_keeps _ State.link (by intro b a; split <;> simp)]; simp
  · simp
@[simp] theorem openLamps_hub (q : Fin 128) : (openLamps q s).hub = s.hub := by
  unfold openLamps
  split
  · rw [foldl_keeps _ State.hub (by intro b a; split <;> simp)]; simp
  · simp
@[simp] theorem openLamps_loader (q : Fin 128) : (openLamps q s).loader = s.loader := by
  unfold openLamps
  split
  · rw [foldl_keeps _ State.loader (by intro b a; split <;> simp)]; simp
  · simp
@[simp] theorem openLamps_free (q : Fin 128) : (openLamps q s).free = s.free := by
  unfold openLamps
  split
  · rw [foldl_keeps _ State.free (by intro b a; split <;> simp)]; simp
  · simp
@[simp] theorem openLamps_pending (q : Fin 128) : (openLamps q s).pending = s.pending := by
  unfold openLamps
  split
  · rw [foldl_keeps _ State.pending (by intro b a; split <;> simp)]; simp
  · simp

@[simp] theorem openQuestion_now (q : Fin 128) : (openQuestion q s).now = s.now := by unfold openQuestion; simp
@[simp] theorem openQuestion_stamper (q : Fin 128) : (openQuestion q s).stamper = s.stamper := by unfold openQuestion; simp
@[simp] theorem openQuestion_teams (q : Fin 128) : (openQuestion q s).teams = s.teams := by unfold openQuestion; simp
@[simp] theorem openQuestion_questions (q : Fin 128) : (openQuestion q s).questions = s.questions := by unfold openQuestion; simp
@[simp] theorem openQuestion_cues (q : Fin 128) : (openQuestion q s).cues = s.cues := by unfold openQuestion; simp
@[simp] theorem openQuestion_score (q : Fin 128) : (openQuestion q s).score = s.score := by unfold openQuestion; simp
@[simp] theorem openQuestion_sorter (q : Fin 128) : (openQuestion q s).sorter = s.sorter := by unfold openQuestion; simp
@[simp] theorem openQuestion_link (q : Fin 128) : (openQuestion q s).link = s.link := by unfold openQuestion; simp
@[simp] theorem openQuestion_loader (q : Fin 128) : (openQuestion q s).loader = s.loader := by unfold openQuestion; simp
@[simp] theorem openQuestion_free (q : Fin 128) : (openQuestion q s).free = s.free := by unfold openQuestion; simp
@[simp] theorem openQuestion_pending (q : Fin 128) : (openQuestion q s).pending = s.pending := by unfold openQuestion; simp

@[simp] theorem openChosen_now (q : Option (Fin 128)) : ((openChosen q s).1).now = s.now := by unfold openChosen; (repeat' split) <;> simp
@[simp] theorem openChosen_stamper (q : Option (Fin 128)) : ((openChosen q s).1).stamper = s.stamper := by unfold openChosen; (repeat' split) <;> simp
@[simp] theorem openChosen_teams (q : Option (Fin 128)) : ((openChosen q s).1).teams = s.teams := by unfold openChosen; (repeat' split) <;> simp
@[simp] theorem openChosen_questions (q : Option (Fin 128)) : ((openChosen q s).1).questions = s.questions := by unfold openChosen; (repeat' split) <;> simp
@[simp] theorem openChosen_cues (q : Option (Fin 128)) : ((openChosen q s).1).cues = s.cues := by unfold openChosen; (repeat' split) <;> simp
@[simp] theorem openChosen_score (q : Option (Fin 128)) : ((openChosen q s).1).score = s.score := by unfold openChosen; (repeat' split) <;> simp
@[simp] theorem openChosen_sorter (q : Option (Fin 128)) : ((openChosen q s).1).sorter = s.sorter := by unfold openChosen; (repeat' split) <;> simp
@[simp] theorem openChosen_link (q : Option (Fin 128)) : ((openChosen q s).1).link = s.link := by unfold openChosen; (repeat' split) <;> simp
@[simp] theorem openChosen_loader (q : Option (Fin 128)) : ((openChosen q s).1).loader = s.loader := by unfold openChosen; (repeat' split) <;> simp
@[simp] theorem openChosen_free (q : Option (Fin 128)) : ((openChosen q s).1).free = s.free := by unfold openChosen; (repeat' split) <;> simp
@[simp] theorem openChosen_pending (q : Option (Fin 128)) : ((openChosen q s).1).pending = s.pending := by unfold openChosen; (repeat' split) <;> simp

@[simp] theorem openAction_now (q : Byte) : ((openAction q s).1).now = s.now := by unfold openAction; simp
@[simp] theorem openAction_stamper (q : Byte) : ((openAction q s).1).stamper = s.stamper := by unfold openAction; simp
@[simp] theorem openAction_teams (q : Byte) : ((openAction q s).1).teams = s.teams := by unfold openAction; simp
@[simp] theorem openAction_questions (q : Byte) : ((openAction q s).1).questions = s.questions := by unfold openAction; simp
@[simp] theorem openAction_cues (q : Byte) : ((openAction q s).1).cues = s.cues := by unfold openAction; simp
@[simp] theorem openAction_score (q : Byte) : ((openAction q s).1).score = s.score := by unfold openAction; simp
@[simp] theorem openAction_sorter (q : Byte) : ((openAction q s).1).sorter = s.sorter := by unfold openAction; simp
@[simp] theorem openAction_link (q : Byte) : ((openAction q s).1).link = s.link := by unfold openAction; simp
@[simp] theorem openAction_loader (q : Byte) : ((openAction q s).1).loader = s.loader := by unfold openAction; simp
@[simp] theorem openAction_free (q : Byte) : ((openAction q s).1).free = s.free := by unfold openAction; simp
@[simp] theorem openAction_pending (q : Byte) : ((openAction q s).1).pending = s.pending := by unfold openAction; simp

@[simp] theorem nextAction_now : ((nextAction s).1).now = s.now := by unfold nextAction; simp
@[simp] theorem nextAction_stamper : ((nextAction s).1).stamper = s.stamper := by unfold nextAction; simp
@[simp] theorem nextAction_teams : ((nextAction s).1).teams = s.teams := by unfold nextAction; simp
@[simp] theorem nextAction_questions : ((nextAction s).1).questions = s.questions := by unfold nextAction; simp
@[simp] theorem nextAction_cues : ((nextAction s).1).cues = s.cues := by unfold nextAction; simp
@[simp] theorem nextAction_score : ((nextAction s).1).score = s.score := by unfold nextAction; simp
@[simp] theorem nextAction_sorter : ((nextAction s).1).sorter = s.sorter := by unfold nextAction; simp
@[simp] theorem nextAction_link : ((nextAction s).1).link = s.link := by unfold nextAction; simp
@[simp] theorem nextAction_loader : ((nextAction s).1).loader = s.loader := by unfold nextAction; simp
@[simp] theorem nextAction_free : ((nextAction s).1).free = s.free := by unfold nextAction; simp
@[simp] theorem nextAction_pending : ((nextAction s).1).pending = s.pending := by unfold nextAction; simp

@[simp] theorem takePendingOpen_now : (takePendingOpen s).now = s.now := by
  simp only [takePendingOpen]
  (repeat' split) <;> simp
@[simp] theorem takePendingOpen_stamper : (takePendingOpen s).stamper = s.stamper := by
  simp only [takePendingOpen]
  (repeat' split) <;> simp
@[simp] theorem takePendingOpen_teams : (takePendingOpen s).teams = s.teams := by
  simp only [takePendingOpen]
  (repeat' split) <;> simp
@[simp] theorem takePendingOpen_questions : (takePendingOpen s).questions = s.questions := by
  simp only [takePendingOpen]
  (repeat' split) <;> simp
@[simp] theorem takePendingOpen_cues : (takePendingOpen s).cues = s.cues := by
  simp only [takePendingOpen]
  (repeat' split) <;> simp
@[simp] theorem takePendingOpen_score : (takePendingOpen s).score = s.score := by
  simp only [takePendingOpen]
  (repeat' split) <;> simp
@[simp] theorem takePendingOpen_sorter : (takePendingOpen s).sorter = s.sorter := by
  simp only [takePendingOpen]
  (repeat' split) <;> simp
@[simp] theorem takePendingOpen_link : (takePendingOpen s).link = s.link := by
  simp only [takePendingOpen]
  (repeat' split) <;> simp
@[simp] theorem takePendingOpen_loader : (takePendingOpen s).loader = s.loader := by
  simp only [takePendingOpen]
  (repeat' split) <;> simp
@[simp] theorem takePendingOpen_free : (takePendingOpen s).free = s.free := by
  simp only [takePendingOpen]
  (repeat' split) <;> simp
@[simp] theorem takePendingOpen_pending : (takePendingOpen s).pending = s.pending := by
  simp only [takePendingOpen]
  (repeat' split) <;> simp

@[simp] theorem roundAfterCommit_now : (roundAfterCommit s).now = s.now := by unfold roundAfterCommit; simp
@[simp] theorem roundAfterCommit_stamper : (roundAfterCommit s).stamper = s.stamper := by unfold roundAfterCommit; simp
@[simp] theorem roundAfterCommit_teams : (roundAfterCommit s).teams = s.teams := by unfold roundAfterCommit; simp
@[simp] theorem roundAfterCommit_questions : (roundAfterCommit s).questions = s.questions := by unfold roundAfterCommit; simp
@[simp] theorem roundAfterCommit_cues : (roundAfterCommit s).cues = s.cues := by unfold roundAfterCommit; simp
@[simp] theorem roundAfterCommit_score : (roundAfterCommit s).score = s.score := by unfold roundAfterCommit; simp
@[simp] theorem roundAfterCommit_sorter : (roundAfterCommit s).sorter = s.sorter := by unfold roundAfterCommit; simp
@[simp] theorem roundAfterCommit_link : (roundAfterCommit s).link = s.link := by unfold roundAfterCommit; simp
@[simp] theorem roundAfterCommit_loader : (roundAfterCommit s).loader = s.loader := by unfold roundAfterCommit; simp
@[simp] theorem roundAfterCommit_free : (roundAfterCommit s).free = s.free := by unfold roundAfterCommit; simp
@[simp] theorem roundAfterCommit_pending : (roundAfterCommit s).pending = s.pending := by unfold roundAfterCommit; simp

@[simp] theorem floorOpenAgain_now : (floorOpenAgain s).now = s.now := by simp [floorOpenAgain, apply_ite State.now]
@[simp] theorem floorOpenAgain_ports : (floorOpenAgain s).ports = s.ports := by simp [floorOpenAgain, apply_ite State.ports]
@[simp] theorem floorOpenAgain_stamper : (floorOpenAgain s).stamper = s.stamper := by simp [floorOpenAgain, apply_ite State.stamper]
@[simp] theorem floorOpenAgain_seats : (floorOpenAgain s).seats = s.seats := by simp [floorOpenAgain, apply_ite State.seats]
@[simp] theorem floorOpenAgain_teams : (floorOpenAgain s).teams = s.teams := by simp [floorOpenAgain, apply_ite State.teams]
@[simp] theorem floorOpenAgain_questions : (floorOpenAgain s).questions = s.questions := by simp [floorOpenAgain, apply_ite State.questions]
@[simp] theorem floorOpenAgain_cues : (floorOpenAgain s).cues = s.cues := by simp [floorOpenAgain, apply_ite State.cues]
@[simp] theorem floorOpenAgain_resp : (floorOpenAgain s).resp = s.resp := by simp [floorOpenAgain, apply_ite State.resp]
@[simp] theorem floorOpenAgain_buzz : (floorOpenAgain s).buzz = s.buzz := by simp [floorOpenAgain, apply_ite State.buzz]
@[simp] theorem floorOpenAgain_score : (floorOpenAgain s).score = s.score := by simp [floorOpenAgain, apply_ite State.score]
@[simp] theorem floorOpenAgain_sorter : (floorOpenAgain s).sorter = s.sorter := by simp [floorOpenAgain, apply_ite State.sorter]
@[simp] theorem floorOpenAgain_comp : (floorOpenAgain s).comp = s.comp := by simp [floorOpenAgain, apply_ite State.comp]
@[simp] theorem floorOpenAgain_link : (floorOpenAgain s).link = s.link := by simp [floorOpenAgain, apply_ite State.link]
@[simp] theorem floorOpenAgain_loader : (floorOpenAgain s).loader = s.loader := by simp [floorOpenAgain, apply_ite State.loader]
@[simp] theorem floorOpenAgain_free : (floorOpenAgain s).free = s.free := by simp [floorOpenAgain, apply_ite State.free]
@[simp] theorem floorOpenAgain_pending : (floorOpenAgain s).pending = s.pending := by simp [floorOpenAgain, apply_ite State.pending]

@[simp] theorem releaseWrong_now (n : Nat) : (releaseWrong n s).now = s.now := by simp [releaseWrong, apply_ite State.now]
@[simp] theorem releaseWrong_stamper (n : Nat) : (releaseWrong n s).stamper = s.stamper := by simp [releaseWrong, apply_ite State.stamper]
@[simp] theorem releaseWrong_teams (n : Nat) : (releaseWrong n s).teams = s.teams := by simp [releaseWrong, apply_ite State.teams]
@[simp] theorem releaseWrong_questions (n : Nat) : (releaseWrong n s).questions = s.questions := by simp [releaseWrong, apply_ite State.questions]
@[simp] theorem releaseWrong_cues (n : Nat) : (releaseWrong n s).cues = s.cues := by simp [releaseWrong, apply_ite State.cues]
@[simp] theorem releaseWrong_resp (n : Nat) : (releaseWrong n s).resp = s.resp := by simp [releaseWrong, apply_ite State.resp]
@[simp] theorem releaseWrong_sorter (n : Nat) : (releaseWrong n s).sorter = s.sorter := by simp [releaseWrong, apply_ite State.sorter]
@[simp] theorem releaseWrong_link (n : Nat) : (releaseWrong n s).link = s.link := by simp [releaseWrong, apply_ite State.link]
@[simp] theorem releaseWrong_loader (n : Nat) : (releaseWrong n s).loader = s.loader := by simp [releaseWrong, apply_ite State.loader]
@[simp] theorem releaseWrong_free (n : Nat) : (releaseWrong n s).free = s.free := by simp [releaseWrong, apply_ite State.free]
@[simp] theorem releaseWrong_pending (n : Nat) : (releaseWrong n s).pending = s.pending := by simp [releaseWrong, apply_ite State.pending]

@[simp] theorem recordVerdict_now (v : Verdict) (e : BuzzEntry) (r : List BuzzEntry) : (recordVerdict v e r s).now = s.now := by unfold recordVerdict; simp
@[simp] theorem recordVerdict_stamper (v : Verdict) (e : BuzzEntry) (r : List BuzzEntry) : (recordVerdict v e r s).stamper = s.stamper := by unfold recordVerdict; simp
@[simp] theorem recordVerdict_teams (v : Verdict) (e : BuzzEntry) (r : List BuzzEntry) : (recordVerdict v e r s).teams = s.teams := by unfold recordVerdict; simp
@[simp] theorem recordVerdict_questions (v : Verdict) (e : BuzzEntry) (r : List BuzzEntry) : (recordVerdict v e r s).questions = s.questions := by unfold recordVerdict; simp
@[simp] theorem recordVerdict_cues (v : Verdict) (e : BuzzEntry) (r : List BuzzEntry) : (recordVerdict v e r s).cues = s.cues := by unfold recordVerdict; simp
@[simp] theorem recordVerdict_round (v : Verdict) (e : BuzzEntry) (r : List BuzzEntry) : (recordVerdict v e r s).round = s.round := by unfold recordVerdict; simp
@[simp] theorem recordVerdict_resp (v : Verdict) (e : BuzzEntry) (r : List BuzzEntry) : (recordVerdict v e r s).resp = s.resp := by unfold recordVerdict; simp
@[simp] theorem recordVerdict_score (v : Verdict) (e : BuzzEntry) (r : List BuzzEntry) : (recordVerdict v e r s).score = s.score := by unfold recordVerdict; simp
@[simp] theorem recordVerdict_sorter (v : Verdict) (e : BuzzEntry) (r : List BuzzEntry) : (recordVerdict v e r s).sorter = s.sorter := by unfold recordVerdict; simp
@[simp] theorem recordVerdict_comp (v : Verdict) (e : BuzzEntry) (r : List BuzzEntry) : (recordVerdict v e r s).comp = s.comp := by unfold recordVerdict; simp
@[simp] theorem recordVerdict_link (v : Verdict) (e : BuzzEntry) (r : List BuzzEntry) : (recordVerdict v e r s).link = s.link := by unfold recordVerdict; simp
@[simp] theorem recordVerdict_loader (v : Verdict) (e : BuzzEntry) (r : List BuzzEntry) : (recordVerdict v e r s).loader = s.loader := by unfold recordVerdict; simp
@[simp] theorem recordVerdict_free (v : Verdict) (e : BuzzEntry) (r : List BuzzEntry) : (recordVerdict v e r s).free = s.free := by unfold recordVerdict; simp
@[simp] theorem recordVerdict_pending (v : Verdict) (e : BuzzEntry) (r : List BuzzEntry) : (recordVerdict v e r s).pending = s.pending := by unfold recordVerdict; simp

@[simp] theorem judgeHolder_now (v : Verdict) (e : BuzzEntry) (r : List BuzzEntry) : (judgeHolder v e r s).now = s.now := by simp [judgeHolder, apply_ite State.now]
@[simp] theorem judgeHolder_stamper (v : Verdict) (e : BuzzEntry) (r : List BuzzEntry) : (judgeHolder v e r s).stamper = s.stamper := by simp [judgeHolder, apply_ite State.stamper]
@[simp] theorem judgeHolder_teams (v : Verdict) (e : BuzzEntry) (r : List BuzzEntry) : (judgeHolder v e r s).teams = s.teams := by simp [judgeHolder, apply_ite State.teams]
@[simp] theorem judgeHolder_questions (v : Verdict) (e : BuzzEntry) (r : List BuzzEntry) : (judgeHolder v e r s).questions = s.questions := by simp [judgeHolder, apply_ite State.questions]
@[simp] theorem judgeHolder_cues (v : Verdict) (e : BuzzEntry) (r : List BuzzEntry) : (judgeHolder v e r s).cues = s.cues := by simp [judgeHolder, apply_ite State.cues]
@[simp] theorem judgeHolder_resp (v : Verdict) (e : BuzzEntry) (r : List BuzzEntry) : (judgeHolder v e r s).resp = s.resp := by simp [judgeHolder, apply_ite State.resp]
@[simp] theorem judgeHolder_sorter (v : Verdict) (e : BuzzEntry) (r : List BuzzEntry) : (judgeHolder v e r s).sorter = s.sorter := by simp [judgeHolder, apply_ite State.sorter]
@[simp] theorem judgeHolder_link (v : Verdict) (e : BuzzEntry) (r : List BuzzEntry) : (judgeHolder v e r s).link = s.link := by simp [judgeHolder, apply_ite State.link]
@[simp] theorem judgeHolder_loader (v : Verdict) (e : BuzzEntry) (r : List BuzzEntry) : (judgeHolder v e r s).loader = s.loader := by simp [judgeHolder, apply_ite State.loader]
@[simp] theorem judgeHolder_free (v : Verdict) (e : BuzzEntry) (r : List BuzzEntry) : (judgeHolder v e r s).free = s.free := by simp [judgeHolder, apply_ite State.free]
@[simp] theorem judgeHolder_pending (v : Verdict) (e : BuzzEntry) (r : List BuzzEntry) : (judgeHolder v e r s).pending = s.pending := by simp [judgeHolder, apply_ite State.pending]

@[simp] theorem judgeAction_now (t v : Byte) : ((judgeAction t v s).1).now = s.now := by unfold judgeAction; (repeat' split) <;> simp
@[simp] theorem judgeAction_stamper (t v : Byte) : ((judgeAction t v s).1).stamper = s.stamper := by unfold judgeAction; (repeat' split) <;> simp
@[simp] theorem judgeAction_teams (t v : Byte) : ((judgeAction t v s).1).teams = s.teams := by unfold judgeAction; (repeat' split) <;> simp
@[simp] theorem judgeAction_questions (t v : Byte) : ((judgeAction t v s).1).questions = s.questions := by unfold judgeAction; (repeat' split) <;> simp
@[simp] theorem judgeAction_cues (t v : Byte) : ((judgeAction t v s).1).cues = s.cues := by unfold judgeAction; (repeat' split) <;> simp
@[simp] theorem judgeAction_resp (t v : Byte) : ((judgeAction t v s).1).resp = s.resp := by unfold judgeAction; (repeat' split) <;> simp
@[simp] theorem judgeAction_sorter (t v : Byte) : ((judgeAction t v s).1).sorter = s.sorter := by unfold judgeAction; (repeat' split) <;> simp
@[simp] theorem judgeAction_link (t v : Byte) : ((judgeAction t v s).1).link = s.link := by unfold judgeAction; (repeat' split) <;> simp
@[simp] theorem judgeAction_loader (t v : Byte) : ((judgeAction t v s).1).loader = s.loader := by unfold judgeAction; (repeat' split) <;> simp
@[simp] theorem judgeAction_free (t v : Byte) : ((judgeAction t v s).1).free = s.free := by unfold judgeAction; (repeat' split) <;> simp
@[simp] theorem judgeAction_pending (t v : Byte) : ((judgeAction t v s).1).pending = s.pending := by unfold judgeAction; (repeat' split) <;> simp

@[simp] theorem answerTimeout_now : (answerTimeout s).now = s.now := by unfold answerTimeout; (repeat' split) <;> simp
@[simp] theorem answerTimeout_stamper : (answerTimeout s).stamper = s.stamper := by unfold answerTimeout; (repeat' split) <;> simp
@[simp] theorem answerTimeout_teams : (answerTimeout s).teams = s.teams := by unfold answerTimeout; (repeat' split) <;> simp
@[simp] theorem answerTimeout_questions : (answerTimeout s).questions = s.questions := by unfold answerTimeout; (repeat' split) <;> simp
@[simp] theorem answerTimeout_cues : (answerTimeout s).cues = s.cues := by unfold answerTimeout; (repeat' split) <;> simp
@[simp] theorem answerTimeout_resp : (answerTimeout s).resp = s.resp := by unfold answerTimeout; (repeat' split) <;> simp
@[simp] theorem answerTimeout_sorter : (answerTimeout s).sorter = s.sorter := by unfold answerTimeout; (repeat' split) <;> simp
@[simp] theorem answerTimeout_link : (answerTimeout s).link = s.link := by unfold answerTimeout; (repeat' split) <;> simp
@[simp] theorem answerTimeout_loader : (answerTimeout s).loader = s.loader := by unfold answerTimeout; (repeat' split) <;> simp
@[simp] theorem answerTimeout_free : (answerTimeout s).free = s.free := by unfold answerTimeout; (repeat' split) <;> simp
@[simp] theorem answerTimeout_pending : (answerTimeout s).pending = s.pending := by unfold answerTimeout; (repeat' split) <;> simp

@[simp] theorem insertEntry_now (k : Fin 256) (t : Fin 16) (x : Time) (m : Marks) : (insertEntry k t x m s).now = s.now := by simp [insertEntry, apply_ite State.now]
@[simp] theorem insertEntry_stamper (k : Fin 256) (t : Fin 16) (x : Time) (m : Marks) : (insertEntry k t x m s).stamper = s.stamper := by simp [insertEntry, apply_ite State.stamper]
@[simp] theorem insertEntry_teams (k : Fin 256) (t : Fin 16) (x : Time) (m : Marks) : (insertEntry k t x m s).teams = s.teams := by simp [insertEntry, apply_ite State.teams]
@[simp] theorem insertEntry_questions (k : Fin 256) (t : Fin 16) (x : Time) (m : Marks) : (insertEntry k t x m s).questions = s.questions := by simp [insertEntry, apply_ite State.questions]
@[simp] theorem insertEntry_cues (k : Fin 256) (t : Fin 16) (x : Time) (m : Marks) : (insertEntry k t x m s).cues = s.cues := by simp [insertEntry, apply_ite State.cues]
@[simp] theorem insertEntry_resp (k : Fin 256) (t : Fin 16) (x : Time) (m : Marks) : (insertEntry k t x m s).resp = s.resp := by simp [insertEntry, apply_ite State.resp]
@[simp] theorem insertEntry_score (k : Fin 256) (t : Fin 16) (x : Time) (m : Marks) : (insertEntry k t x m s).score = s.score := by simp [insertEntry, apply_ite State.score]
@[simp] theorem insertEntry_sorter (k : Fin 256) (t : Fin 16) (x : Time) (m : Marks) : (insertEntry k t x m s).sorter = s.sorter := by simp [insertEntry, apply_ite State.sorter]
@[simp] theorem insertEntry_link (k : Fin 256) (t : Fin 16) (x : Time) (m : Marks) : (insertEntry k t x m s).link = s.link := by simp [insertEntry, apply_ite State.link]
@[simp] theorem insertEntry_loader (k : Fin 256) (t : Fin 16) (x : Time) (m : Marks) : (insertEntry k t x m s).loader = s.loader := by simp [insertEntry, apply_ite State.loader]
@[simp] theorem insertEntry_free (k : Fin 256) (t : Fin 16) (x : Time) (m : Marks) : (insertEntry k t x m s).free = s.free := by simp [insertEntry, apply_ite State.free]
@[simp] theorem insertEntry_pending (k : Fin 256) (t : Fin 16) (x : Time) (m : Marks) : (insertEntry k t x m s).pending = s.pending := by simp [insertEntry, apply_ite State.pending]

@[simp] theorem falseStart_now (k : Fin 256) (t : Fin 16) (x : Time) (m : Marks) : (falseStart k t x m s).now = s.now := by unfold falseStart; simp
@[simp] theorem falseStart_stamper (k : Fin 256) (t : Fin 16) (x : Time) (m : Marks) : (falseStart k t x m s).stamper = s.stamper := by unfold falseStart; simp
@[simp] theorem falseStart_teams (k : Fin 256) (t : Fin 16) (x : Time) (m : Marks) : (falseStart k t x m s).teams = s.teams := by unfold falseStart; simp
@[simp] theorem falseStart_questions (k : Fin 256) (t : Fin 16) (x : Time) (m : Marks) : (falseStart k t x m s).questions = s.questions := by unfold falseStart; simp
@[simp] theorem falseStart_cues (k : Fin 256) (t : Fin 16) (x : Time) (m : Marks) : (falseStart k t x m s).cues = s.cues := by unfold falseStart; simp
@[simp] theorem falseStart_round (k : Fin 256) (t : Fin 16) (x : Time) (m : Marks) : (falseStart k t x m s).round = s.round := by unfold falseStart; simp
@[simp] theorem falseStart_buzz (k : Fin 256) (t : Fin 16) (x : Time) (m : Marks) : (falseStart k t x m s).buzz = s.buzz := by unfold falseStart; simp
@[simp] theorem falseStart_score (k : Fin 256) (t : Fin 16) (x : Time) (m : Marks) : (falseStart k t x m s).score = s.score := by unfold falseStart; simp
@[simp] theorem falseStart_sorter (k : Fin 256) (t : Fin 16) (x : Time) (m : Marks) : (falseStart k t x m s).sorter = s.sorter := by unfold falseStart; simp
@[simp] theorem falseStart_comp (k : Fin 256) (t : Fin 16) (x : Time) (m : Marks) : (falseStart k t x m s).comp = s.comp := by unfold falseStart; simp
@[simp] theorem falseStart_link (k : Fin 256) (t : Fin 16) (x : Time) (m : Marks) : (falseStart k t x m s).link = s.link := by unfold falseStart; simp
@[simp] theorem falseStart_loader (k : Fin 256) (t : Fin 16) (x : Time) (m : Marks) : (falseStart k t x m s).loader = s.loader := by unfold falseStart; simp
@[simp] theorem falseStart_free (k : Fin 256) (t : Fin 16) (x : Time) (m : Marks) : (falseStart k t x m s).free = s.free := by unfold falseStart; simp
@[simp] theorem falseStart_pending (k : Fin 256) (t : Fin 16) (x : Time) (m : Marks) : (falseStart k t x m s).pending = s.pending := by unfold falseStart; simp

@[simp] theorem takeBuzz_now (k : Fin 256) (t : Option (Fin 16)) (x : Time) (m : Marks) : (takeBuzz k t x m s).now = s.now := by unfold takeBuzz; (repeat' split) <;> simp
@[simp] theorem takeBuzz_stamper (k : Fin 256) (t : Option (Fin 16)) (x : Time) (m : Marks) : (takeBuzz k t x m s).stamper = s.stamper := by unfold takeBuzz; (repeat' split) <;> simp
@[simp] theorem takeBuzz_teams (k : Fin 256) (t : Option (Fin 16)) (x : Time) (m : Marks) : (takeBuzz k t x m s).teams = s.teams := by unfold takeBuzz; (repeat' split) <;> simp
@[simp] theorem takeBuzz_questions (k : Fin 256) (t : Option (Fin 16)) (x : Time) (m : Marks) : (takeBuzz k t x m s).questions = s.questions := by unfold takeBuzz; (repeat' split) <;> simp
@[simp] theorem takeBuzz_cues (k : Fin 256) (t : Option (Fin 16)) (x : Time) (m : Marks) : (takeBuzz k t x m s).cues = s.cues := by unfold takeBuzz; (repeat' split) <;> simp
@[simp] theorem takeBuzz_score (k : Fin 256) (t : Option (Fin 16)) (x : Time) (m : Marks) : (takeBuzz k t x m s).score = s.score := by unfold takeBuzz; (repeat' split) <;> simp
@[simp] theorem takeBuzz_sorter (k : Fin 256) (t : Option (Fin 16)) (x : Time) (m : Marks) : (takeBuzz k t x m s).sorter = s.sorter := by unfold takeBuzz; (repeat' split) <;> simp
@[simp] theorem takeBuzz_link (k : Fin 256) (t : Option (Fin 16)) (x : Time) (m : Marks) : (takeBuzz k t x m s).link = s.link := by unfold takeBuzz; (repeat' split) <;> simp
@[simp] theorem takeBuzz_loader (k : Fin 256) (t : Option (Fin 16)) (x : Time) (m : Marks) : (takeBuzz k t x m s).loader = s.loader := by unfold takeBuzz; (repeat' split) <;> simp
@[simp] theorem takeBuzz_free (k : Fin 256) (t : Option (Fin 16)) (x : Time) (m : Marks) : (takeBuzz k t x m s).free = s.free := by unfold takeBuzz; (repeat' split) <;> simp
@[simp] theorem takeBuzz_pending (k : Fin 256) (t : Option (Fin 16)) (x : Time) (m : Marks) : (takeBuzz k t x m s).pending = s.pending := by unfold takeBuzz; (repeat' split) <;> simp

end Sys2Proof.Machine
end

