-- ==== Sys2Proof/Laws/PressFrames.lean ====
section
/-! SUPPORT. What each operation of Machine/PressOps.lean leaves unchanged: one simp lemma for each block that it does not touch. -/

namespace Sys2Proof.Machine

variable (s : State)

@[simp] theorem raiseAnswer_now (k : Fin 256) (t : Fin 16) (a : Answer) (x : Time) (m : Marks) : (raiseAnswer k t a x m s).now = s.now := by simp [raiseAnswer, apply_ite State.now]
@[simp] theorem raiseAnswer_ports (k : Fin 256) (t : Fin 16) (a : Answer) (x : Time) (m : Marks) : (raiseAnswer k t a x m s).ports = s.ports := by simp [raiseAnswer, apply_ite State.ports]
@[simp] theorem raiseAnswer_stamper (k : Fin 256) (t : Fin 16) (a : Answer) (x : Time) (m : Marks) : (raiseAnswer k t a x m s).stamper = s.stamper := by simp [raiseAnswer, apply_ite State.stamper]
@[simp] theorem raiseAnswer_seats (k : Fin 256) (t : Fin 16) (a : Answer) (x : Time) (m : Marks) : (raiseAnswer k t a x m s).seats = s.seats := by simp [raiseAnswer, apply_ite State.seats]
@[simp] theorem raiseAnswer_teams (k : Fin 256) (t : Fin 16) (a : Answer) (x : Time) (m : Marks) : (raiseAnswer k t a x m s).teams = s.teams := by simp [raiseAnswer, apply_ite State.teams]
@[simp] theorem raiseAnswer_questions (k : Fin 256) (t : Fin 16) (a : Answer) (x : Time) (m : Marks) : (raiseAnswer k t a x m s).questions = s.questions := by simp [raiseAnswer, apply_ite State.questions]
@[simp] theorem raiseAnswer_cues (k : Fin 256) (t : Fin 16) (a : Answer) (x : Time) (m : Marks) : (raiseAnswer k t a x m s).cues = s.cues := by simp [raiseAnswer, apply_ite State.cues]
@[simp] theorem raiseAnswer_round (k : Fin 256) (t : Fin 16) (a : Answer) (x : Time) (m : Marks) : (raiseAnswer k t a x m s).round = s.round := by simp [raiseAnswer, apply_ite State.round]
@[simp] theorem raiseAnswer_resp (k : Fin 256) (t : Fin 16) (a : Answer) (x : Time) (m : Marks) : (raiseAnswer k t a x m s).resp = s.resp := by simp [raiseAnswer, apply_ite State.resp]
@[simp] theorem raiseAnswer_buzz (k : Fin 256) (t : Fin 16) (a : Answer) (x : Time) (m : Marks) : (raiseAnswer k t a x m s).buzz = s.buzz := by simp [raiseAnswer, apply_ite State.buzz]
@[simp] theorem raiseAnswer_score (k : Fin 256) (t : Fin 16) (a : Answer) (x : Time) (m : Marks) : (raiseAnswer k t a x m s).score = s.score := by simp [raiseAnswer, apply_ite State.score]
@[simp] theorem raiseAnswer_sorter (k : Fin 256) (t : Fin 16) (a : Answer) (x : Time) (m : Marks) : (raiseAnswer k t a x m s).sorter = s.sorter := by simp [raiseAnswer, apply_ite State.sorter]
@[simp] theorem raiseAnswer_comp (k : Fin 256) (t : Fin 16) (a : Answer) (x : Time) (m : Marks) : (raiseAnswer k t a x m s).comp = s.comp := by simp [raiseAnswer, apply_ite State.comp]
@[simp] theorem raiseAnswer_link (k : Fin 256) (t : Fin 16) (a : Answer) (x : Time) (m : Marks) : (raiseAnswer k t a x m s).link = s.link := by simp [raiseAnswer, apply_ite State.link]
@[simp] theorem raiseAnswer_loader (k : Fin 256) (t : Fin 16) (a : Answer) (x : Time) (m : Marks) : (raiseAnswer k t a x m s).loader = s.loader := by simp [raiseAnswer, apply_ite State.loader]
@[simp] theorem raiseAnswer_free (k : Fin 256) (t : Fin 16) (a : Answer) (x : Time) (m : Marks) : (raiseAnswer k t a x m s).free = s.free := by simp [raiseAnswer, apply_ite State.free]
@[simp] theorem raiseAnswer_pending (k : Fin 256) (t : Fin 16) (a : Answer) (x : Time) (m : Marks) : (raiseAnswer k t a x m s).pending = s.pending := by simp [raiseAnswer, apply_ite State.pending]

@[simp] theorem answerTaken_now (k : Fin 256) (t : Fin 16) (a : Answer) (x : Time) (m : Marks) : (answerTaken k t a x m s).now = s.now := by unfold answerTaken; simp
@[simp] theorem answerTaken_stamper (k : Fin 256) (t : Fin 16) (a : Answer) (x : Time) (m : Marks) : (answerTaken k t a x m s).stamper = s.stamper := by unfold answerTaken; simp
@[simp] theorem answerTaken_teams (k : Fin 256) (t : Fin 16) (a : Answer) (x : Time) (m : Marks) : (answerTaken k t a x m s).teams = s.teams := by unfold answerTaken; simp
@[simp] theorem answerTaken_questions (k : Fin 256) (t : Fin 16) (a : Answer) (x : Time) (m : Marks) : (answerTaken k t a x m s).questions = s.questions := by unfold answerTaken; simp
@[simp] theorem answerTaken_cues (k : Fin 256) (t : Fin 16) (a : Answer) (x : Time) (m : Marks) : (answerTaken k t a x m s).cues = s.cues := by unfold answerTaken; simp
@[simp] theorem answerTaken_round (k : Fin 256) (t : Fin 16) (a : Answer) (x : Time) (m : Marks) : (answerTaken k t a x m s).round = s.round := by unfold answerTaken; simp
@[simp] theorem answerTaken_resp (k : Fin 256) (t : Fin 16) (a : Answer) (x : Time) (m : Marks) : (answerTaken k t a x m s).resp = s.resp := by unfold answerTaken; simp
@[simp] theorem answerTaken_buzz (k : Fin 256) (t : Fin 16) (a : Answer) (x : Time) (m : Marks) : (answerTaken k t a x m s).buzz = s.buzz := by unfold answerTaken; simp
@[simp] theorem answerTaken_score (k : Fin 256) (t : Fin 16) (a : Answer) (x : Time) (m : Marks) : (answerTaken k t a x m s).score = s.score := by unfold answerTaken; simp
@[simp] theorem answerTaken_sorter (k : Fin 256) (t : Fin 16) (a : Answer) (x : Time) (m : Marks) : (answerTaken k t a x m s).sorter = s.sorter := by unfold answerTaken; simp
@[simp] theorem answerTaken_comp (k : Fin 256) (t : Fin 16) (a : Answer) (x : Time) (m : Marks) : (answerTaken k t a x m s).comp = s.comp := by unfold answerTaken; simp
@[simp] theorem answerTaken_link (k : Fin 256) (t : Fin 16) (a : Answer) (x : Time) (m : Marks) : (answerTaken k t a x m s).link = s.link := by unfold answerTaken; simp
@[simp] theorem answerTaken_loader (k : Fin 256) (t : Fin 16) (a : Answer) (x : Time) (m : Marks) : (answerTaken k t a x m s).loader = s.loader := by unfold answerTaken; simp
@[simp] theorem answerTaken_free (k : Fin 256) (t : Fin 16) (a : Answer) (x : Time) (m : Marks) : (answerTaken k t a x m s).free = s.free := by unfold answerTaken; simp
@[simp] theorem answerTaken_pending (k : Fin 256) (t : Fin 16) (a : Answer) (x : Time) (m : Marks) : (answerTaken k t a x m s).pending = s.pending := by unfold answerTaken; simp

@[simp] theorem recordAnswer_now (k : Fin 256) (r : Response) (t : Tallies) : (recordAnswer k r t s).now = s.now := by unfold recordAnswer; split <;> simp
@[simp] theorem recordAnswer_ports (k : Fin 256) (r : Response) (t : Tallies) : (recordAnswer k r t s).ports = s.ports := by unfold recordAnswer; split <;> simp
@[simp] theorem recordAnswer_stamper (k : Fin 256) (r : Response) (t : Tallies) : (recordAnswer k r t s).stamper = s.stamper := by unfold recordAnswer; split <;> simp
@[simp] theorem recordAnswer_seats (k : Fin 256) (r : Response) (t : Tallies) : (recordAnswer k r t s).seats = s.seats := by unfold recordAnswer; split <;> simp
@[simp] theorem recordAnswer_teams (k : Fin 256) (r : Response) (t : Tallies) : (recordAnswer k r t s).teams = s.teams := by unfold recordAnswer; split <;> simp
@[simp] theorem recordAnswer_questions (k : Fin 256) (r : Response) (t : Tallies) : (recordAnswer k r t s).questions = s.questions := by unfold recordAnswer; split <;> simp
@[simp] theorem recordAnswer_cues (k : Fin 256) (r : Response) (t : Tallies) : (recordAnswer k r t s).cues = s.cues := by unfold recordAnswer; split <;> simp
@[simp] theorem recordAnswer_round (k : Fin 256) (r : Response) (t : Tallies) : (recordAnswer k r t s).round = s.round := by unfold recordAnswer; split <;> simp
@[simp] theorem recordAnswer_buzz (k : Fin 256) (r : Response) (t : Tallies) : (recordAnswer k r t s).buzz = s.buzz := by unfold recordAnswer; split <;> simp
@[simp] theorem recordAnswer_score (k : Fin 256) (r : Response) (t : Tallies) : (recordAnswer k r t s).score = s.score := by unfold recordAnswer; split <;> simp
@[simp] theorem recordAnswer_sorter (k : Fin 256) (r : Response) (t : Tallies) : (recordAnswer k r t s).sorter = s.sorter := by unfold recordAnswer; split <;> simp
@[simp] theorem recordAnswer_link (k : Fin 256) (r : Response) (t : Tallies) : (recordAnswer k r t s).link = s.link := by unfold recordAnswer; split <;> simp
@[simp] theorem recordAnswer_hub (k : Fin 256) (r : Response) (t : Tallies) : (recordAnswer k r t s).hub = s.hub := by unfold recordAnswer; split <;> simp
@[simp] theorem recordAnswer_loader (k : Fin 256) (r : Response) (t : Tallies) : (recordAnswer k r t s).loader = s.loader := by unfold recordAnswer; split <;> simp
@[simp] theorem recordAnswer_free (k : Fin 256) (r : Response) (t : Tallies) : (recordAnswer k r t s).free = s.free := by unfold recordAnswer; split <;> simp
@[simp] theorem recordAnswer_pending (k : Fin 256) (r : Response) (t : Tallies) : (recordAnswer k r t s).pending = s.pending := by unfold recordAnswer; split <;> simp
@[simp] theorem recordAnswer_resp (k : Fin 256) (r : Response) (t : Tallies) : (recordAnswer k r t s).resp = ⟨s.resp.header, s.resp.records.set k r, t⟩ := by unfold recordAnswer; split <;> simp

@[simp] theorem firstAnswer_now (k : Fin 256) (t : Fin 16) (a : Answer) (x : Time) (m : Marks) : (firstAnswer k t a x m s).now = s.now := by unfold firstAnswer; simp
@[simp] theorem firstAnswer_stamper (k : Fin 256) (t : Fin 16) (a : Answer) (x : Time) (m : Marks) : (firstAnswer k t a x m s).stamper = s.stamper := by unfold firstAnswer; simp
@[simp] theorem firstAnswer_teams (k : Fin 256) (t : Fin 16) (a : Answer) (x : Time) (m : Marks) : (firstAnswer k t a x m s).teams = s.teams := by unfold firstAnswer; simp
@[simp] theorem firstAnswer_questions (k : Fin 256) (t : Fin 16) (a : Answer) (x : Time) (m : Marks) : (firstAnswer k t a x m s).questions = s.questions := by unfold firstAnswer; simp
@[simp] theorem firstAnswer_cues (k : Fin 256) (t : Fin 16) (a : Answer) (x : Time) (m : Marks) : (firstAnswer k t a x m s).cues = s.cues := by unfold firstAnswer; simp
@[simp] theorem firstAnswer_round (k : Fin 256) (t : Fin 16) (a : Answer) (x : Time) (m : Marks) : (firstAnswer k t a x m s).round = s.round := by unfold firstAnswer; simp
@[simp] theorem firstAnswer_buzz (k : Fin 256) (t : Fin 16) (a : Answer) (x : Time) (m : Marks) : (firstAnswer k t a x m s).buzz = s.buzz := by unfold firstAnswer; simp
@[simp] theorem firstAnswer_score (k : Fin 256) (t : Fin 16) (a : Answer) (x : Time) (m : Marks) : (firstAnswer k t a x m s).score = s.score := by unfold firstAnswer; simp
@[simp] theorem firstAnswer_sorter (k : Fin 256) (t : Fin 16) (a : Answer) (x : Time) (m : Marks) : (firstAnswer k t a x m s).sorter = s.sorter := by unfold firstAnswer; simp
@[simp] theorem firstAnswer_link (k : Fin 256) (t : Fin 16) (a : Answer) (x : Time) (m : Marks) : (firstAnswer k t a x m s).link = s.link := by unfold firstAnswer; simp
@[simp] theorem firstAnswer_loader (k : Fin 256) (t : Fin 16) (a : Answer) (x : Time) (m : Marks) : (firstAnswer k t a x m s).loader = s.loader := by unfold firstAnswer; simp
@[simp] theorem firstAnswer_free (k : Fin 256) (t : Fin 16) (a : Answer) (x : Time) (m : Marks) : (firstAnswer k t a x m s).free = s.free := by unfold firstAnswer; simp
@[simp] theorem firstAnswer_pending (k : Fin 256) (t : Fin 16) (a : Answer) (x : Time) (m : Marks) : (firstAnswer k t a x m s).pending = s.pending := by unfold firstAnswer; simp

@[simp] theorem acceptedChange_now (k : Fin 256) (t : Fin 16) (o a : Answer) (x : Time) (m : Marks) : (acceptedChange k t o a x m s).now = s.now := by unfold acceptedChange; simp
@[simp] theorem acceptedChange_stamper (k : Fin 256) (t : Fin 16) (o a : Answer) (x : Time) (m : Marks) : (acceptedChange k t o a x m s).stamper = s.stamper := by unfold acceptedChange; simp
@[simp] theorem acceptedChange_teams (k : Fin 256) (t : Fin 16) (o a : Answer) (x : Time) (m : Marks) : (acceptedChange k t o a x m s).teams = s.teams := by unfold acceptedChange; simp
@[simp] theorem acceptedChange_questions (k : Fin 256) (t : Fin 16) (o a : Answer) (x : Time) (m : Marks) : (acceptedChange k t o a x m s).questions = s.questions := by unfold acceptedChange; simp
@[simp] theorem acceptedChange_cues (k : Fin 256) (t : Fin 16) (o a : Answer) (x : Time) (m : Marks) : (acceptedChange k t o a x m s).cues = s.cues := by unfold acceptedChange; simp
@[simp] theorem acceptedChange_round (k : Fin 256) (t : Fin 16) (o a : Answer) (x : Time) (m : Marks) : (acceptedChange k t o a x m s).round = s.round := by unfold acceptedChange; simp
@[simp] theorem acceptedChange_buzz (k : Fin 256) (t : Fin 16) (o a : Answer) (x : Time) (m : Marks) : (acceptedChange k t o a x m s).buzz = s.buzz := by unfold acceptedChange; simp
@[simp] theorem acceptedChange_score (k : Fin 256) (t : Fin 16) (o a : Answer) (x : Time) (m : Marks) : (acceptedChange k t o a x m s).score = s.score := by unfold acceptedChange; simp
@[simp] theorem acceptedChange_sorter (k : Fin 256) (t : Fin 16) (o a : Answer) (x : Time) (m : Marks) : (acceptedChange k t o a x m s).sorter = s.sorter := by unfold acceptedChange; simp
@[simp] theorem acceptedChange_link (k : Fin 256) (t : Fin 16) (o a : Answer) (x : Time) (m : Marks) : (acceptedChange k t o a x m s).link = s.link := by unfold acceptedChange; simp
@[simp] theorem acceptedChange_loader (k : Fin 256) (t : Fin 16) (o a : Answer) (x : Time) (m : Marks) : (acceptedChange k t o a x m s).loader = s.loader := by unfold acceptedChange; simp
@[simp] theorem acceptedChange_free (k : Fin 256) (t : Fin 16) (o a : Answer) (x : Time) (m : Marks) : (acceptedChange k t o a x m s).free = s.free := by unfold acceptedChange; simp
@[simp] theorem acceptedChange_pending (k : Fin 256) (t : Fin 16) (o a : Answer) (x : Time) (m : Marks) : (acceptedChange k t o a x m s).pending = s.pending := by unfold acceptedChange; simp

@[simp] theorem takeAnswer_now (k : Fin 256) (t : Fin 16) (a : Answer) (x : Time) (m : Marks) : (takeAnswer k t a x m s).now = s.now := by unfold takeAnswer; (repeat' split) <;> simp
@[simp] theorem takeAnswer_stamper (k : Fin 256) (t : Fin 16) (a : Answer) (x : Time) (m : Marks) : (takeAnswer k t a x m s).stamper = s.stamper := by unfold takeAnswer; (repeat' split) <;> simp
@[simp] theorem takeAnswer_teams (k : Fin 256) (t : Fin 16) (a : Answer) (x : Time) (m : Marks) : (takeAnswer k t a x m s).teams = s.teams := by unfold takeAnswer; (repeat' split) <;> simp
@[simp] theorem takeAnswer_questions (k : Fin 256) (t : Fin 16) (a : Answer) (x : Time) (m : Marks) : (takeAnswer k t a x m s).questions = s.questions := by unfold takeAnswer; (repeat' split) <;> simp
@[simp] theorem takeAnswer_cues (k : Fin 256) (t : Fin 16) (a : Answer) (x : Time) (m : Marks) : (takeAnswer k t a x m s).cues = s.cues := by unfold takeAnswer; (repeat' split) <;> simp
@[simp] theorem takeAnswer_round (k : Fin 256) (t : Fin 16) (a : Answer) (x : Time) (m : Marks) : (takeAnswer k t a x m s).round = s.round := by unfold takeAnswer; (repeat' split) <;> simp
@[simp] theorem takeAnswer_buzz (k : Fin 256) (t : Fin 16) (a : Answer) (x : Time) (m : Marks) : (takeAnswer k t a x m s).buzz = s.buzz := by unfold takeAnswer; (repeat' split) <;> simp
@[simp] theorem takeAnswer_score (k : Fin 256) (t : Fin 16) (a : Answer) (x : Time) (m : Marks) : (takeAnswer k t a x m s).score = s.score := by unfold takeAnswer; (repeat' split) <;> simp
@[simp] theorem takeAnswer_sorter (k : Fin 256) (t : Fin 16) (a : Answer) (x : Time) (m : Marks) : (takeAnswer k t a x m s).sorter = s.sorter := by unfold takeAnswer; (repeat' split) <;> simp
@[simp] theorem takeAnswer_link (k : Fin 256) (t : Fin 16) (a : Answer) (x : Time) (m : Marks) : (takeAnswer k t a x m s).link = s.link := by unfold takeAnswer; (repeat' split) <;> simp
@[simp] theorem takeAnswer_loader (k : Fin 256) (t : Fin 16) (a : Answer) (x : Time) (m : Marks) : (takeAnswer k t a x m s).loader = s.loader := by unfold takeAnswer; (repeat' split) <;> simp
@[simp] theorem takeAnswer_free (k : Fin 256) (t : Fin 16) (a : Answer) (x : Time) (m : Marks) : (takeAnswer k t a x m s).free = s.free := by unfold takeAnswer; (repeat' split) <;> simp
@[simp] theorem takeAnswer_pending (k : Fin 256) (t : Fin 16) (a : Answer) (x : Time) (m : Marks) : (takeAnswer k t a x m s).pending = s.pending := by unfold takeAnswer; (repeat' split) <;> simp

@[simp] theorem setResponseState_now (k : Fin 256) (x : ResponseState) : (setResponseState k x s).now = s.now := by unfold setResponseState; simp
@[simp] theorem setResponseState_ports (k : Fin 256) (x : ResponseState) : (setResponseState k x s).ports = s.ports := by unfold setResponseState; simp
@[simp] theorem setResponseState_stamper (k : Fin 256) (x : ResponseState) : (setResponseState k x s).stamper = s.stamper := by unfold setResponseState; simp
@[simp] theorem setResponseState_seats (k : Fin 256) (x : ResponseState) : (setResponseState k x s).seats = s.seats := by unfold setResponseState; simp
@[simp] theorem setResponseState_teams (k : Fin 256) (x : ResponseState) : (setResponseState k x s).teams = s.teams := by unfold setResponseState; simp
@[simp] theorem setResponseState_questions (k : Fin 256) (x : ResponseState) : (setResponseState k x s).questions = s.questions := by unfold setResponseState; simp
@[simp] theorem setResponseState_cues (k : Fin 256) (x : ResponseState) : (setResponseState k x s).cues = s.cues := by unfold setResponseState; simp
@[simp] theorem setResponseState_round (k : Fin 256) (x : ResponseState) : (setResponseState k x s).round = s.round := by unfold setResponseState; simp
@[simp] theorem setResponseState_buzz (k : Fin 256) (x : ResponseState) : (setResponseState k x s).buzz = s.buzz := by unfold setResponseState; simp
@[simp] theorem setResponseState_score (k : Fin 256) (x : ResponseState) : (setResponseState k x s).score = s.score := by unfold setResponseState; simp
@[simp] theorem setResponseState_sorter (k : Fin 256) (x : ResponseState) : (setResponseState k x s).sorter = s.sorter := by unfold setResponseState; simp
@[simp] theorem setResponseState_comp (k : Fin 256) (x : ResponseState) : (setResponseState k x s).comp = s.comp := by unfold setResponseState; simp
@[simp] theorem setResponseState_link (k : Fin 256) (x : ResponseState) : (setResponseState k x s).link = s.link := by unfold setResponseState; simp
@[simp] theorem setResponseState_hub (k : Fin 256) (x : ResponseState) : (setResponseState k x s).hub = s.hub := by unfold setResponseState; simp
@[simp] theorem setResponseState_loader (k : Fin 256) (x : ResponseState) : (setResponseState k x s).loader = s.loader := by unfold setResponseState; simp
@[simp] theorem setResponseState_free (k : Fin 256) (x : ResponseState) : (setResponseState k x s).free = s.free := by unfold setResponseState; simp
@[simp] theorem setResponseState_pending (k : Fin 256) (x : ResponseState) : (setResponseState k x s).pending = s.pending := by unfold setResponseState; simp

@[simp] theorem judgePress_now (k : Fin 256) (t : Option (Fin 16)) (a : Option Answer) (x : Time) (m : Marks) : (judgePress k t a x m s).now = s.now := by unfold judgePress; (repeat' split) <;> simp
@[simp] theorem judgePress_stamper (k : Fin 256) (t : Option (Fin 16)) (a : Option Answer) (x : Time) (m : Marks) : (judgePress k t a x m s).stamper = s.stamper := by unfold judgePress; (repeat' split) <;> simp
@[simp] theorem judgePress_teams (k : Fin 256) (t : Option (Fin 16)) (a : Option Answer) (x : Time) (m : Marks) : (judgePress k t a x m s).teams = s.teams := by unfold judgePress; (repeat' split) <;> simp
@[simp] theorem judgePress_questions (k : Fin 256) (t : Option (Fin 16)) (a : Option Answer) (x : Time) (m : Marks) : (judgePress k t a x m s).questions = s.questions := by unfold judgePress; (repeat' split) <;> simp
@[simp] theorem judgePress_cues (k : Fin 256) (t : Option (Fin 16)) (a : Option Answer) (x : Time) (m : Marks) : (judgePress k t a x m s).cues = s.cues := by unfold judgePress; (repeat' split) <;> simp
@[simp] theorem judgePress_round (k : Fin 256) (t : Option (Fin 16)) (a : Option Answer) (x : Time) (m : Marks) : (judgePress k t a x m s).round = s.round := by unfold judgePress; (repeat' split) <;> simp
@[simp] theorem judgePress_buzz (k : Fin 256) (t : Option (Fin 16)) (a : Option Answer) (x : Time) (m : Marks) : (judgePress k t a x m s).buzz = s.buzz := by unfold judgePress; (repeat' split) <;> simp
@[simp] theorem judgePress_score (k : Fin 256) (t : Option (Fin 16)) (a : Option Answer) (x : Time) (m : Marks) : (judgePress k t a x m s).score = s.score := by unfold judgePress; (repeat' split) <;> simp
@[simp] theorem judgePress_sorter (k : Fin 256) (t : Option (Fin 16)) (a : Option Answer) (x : Time) (m : Marks) : (judgePress k t a x m s).sorter = s.sorter := by unfold judgePress; (repeat' split) <;> simp
@[simp] theorem judgePress_link (k : Fin 256) (t : Option (Fin 16)) (a : Option Answer) (x : Time) (m : Marks) : (judgePress k t a x m s).link = s.link := by unfold judgePress; (repeat' split) <;> simp
@[simp] theorem judgePress_loader (k : Fin 256) (t : Option (Fin 16)) (a : Option Answer) (x : Time) (m : Marks) : (judgePress k t a x m s).loader = s.loader := by unfold judgePress; (repeat' split) <;> simp
@[simp] theorem judgePress_free (k : Fin 256) (t : Option (Fin 16)) (a : Option Answer) (x : Time) (m : Marks) : (judgePress k t a x m s).free = s.free := by unfold judgePress; (repeat' split) <;> simp
@[simp] theorem judgePress_pending (k : Fin 256) (t : Option (Fin 16)) (a : Option Answer) (x : Time) (m : Marks) : (judgePress k t a x m s).pending = s.pending := by unfold judgePress; (repeat' split) <;> simp

@[simp] theorem takeHelp_now (k : Fin 256) (t : Option (Fin 16)) (x : Time) (m : Marks) : (takeHelp k t x m s).now = s.now := by unfold takeHelp; simp
@[simp] theorem takeHelp_ports (k : Fin 256) (t : Option (Fin 16)) (x : Time) (m : Marks) : (takeHelp k t x m s).ports = s.ports := by unfold takeHelp; simp
@[simp] theorem takeHelp_stamper (k : Fin 256) (t : Option (Fin 16)) (x : Time) (m : Marks) : (takeHelp k t x m s).stamper = s.stamper := by unfold takeHelp; simp
@[simp] theorem takeHelp_seats (k : Fin 256) (t : Option (Fin 16)) (x : Time) (m : Marks) : (takeHelp k t x m s).seats = s.seats := by unfold takeHelp; simp
@[simp] theorem takeHelp_teams (k : Fin 256) (t : Option (Fin 16)) (x : Time) (m : Marks) : (takeHelp k t x m s).teams = s.teams := by unfold takeHelp; simp
@[simp] theorem takeHelp_questions (k : Fin 256) (t : Option (Fin 16)) (x : Time) (m : Marks) : (takeHelp k t x m s).questions = s.questions := by unfold takeHelp; simp
@[simp] theorem takeHelp_cues (k : Fin 256) (t : Option (Fin 16)) (x : Time) (m : Marks) : (takeHelp k t x m s).cues = s.cues := by unfold takeHelp; simp
@[simp] theorem takeHelp_round (k : Fin 256) (t : Option (Fin 16)) (x : Time) (m : Marks) : (takeHelp k t x m s).round = s.round := by unfold takeHelp; simp
@[simp] theorem takeHelp_resp (k : Fin 256) (t : Option (Fin 16)) (x : Time) (m : Marks) : (takeHelp k t x m s).resp = s.resp := by unfold takeHelp; simp
@[simp] theorem takeHelp_buzz (k : Fin 256) (t : Option (Fin 16)) (x : Time) (m : Marks) : (takeHelp k t x m s).buzz = s.buzz := by unfold takeHelp; simp
@[simp] theorem takeHelp_score (k : Fin 256) (t : Option (Fin 16)) (x : Time) (m : Marks) : (takeHelp k t x m s).score = s.score := by unfold takeHelp; simp
@[simp] theorem takeHelp_sorter (k : Fin 256) (t : Option (Fin 16)) (x : Time) (m : Marks) : (takeHelp k t x m s).sorter = s.sorter := by unfold takeHelp; simp
@[simp] theorem takeHelp_comp (k : Fin 256) (t : Option (Fin 16)) (x : Time) (m : Marks) : (takeHelp k t x m s).comp = s.comp := by unfold takeHelp; simp
@[simp] theorem takeHelp_link (k : Fin 256) (t : Option (Fin 16)) (x : Time) (m : Marks) : (takeHelp k t x m s).link = s.link := by unfold takeHelp; simp
@[simp] theorem takeHelp_loader (k : Fin 256) (t : Option (Fin 16)) (x : Time) (m : Marks) : (takeHelp k t x m s).loader = s.loader := by unfold takeHelp; simp
@[simp] theorem takeHelp_free (k : Fin 256) (t : Option (Fin 16)) (x : Time) (m : Marks) : (takeHelp k t x m s).free = s.free := by unfold takeHelp; simp
@[simp] theorem takeHelp_pending (k : Fin 256) (t : Option (Fin 16)) (x : Time) (m : Marks) : (takeHelp k t x m s).pending = s.pending := by unfold takeHelp; simp

@[simp] theorem routeKey_now (k : Fin 256) (t : Option (Fin 16)) (key : Byte) (x : Time) (m : Marks) : (routeKey k t key x m s).now = s.now := by unfold routeKey; (repeat' split) <;> simp
@[simp] theorem routeKey_stamper (k : Fin 256) (t : Option (Fin 16)) (key : Byte) (x : Time) (m : Marks) : (routeKey k t key x m s).stamper = s.stamper := by unfold routeKey; (repeat' split) <;> simp
@[simp] theorem routeKey_teams (k : Fin 256) (t : Option (Fin 16)) (key : Byte) (x : Time) (m : Marks) : (routeKey k t key x m s).teams = s.teams := by unfold routeKey; (repeat' split) <;> simp
@[simp] theorem routeKey_questions (k : Fin 256) (t : Option (Fin 16)) (key : Byte) (x : Time) (m : Marks) : (routeKey k t key x m s).questions = s.questions := by unfold routeKey; (repeat' split) <;> simp
@[simp] theorem routeKey_cues (k : Fin 256) (t : Option (Fin 16)) (key : Byte) (x : Time) (m : Marks) : (routeKey k t key x m s).cues = s.cues := by unfold routeKey; (repeat' split) <;> simp
@[simp] theorem routeKey_score (k : Fin 256) (t : Option (Fin 16)) (key : Byte) (x : Time) (m : Marks) : (routeKey k t key x m s).score = s.score := by unfold routeKey; (repeat' split) <;> simp
@[simp] theorem routeKey_sorter (k : Fin 256) (t : Option (Fin 16)) (key : Byte) (x : Time) (m : Marks) : (routeKey k t key x m s).sorter = s.sorter := by unfold routeKey; (repeat' split) <;> simp
@[simp] theorem routeKey_link (k : Fin 256) (t : Option (Fin 16)) (key : Byte) (x : Time) (m : Marks) : (routeKey k t key x m s).link = s.link := by unfold routeKey; (repeat' split) <;> simp
@[simp] theorem routeKey_loader (k : Fin 256) (t : Option (Fin 16)) (key : Byte) (x : Time) (m : Marks) : (routeKey k t key x m s).loader = s.loader := by unfold routeKey; (repeat' split) <;> simp
@[simp] theorem routeKey_free (k : Fin 256) (t : Option (Fin 16)) (key : Byte) (x : Time) (m : Marks) : (routeKey k t key x m s).free = s.free := by unfold routeKey; (repeat' split) <;> simp
@[simp] theorem routeKey_pending (k : Fin 256) (t : Option (Fin 16)) (key : Byte) (x : Time) (m : Marks) : (routeKey k t key x m s).pending = s.pending := by unfold routeKey; (repeat' split) <;> simp

@[simp] theorem routeDigits_now (k : Fin 256) (t : Option (Fin 16)) (v : Nat) (x : Time) (m : Marks) : (routeDigits k t v x m s).now = s.now := by simp [routeDigits, apply_ite State.now]
@[simp] theorem routeDigits_stamper (k : Fin 256) (t : Option (Fin 16)) (v : Nat) (x : Time) (m : Marks) : (routeDigits k t v x m s).stamper = s.stamper := by simp [routeDigits, apply_ite State.stamper]
@[simp] theorem routeDigits_teams (k : Fin 256) (t : Option (Fin 16)) (v : Nat) (x : Time) (m : Marks) : (routeDigits k t v x m s).teams = s.teams := by simp [routeDigits, apply_ite State.teams]
@[simp] theorem routeDigits_questions (k : Fin 256) (t : Option (Fin 16)) (v : Nat) (x : Time) (m : Marks) : (routeDigits k t v x m s).questions = s.questions := by simp [routeDigits, apply_ite State.questions]
@[simp] theorem routeDigits_cues (k : Fin 256) (t : Option (Fin 16)) (v : Nat) (x : Time) (m : Marks) : (routeDigits k t v x m s).cues = s.cues := by simp [routeDigits, apply_ite State.cues]
@[simp] theorem routeDigits_round (k : Fin 256) (t : Option (Fin 16)) (v : Nat) (x : Time) (m : Marks) : (routeDigits k t v x m s).round = s.round := by simp [routeDigits, apply_ite State.round]
@[simp] theorem routeDigits_buzz (k : Fin 256) (t : Option (Fin 16)) (v : Nat) (x : Time) (m : Marks) : (routeDigits k t v x m s).buzz = s.buzz := by simp [routeDigits, apply_ite State.buzz]
@[simp] theorem routeDigits_score (k : Fin 256) (t : Option (Fin 16)) (v : Nat) (x : Time) (m : Marks) : (routeDigits k t v x m s).score = s.score := by simp [routeDigits, apply_ite State.score]
@[simp] theorem routeDigits_sorter (k : Fin 256) (t : Option (Fin 16)) (v : Nat) (x : Time) (m : Marks) : (routeDigits k t v x m s).sorter = s.sorter := by simp [routeDigits, apply_ite State.sorter]
@[simp] theorem routeDigits_link (k : Fin 256) (t : Option (Fin 16)) (v : Nat) (x : Time) (m : Marks) : (routeDigits k t v x m s).link = s.link := by simp [routeDigits, apply_ite State.link]
@[simp] theorem routeDigits_loader (k : Fin 256) (t : Option (Fin 16)) (v : Nat) (x : Time) (m : Marks) : (routeDigits k t v x m s).loader = s.loader := by simp [routeDigits, apply_ite State.loader]
@[simp] theorem routeDigits_free (k : Fin 256) (t : Option (Fin 16)) (v : Nat) (x : Time) (m : Marks) : (routeDigits k t v x m s).free = s.free := by simp [routeDigits, apply_ite State.free]
@[simp] theorem routeDigits_pending (k : Fin 256) (t : Option (Fin 16)) (v : Nat) (x : Time) (m : Marks) : (routeDigits k t v x m s).pending = s.pending := by simp [routeDigits, apply_ite State.pending]

@[simp] theorem takeHello_now (k : Fin 256) (c : Byte) (b : Bool) : (takeHello k c b s).now = s.now := by unfold takeHello; simp
@[simp] theorem takeHello_ports (k : Fin 256) (c : Byte) (b : Bool) : (takeHello k c b s).ports = s.ports := by unfold takeHello; simp
@[simp] theorem takeHello_stamper (k : Fin 256) (c : Byte) (b : Bool) : (takeHello k c b s).stamper = s.stamper := by unfold takeHello; simp
@[simp] theorem takeHello_teams (k : Fin 256) (c : Byte) (b : Bool) : (takeHello k c b s).teams = s.teams := by unfold takeHello; simp
@[simp] theorem takeHello_questions (k : Fin 256) (c : Byte) (b : Bool) : (takeHello k c b s).questions = s.questions := by unfold takeHello; simp
@[simp] theorem takeHello_cues (k : Fin 256) (c : Byte) (b : Bool) : (takeHello k c b s).cues = s.cues := by unfold takeHello; simp
@[simp] theorem takeHello_round (k : Fin 256) (c : Byte) (b : Bool) : (takeHello k c b s).round = s.round := by unfold takeHello; simp
@[simp] theorem takeHello_resp (k : Fin 256) (c : Byte) (b : Bool) : (takeHello k c b s).resp = s.resp := by unfold takeHello; simp
@[simp] theorem takeHello_buzz (k : Fin 256) (c : Byte) (b : Bool) : (takeHello k c b s).buzz = s.buzz := by unfold takeHello; simp
@[simp] theorem takeHello_score (k : Fin 256) (c : Byte) (b : Bool) : (takeHello k c b s).score = s.score := by unfold takeHello; simp
@[simp] theorem takeHello_sorter (k : Fin 256) (c : Byte) (b : Bool) : (takeHello k c b s).sorter = s.sorter := by unfold takeHello; simp
@[simp] theorem takeHello_comp (k : Fin 256) (c : Byte) (b : Bool) : (takeHello k c b s).comp = s.comp := by unfold takeHello; simp
@[simp] theorem takeHello_link (k : Fin 256) (c : Byte) (b : Bool) : (takeHello k c b s).link = s.link := by unfold takeHello; simp
@[simp] theorem takeHello_loader (k : Fin 256) (c : Byte) (b : Bool) : (takeHello k c b s).loader = s.loader := by unfold takeHello; simp
@[simp] theorem takeHello_free (k : Fin 256) (c : Byte) (b : Bool) : (takeHello k c b s).free = s.free := by unfold takeHello; simp
@[simp] theorem takeHello_pending (k : Fin 256) (c : Byte) (b : Bool) : (takeHello k c b s).pending = s.pending := by unfold takeHello; simp

@[simp] theorem takeFrame_now (f : Stamped) : (takeFrame f s).now = s.now := by
  unfold takeFrame
  simp [takePress]
  (repeat' split) <;> simp
@[simp] theorem takeFrame_stamper (f : Stamped) : (takeFrame f s).stamper = s.stamper := by
  unfold takeFrame
  simp [takePress]
  (repeat' split) <;> simp
@[simp] theorem takeFrame_teams (f : Stamped) : (takeFrame f s).teams = s.teams := by
  unfold takeFrame
  simp [takePress]
  (repeat' split) <;> simp
@[simp] theorem takeFrame_questions (f : Stamped) : (takeFrame f s).questions = s.questions := by
  unfold takeFrame
  simp [takePress]
  (repeat' split) <;> simp
@[simp] theorem takeFrame_cues (f : Stamped) : (takeFrame f s).cues = s.cues := by
  unfold takeFrame
  simp [takePress]
  (repeat' split) <;> simp
@[simp] theorem takeFrame_score (f : Stamped) : (takeFrame f s).score = s.score := by
  unfold takeFrame
  simp [takePress]
  (repeat' split) <;> simp
@[simp] theorem takeFrame_sorter (f : Stamped) : (takeFrame f s).sorter = s.sorter := by
  unfold takeFrame
  simp [takePress]
  (repeat' split) <;> simp
@[simp] theorem takeFrame_link (f : Stamped) : (takeFrame f s).link = s.link := by
  unfold takeFrame
  simp [takePress]
  (repeat' split) <;> simp
@[simp] theorem takeFrame_loader (f : Stamped) : (takeFrame f s).loader = s.loader := by
  unfold takeFrame
  simp [takePress]
  (repeat' split) <;> simp
@[simp] theorem takeFrame_free (f : Stamped) : (takeFrame f s).free = s.free := by
  unfold takeFrame
  simp [takePress]
  (repeat' split) <;> simp
@[simp] theorem takeFrame_pending (f : Stamped) : (takeFrame f s).pending = s.pending := by
  unfold takeFrame
  simp [takePress]
  (repeat' split) <;> simp

@[simp] theorem takeEntry_now (p : Fin 4) : (takeEntry p s).now = s.now := by unfold takeEntry; (repeat' split) <;> simp
@[simp] theorem takeEntry_seats (p : Fin 4) : (takeEntry p s).seats = s.seats := by unfold takeEntry; (repeat' split) <;> simp
@[simp] theorem takeEntry_teams (p : Fin 4) : (takeEntry p s).teams = s.teams := by unfold takeEntry; (repeat' split) <;> simp
@[simp] theorem takeEntry_questions (p : Fin 4) : (takeEntry p s).questions = s.questions := by unfold takeEntry; (repeat' split) <;> simp
@[simp] theorem takeEntry_cues (p : Fin 4) : (takeEntry p s).cues = s.cues := by unfold takeEntry; (repeat' split) <;> simp
@[simp] theorem takeEntry_round (p : Fin 4) : (takeEntry p s).round = s.round := by unfold takeEntry; (repeat' split) <;> simp
@[simp] theorem takeEntry_resp (p : Fin 4) : (takeEntry p s).resp = s.resp := by unfold takeEntry; (repeat' split) <;> simp
@[simp] theorem takeEntry_buzz (p : Fin 4) : (takeEntry p s).buzz = s.buzz := by unfold takeEntry; (repeat' split) <;> simp
@[simp] theorem takeEntry_score (p : Fin 4) : (takeEntry p s).score = s.score := by unfold takeEntry; (repeat' split) <;> simp
@[simp] theorem takeEntry_sorter (p : Fin 4) : (takeEntry p s).sorter = s.sorter := by unfold takeEntry; (repeat' split) <;> simp
@[simp] theorem takeEntry_comp (p : Fin 4) : (takeEntry p s).comp = s.comp := by unfold takeEntry; (repeat' split) <;> simp
@[simp] theorem takeEntry_link (p : Fin 4) : (takeEntry p s).link = s.link := by unfold takeEntry; (repeat' split) <;> simp
@[simp] theorem takeEntry_hub (p : Fin 4) : (takeEntry p s).hub = s.hub := by unfold takeEntry; (repeat' split) <;> simp
@[simp] theorem takeEntry_loader (p : Fin 4) : (takeEntry p s).loader = s.loader := by unfold takeEntry; (repeat' split) <;> simp
@[simp] theorem takeEntry_free (p : Fin 4) : (takeEntry p s).free = s.free := by unfold takeEntry; (repeat' split) <;> simp
@[simp] theorem takeEntry_pending (p : Fin 4) : (takeEntry p s).pending = s.pending := by unfold takeEntry; (repeat' split) <;> simp

@[simp] theorem handOff_now (f : Stamped) : (handOff f s).now = s.now := by unfold handOff; simp
@[simp] theorem handOff_teams (f : Stamped) : (handOff f s).teams = s.teams := by unfold handOff; simp
@[simp] theorem handOff_questions (f : Stamped) : (handOff f s).questions = s.questions := by unfold handOff; simp
@[simp] theorem handOff_cues (f : Stamped) : (handOff f s).cues = s.cues := by unfold handOff; simp
@[simp] theorem handOff_score (f : Stamped) : (handOff f s).score = s.score := by unfold handOff; simp
@[simp] theorem handOff_sorter (f : Stamped) : (handOff f s).sorter = s.sorter := by unfold handOff; simp
@[simp] theorem handOff_link (f : Stamped) : (handOff f s).link = s.link := by unfold handOff; simp
@[simp] theorem handOff_loader (f : Stamped) : (handOff f s).loader = s.loader := by unfold handOff; simp
@[simp] theorem handOff_free (f : Stamped) : (handOff f s).free = s.free := by unfold handOff; simp
@[simp] theorem handOff_pending (f : Stamped) : (handOff f s).pending = s.pending := by unfold handOff; simp

end Sys2Proof.Machine
end

