-- ==== Sys2Proof/Laws/PortFrames.lean ====
section
/-! SUPPORT. What each operation of Machine/PortOps.lean leaves unchanged: one simp lemma for each block that it does not touch. -/

namespace Sys2Proof.Machine

variable (s : State)

@[simp] theorem wakePort_now (p : Fin 4) : (wakePort p s).now = s.now := by unfold wakePort; simp
@[simp] theorem wakePort_stamper (p : Fin 4) : (wakePort p s).stamper = s.stamper := by unfold wakePort; simp
@[simp] theorem wakePort_seats (p : Fin 4) : (wakePort p s).seats = s.seats := by unfold wakePort; simp
@[simp] theorem wakePort_teams (p : Fin 4) : (wakePort p s).teams = s.teams := by unfold wakePort; simp
@[simp] theorem wakePort_questions (p : Fin 4) : (wakePort p s).questions = s.questions := by unfold wakePort; simp
@[simp] theorem wakePort_cues (p : Fin 4) : (wakePort p s).cues = s.cues := by unfold wakePort; simp
@[simp] theorem wakePort_round (p : Fin 4) : (wakePort p s).round = s.round := by unfold wakePort; simp
@[simp] theorem wakePort_resp (p : Fin 4) : (wakePort p s).resp = s.resp := by unfold wakePort; simp
@[simp] theorem wakePort_buzz (p : Fin 4) : (wakePort p s).buzz = s.buzz := by unfold wakePort; simp
@[simp] theorem wakePort_score (p : Fin 4) : (wakePort p s).score = s.score := by unfold wakePort; simp
@[simp] theorem wakePort_sorter (p : Fin 4) : (wakePort p s).sorter = s.sorter := by unfold wakePort; simp
@[simp] theorem wakePort_comp (p : Fin 4) : (wakePort p s).comp = s.comp := by unfold wakePort; simp
@[simp] theorem wakePort_link (p : Fin 4) : (wakePort p s).link = s.link := by unfold wakePort; simp
@[simp] theorem wakePort_hub (p : Fin 4) : (wakePort p s).hub = s.hub := by unfold wakePort; simp
@[simp] theorem wakePort_loader (p : Fin 4) : (wakePort p s).loader = s.loader := by unfold wakePort; simp
@[simp] theorem wakePort_free (p : Fin 4) : (wakePort p s).free = s.free := by unfold wakePort; simp
@[simp] theorem wakePort_pending (p : Fin 4) : (wakePort p s).pending = s.pending := by unfold wakePort; simp

@[simp] theorem startPort_now (p : Fin 4) : ((startPort p s).1).now = s.now := by unfold startPort; (repeat' split) <;> simp
@[simp] theorem startPort_stamper (p : Fin 4) : ((startPort p s).1).stamper = s.stamper := by unfold startPort; (repeat' split) <;> simp
@[simp] theorem startPort_seats (p : Fin 4) : ((startPort p s).1).seats = s.seats := by unfold startPort; (repeat' split) <;> simp
@[simp] theorem startPort_teams (p : Fin 4) : ((startPort p s).1).teams = s.teams := by unfold startPort; (repeat' split) <;> simp
@[simp] theorem startPort_questions (p : Fin 4) : ((startPort p s).1).questions = s.questions := by unfold startPort; (repeat' split) <;> simp
@[simp] theorem startPort_cues (p : Fin 4) : ((startPort p s).1).cues = s.cues := by unfold startPort; (repeat' split) <;> simp
@[simp] theorem startPort_round (p : Fin 4) : ((startPort p s).1).round = s.round := by unfold startPort; (repeat' split) <;> simp
@[simp] theorem startPort_resp (p : Fin 4) : ((startPort p s).1).resp = s.resp := by unfold startPort; (repeat' split) <;> simp
@[simp] theorem startPort_buzz (p : Fin 4) : ((startPort p s).1).buzz = s.buzz := by unfold startPort; (repeat' split) <;> simp
@[simp] theorem startPort_score (p : Fin 4) : ((startPort p s).1).score = s.score := by unfold startPort; (repeat' split) <;> simp
@[simp] theorem startPort_sorter (p : Fin 4) : ((startPort p s).1).sorter = s.sorter := by unfold startPort; (repeat' split) <;> simp
@[simp] theorem startPort_comp (p : Fin 4) : ((startPort p s).1).comp = s.comp := by unfold startPort; (repeat' split) <;> simp
@[simp] theorem startPort_link (p : Fin 4) : ((startPort p s).1).link = s.link := by unfold startPort; (repeat' split) <;> simp
@[simp] theorem startPort_hub (p : Fin 4) : ((startPort p s).1).hub = s.hub := by unfold startPort; (repeat' split) <;> simp
@[simp] theorem startPort_loader (p : Fin 4) : ((startPort p s).1).loader = s.loader := by unfold startPort; (repeat' split) <;> simp
@[simp] theorem startPort_free (p : Fin 4) : ((startPort p s).1).free = s.free := by unfold startPort; (repeat' split) <;> simp
@[simp] theorem startPort_pending (p : Fin 4) : ((startPort p s).1).pending = s.pending := by unfold startPort; (repeat' split) <;> simp

@[simp] theorem clearHistory_now (p : Fin 4) : (clearHistory p s).now = s.now := by unfold clearHistory; simp
@[simp] theorem clearHistory_ports (p : Fin 4) : (clearHistory p s).ports = s.ports := by unfold clearHistory; simp
@[simp] theorem clearHistory_seats (p : Fin 4) : (clearHistory p s).seats = s.seats := by unfold clearHistory; simp
@[simp] theorem clearHistory_teams (p : Fin 4) : (clearHistory p s).teams = s.teams := by unfold clearHistory; simp
@[simp] theorem clearHistory_questions (p : Fin 4) : (clearHistory p s).questions = s.questions := by unfold clearHistory; simp
@[simp] theorem clearHistory_cues (p : Fin 4) : (clearHistory p s).cues = s.cues := by unfold clearHistory; simp
@[simp] theorem clearHistory_round (p : Fin 4) : (clearHistory p s).round = s.round := by unfold clearHistory; simp
@[simp] theorem clearHistory_resp (p : Fin 4) : (clearHistory p s).resp = s.resp := by unfold clearHistory; simp
@[simp] theorem clearHistory_buzz (p : Fin 4) : (clearHistory p s).buzz = s.buzz := by unfold clearHistory; simp
@[simp] theorem clearHistory_score (p : Fin 4) : (clearHistory p s).score = s.score := by unfold clearHistory; simp
@[simp] theorem clearHistory_sorter (p : Fin 4) : (clearHistory p s).sorter = s.sorter := by unfold clearHistory; simp
@[simp] theorem clearHistory_comp (p : Fin 4) : (clearHistory p s).comp = s.comp := by unfold clearHistory; simp
@[simp] theorem clearHistory_link (p : Fin 4) : (clearHistory p s).link = s.link := by unfold clearHistory; simp
@[simp] theorem clearHistory_hub (p : Fin 4) : (clearHistory p s).hub = s.hub := by unfold clearHistory; simp
@[simp] theorem clearHistory_loader (p : Fin 4) : (clearHistory p s).loader = s.loader := by unfold clearHistory; simp
@[simp] theorem clearHistory_free (p : Fin 4) : (clearHistory p s).free = s.free := by unfold clearHistory; simp
@[simp] theorem clearHistory_pending (p : Fin 4) : (clearHistory p s).pending = s.pending := by unfold clearHistory; simp

@[simp] theorem stopPort_now (l : Bool) (p : Fin 4) : (stopPort l p s).now = s.now := by unfold stopPort; simp
@[simp] theorem stopPort_teams (l : Bool) (p : Fin 4) : (stopPort l p s).teams = s.teams := by unfold stopPort; simp
@[simp] theorem stopPort_questions (l : Bool) (p : Fin 4) : (stopPort l p s).questions = s.questions := by unfold stopPort; simp
@[simp] theorem stopPort_cues (l : Bool) (p : Fin 4) : (stopPort l p s).cues = s.cues := by unfold stopPort; simp
@[simp] theorem stopPort_round (l : Bool) (p : Fin 4) : (stopPort l p s).round = s.round := by unfold stopPort; simp
@[simp] theorem stopPort_resp (l : Bool) (p : Fin 4) : (stopPort l p s).resp = s.resp := by unfold stopPort; simp
@[simp] theorem stopPort_buzz (l : Bool) (p : Fin 4) : (stopPort l p s).buzz = s.buzz := by unfold stopPort; simp
@[simp] theorem stopPort_score (l : Bool) (p : Fin 4) : (stopPort l p s).score = s.score := by unfold stopPort; simp
@[simp] theorem stopPort_sorter (l : Bool) (p : Fin 4) : (stopPort l p s).sorter = s.sorter := by unfold stopPort; simp
@[simp] theorem stopPort_comp (l : Bool) (p : Fin 4) : (stopPort l p s).comp = s.comp := by unfold stopPort; simp
@[simp] theorem stopPort_link (l : Bool) (p : Fin 4) : (stopPort l p s).link = s.link := by unfold stopPort; simp
@[simp] theorem stopPort_loader (l : Bool) (p : Fin 4) : (stopPort l p s).loader = s.loader := by unfold stopPort; simp
@[simp] theorem stopPort_free (l : Bool) (p : Fin 4) : (stopPort l p s).free = s.free := by unfold stopPort; simp
@[simp] theorem stopPort_pending (l : Bool) (p : Fin 4) : (stopPort l p s).pending = s.pending := by unfold stopPort; simp

@[simp] theorem startRoll_now (p : Fin 4) : (startRoll p s).now = s.now := by unfold startRoll; simp
@[simp] theorem startRoll_stamper (p : Fin 4) : (startRoll p s).stamper = s.stamper := by unfold startRoll; simp
@[simp] theorem startRoll_seats (p : Fin 4) : (startRoll p s).seats = s.seats := by unfold startRoll; simp
@[simp] theorem startRoll_teams (p : Fin 4) : (startRoll p s).teams = s.teams := by unfold startRoll; simp
@[simp] theorem startRoll_questions (p : Fin 4) : (startRoll p s).questions = s.questions := by unfold startRoll; simp
@[simp] theorem startRoll_cues (p : Fin 4) : (startRoll p s).cues = s.cues := by unfold startRoll; simp
@[simp] theorem startRoll_round (p : Fin 4) : (startRoll p s).round = s.round := by unfold startRoll; simp
@[simp] theorem startRoll_resp (p : Fin 4) : (startRoll p s).resp = s.resp := by unfold startRoll; simp
@[simp] theorem startRoll_buzz (p : Fin 4) : (startRoll p s).buzz = s.buzz := by unfold startRoll; simp
@[simp] theorem startRoll_score (p : Fin 4) : (startRoll p s).score = s.score := by unfold startRoll; simp
@[simp] theorem startRoll_sorter (p : Fin 4) : (startRoll p s).sorter = s.sorter := by unfold startRoll; simp
@[simp] theorem startRoll_comp (p : Fin 4) : (startRoll p s).comp = s.comp := by unfold startRoll; simp
@[simp] theorem startRoll_link (p : Fin 4) : (startRoll p s).link = s.link := by unfold startRoll; simp
@[simp] theorem startRoll_hub (p : Fin 4) : (startRoll p s).hub = s.hub := by unfold startRoll; simp
@[simp] theorem startRoll_loader (p : Fin 4) : (startRoll p s).loader = s.loader := by unfold startRoll; simp
@[simp] theorem startRoll_free (p : Fin 4) : (startRoll p s).free = s.free := by unfold startRoll; simp
@[simp] theorem startRoll_pending (p : Fin 4) : (startRoll p s).pending = s.pending := by unfold startRoll; simp

@[simp] theorem rollCall_now (p : Fin 4) : ((rollCall p s).1).now = s.now := by unfold rollCall; (repeat' split) <;> simp
@[simp] theorem rollCall_stamper (p : Fin 4) : ((rollCall p s).1).stamper = s.stamper := by unfold rollCall; (repeat' split) <;> simp
@[simp] theorem rollCall_seats (p : Fin 4) : ((rollCall p s).1).seats = s.seats := by unfold rollCall; (repeat' split) <;> simp
@[simp] theorem rollCall_teams (p : Fin 4) : ((rollCall p s).1).teams = s.teams := by unfold rollCall; (repeat' split) <;> simp
@[simp] theorem rollCall_questions (p : Fin 4) : ((rollCall p s).1).questions = s.questions := by unfold rollCall; (repeat' split) <;> simp
@[simp] theorem rollCall_cues (p : Fin 4) : ((rollCall p s).1).cues = s.cues := by unfold rollCall; (repeat' split) <;> simp
@[simp] theorem rollCall_round (p : Fin 4) : ((rollCall p s).1).round = s.round := by unfold rollCall; (repeat' split) <;> simp
@[simp] theorem rollCall_resp (p : Fin 4) : ((rollCall p s).1).resp = s.resp := by unfold rollCall; (repeat' split) <;> simp
@[simp] theorem rollCall_buzz (p : Fin 4) : ((rollCall p s).1).buzz = s.buzz := by unfold rollCall; (repeat' split) <;> simp
@[simp] theorem rollCall_score (p : Fin 4) : ((rollCall p s).1).score = s.score := by unfold rollCall; (repeat' split) <;> simp
@[simp] theorem rollCall_sorter (p : Fin 4) : ((rollCall p s).1).sorter = s.sorter := by unfold rollCall; (repeat' split) <;> simp
@[simp] theorem rollCall_comp (p : Fin 4) : ((rollCall p s).1).comp = s.comp := by unfold rollCall; (repeat' split) <;> simp
@[simp] theorem rollCall_link (p : Fin 4) : ((rollCall p s).1).link = s.link := by unfold rollCall; (repeat' split) <;> simp
@[simp] theorem rollCall_hub (p : Fin 4) : ((rollCall p s).1).hub = s.hub := by unfold rollCall; (repeat' split) <;> simp
@[simp] theorem rollCall_loader (p : Fin 4) : ((rollCall p s).1).loader = s.loader := by unfold rollCall; (repeat' split) <;> simp
@[simp] theorem rollCall_free (p : Fin 4) : ((rollCall p s).1).free = s.free := by unfold rollCall; (repeat' split) <;> simp
@[simp] theorem rollCall_pending (p : Fin 4) : ((rollCall p s).1).pending = s.pending := by unfold rollCall; (repeat' split) <;> simp

@[simp] theorem startSweep_now (p : Fin 4) : (startSweep p s).now = s.now := by unfold startSweep; simp
@[simp] theorem startSweep_teams (p : Fin 4) : (startSweep p s).teams = s.teams := by unfold startSweep; simp
@[simp] theorem startSweep_questions (p : Fin 4) : (startSweep p s).questions = s.questions := by unfold startSweep; simp
@[simp] theorem startSweep_cues (p : Fin 4) : (startSweep p s).cues = s.cues := by unfold startSweep; simp
@[simp] theorem startSweep_round (p : Fin 4) : (startSweep p s).round = s.round := by unfold startSweep; simp
@[simp] theorem startSweep_resp (p : Fin 4) : (startSweep p s).resp = s.resp := by unfold startSweep; simp
@[simp] theorem startSweep_buzz (p : Fin 4) : (startSweep p s).buzz = s.buzz := by unfold startSweep; simp
@[simp] theorem startSweep_score (p : Fin 4) : (startSweep p s).score = s.score := by unfold startSweep; simp
@[simp] theorem startSweep_sorter (p : Fin 4) : (startSweep p s).sorter = s.sorter := by unfold startSweep; simp
@[simp] theorem startSweep_comp (p : Fin 4) : (startSweep p s).comp = s.comp := by unfold startSweep; simp
@[simp] theorem startSweep_link (p : Fin 4) : (startSweep p s).link = s.link := by unfold startSweep; simp
@[simp] theorem startSweep_hub (p : Fin 4) : (startSweep p s).hub = s.hub := by unfold startSweep; simp
@[simp] theorem startSweep_loader (p : Fin 4) : (startSweep p s).loader = s.loader := by unfold startSweep; simp
@[simp] theorem startSweep_free (p : Fin 4) : (startSweep p s).free = s.free := by unfold startSweep; simp
@[simp] theorem startSweep_pending (p : Fin 4) : (startSweep p s).pending = s.pending := by unfold startSweep; simp

@[simp] theorem enterSweeping_now (p : Fin 4) : (enterSweeping p s).now = s.now := by unfold enterSweeping; simp
@[simp] theorem enterSweeping_teams (p : Fin 4) : (enterSweeping p s).teams = s.teams := by unfold enterSweeping; simp
@[simp] theorem enterSweeping_questions (p : Fin 4) : (enterSweeping p s).questions = s.questions := by unfold enterSweeping; simp
@[simp] theorem enterSweeping_cues (p : Fin 4) : (enterSweeping p s).cues = s.cues := by unfold enterSweeping; simp
@[simp] theorem enterSweeping_round (p : Fin 4) : (enterSweeping p s).round = s.round := by unfold enterSweeping; simp
@[simp] theorem enterSweeping_resp (p : Fin 4) : (enterSweeping p s).resp = s.resp := by unfold enterSweeping; simp
@[simp] theorem enterSweeping_buzz (p : Fin 4) : (enterSweeping p s).buzz = s.buzz := by unfold enterSweeping; simp
@[simp] theorem enterSweeping_score (p : Fin 4) : (enterSweeping p s).score = s.score := by unfold enterSweeping; simp
@[simp] theorem enterSweeping_sorter (p : Fin 4) : (enterSweeping p s).sorter = s.sorter := by unfold enterSweeping; simp
@[simp] theorem enterSweeping_comp (p : Fin 4) : (enterSweeping p s).comp = s.comp := by unfold enterSweeping; simp
@[simp] theorem enterSweeping_link (p : Fin 4) : (enterSweeping p s).link = s.link := by unfold enterSweeping; simp
@[simp] theorem enterSweeping_hub (p : Fin 4) : (enterSweeping p s).hub = s.hub := by unfold enterSweeping; simp
@[simp] theorem enterSweeping_loader (p : Fin 4) : (enterSweeping p s).loader = s.loader := by unfold enterSweeping; simp
@[simp] theorem enterSweeping_free (p : Fin 4) : (enterSweeping p s).free = s.free := by unfold enterSweeping; simp
@[simp] theorem enterSweeping_pending (p : Fin 4) : (enterSweeping p s).pending = s.pending := by unfold enterSweeping; simp

@[simp] theorem reportChecks_now (p : Fin 4) (w : Sweep) : (reportChecks p w s).now = s.now := by unfold reportChecks; exact foldl_keeps _ State.now (by intros; simp) _ _
@[simp] theorem reportChecks_ports (p : Fin 4) (w : Sweep) : (reportChecks p w s).ports = s.ports := by unfold reportChecks; exact foldl_keeps _ State.ports (by intros; simp) _ _
@[simp] theorem reportChecks_stamper (p : Fin 4) (w : Sweep) : (reportChecks p w s).stamper = s.stamper := by unfold reportChecks; exact foldl_keeps _ State.stamper (by intros; simp) _ _
@[simp] theorem reportChecks_teams (p : Fin 4) (w : Sweep) : (reportChecks p w s).teams = s.teams := by unfold reportChecks; exact foldl_keeps _ State.teams (by intros; simp) _ _
@[simp] theorem reportChecks_questions (p : Fin 4) (w : Sweep) : (reportChecks p w s).questions = s.questions := by unfold reportChecks; exact foldl_keeps _ State.questions (by intros; simp) _ _
@[simp] theorem reportChecks_cues (p : Fin 4) (w : Sweep) : (reportChecks p w s).cues = s.cues := by unfold reportChecks; exact foldl_keeps _ State.cues (by intros; simp) _ _
@[simp] theorem reportChecks_round (p : Fin 4) (w : Sweep) : (reportChecks p w s).round = s.round := by unfold reportChecks; exact foldl_keeps _ State.round (by intros; simp) _ _
@[simp] theorem reportChecks_resp (p : Fin 4) (w : Sweep) : (reportChecks p w s).resp = s.resp := by unfold reportChecks; exact foldl_keeps _ State.resp (by intros; simp) _ _
@[simp] theorem reportChecks_buzz (p : Fin 4) (w : Sweep) : (reportChecks p w s).buzz = s.buzz := by unfold reportChecks; exact foldl_keeps _ State.buzz (by intros; simp) _ _
@[simp] theorem reportChecks_score (p : Fin 4) (w : Sweep) : (reportChecks p w s).score = s.score := by unfold reportChecks; exact foldl_keeps _ State.score (by intros; simp) _ _
@[simp] theorem reportChecks_sorter (p : Fin 4) (w : Sweep) : (reportChecks p w s).sorter = s.sorter := by unfold reportChecks; exact foldl_keeps _ State.sorter (by intros; simp) _ _
@[simp] theorem reportChecks_comp (p : Fin 4) (w : Sweep) : (reportChecks p w s).comp = s.comp := by unfold reportChecks; exact foldl_keeps _ State.comp (by intros; simp) _ _
@[simp] theorem reportChecks_link (p : Fin 4) (w : Sweep) : (reportChecks p w s).link = s.link := by unfold reportChecks; exact foldl_keeps _ State.link (by intros; simp) _ _
@[simp] theorem reportChecks_loader (p : Fin 4) (w : Sweep) : (reportChecks p w s).loader = s.loader := by unfold reportChecks; exact foldl_keeps _ State.loader (by intros; simp) _ _
@[simp] theorem reportChecks_free (p : Fin 4) (w : Sweep) : (reportChecks p w s).free = s.free := by unfold reportChecks; exact foldl_keeps _ State.free (by intros; simp) _ _
@[simp] theorem reportChecks_pending (p : Fin 4) (w : Sweep) : (reportChecks p w s).pending = s.pending := by unfold reportChecks; exact foldl_keeps _ State.pending (by intros; simp) _ _

@[simp] theorem finishRoll_now (p : Fin 4) (w : Sweep) : (finishRoll p w s).now = s.now := by simp [finishRoll, apply_ite State.now]
@[simp] theorem finishRoll_stamper (p : Fin 4) (w : Sweep) : (finishRoll p w s).stamper = s.stamper := by simp [finishRoll, apply_ite State.stamper]
@[simp] theorem finishRoll_seats (p : Fin 4) (w : Sweep) : (finishRoll p w s).seats = s.seats := by simp [finishRoll, apply_ite State.seats]
@[simp] theorem finishRoll_teams (p : Fin 4) (w : Sweep) : (finishRoll p w s).teams = s.teams := by simp [finishRoll, apply_ite State.teams]
@[simp] theorem finishRoll_questions (p : Fin 4) (w : Sweep) : (finishRoll p w s).questions = s.questions := by simp [finishRoll, apply_ite State.questions]
@[simp] theorem finishRoll_cues (p : Fin 4) (w : Sweep) : (finishRoll p w s).cues = s.cues := by simp [finishRoll, apply_ite State.cues]
@[simp] theorem finishRoll_round (p : Fin 4) (w : Sweep) : (finishRoll p w s).round = s.round := by simp [finishRoll, apply_ite State.round]
@[simp] theorem finishRoll_resp (p : Fin 4) (w : Sweep) : (finishRoll p w s).resp = s.resp := by simp [finishRoll, apply_ite State.resp]
@[simp] theorem finishRoll_buzz (p : Fin 4) (w : Sweep) : (finishRoll p w s).buzz = s.buzz := by simp [finishRoll, apply_ite State.buzz]
@[simp] theorem finishRoll_score (p : Fin 4) (w : Sweep) : (finishRoll p w s).score = s.score := by simp [finishRoll, apply_ite State.score]
@[simp] theorem finishRoll_sorter (p : Fin 4) (w : Sweep) : (finishRoll p w s).sorter = s.sorter := by simp [finishRoll, apply_ite State.sorter]
@[simp] theorem finishRoll_comp (p : Fin 4) (w : Sweep) : (finishRoll p w s).comp = s.comp := by simp [finishRoll, apply_ite State.comp]
@[simp] theorem finishRoll_link (p : Fin 4) (w : Sweep) : (finishRoll p w s).link = s.link := by simp [finishRoll, apply_ite State.link]
@[simp] theorem finishRoll_loader (p : Fin 4) (w : Sweep) : (finishRoll p w s).loader = s.loader := by simp [finishRoll, apply_ite State.loader]
@[simp] theorem finishRoll_free (p : Fin 4) (w : Sweep) : (finishRoll p w s).free = s.free := by simp [finishRoll, apply_ite State.free]
@[simp] theorem finishRoll_pending (p : Fin 4) (w : Sweep) : (finishRoll p w s).pending = s.pending := by simp [finishRoll, apply_ite State.pending]

@[simp] theorem endSweep_now (p : Fin 4) (w : Sweep) : (endSweep p w s).now = s.now := by unfold endSweep; simp
@[simp] theorem endSweep_stamper (p : Fin 4) (w : Sweep) : (endSweep p w s).stamper = s.stamper := by unfold endSweep; simp
@[simp] theorem endSweep_teams (p : Fin 4) (w : Sweep) : (endSweep p w s).teams = s.teams := by unfold endSweep; simp
@[simp] theorem endSweep_questions (p : Fin 4) (w : Sweep) : (endSweep p w s).questions = s.questions := by unfold endSweep; simp
@[simp] theorem endSweep_cues (p : Fin 4) (w : Sweep) : (endSweep p w s).cues = s.cues := by unfold endSweep; simp
@[simp] theorem endSweep_round (p : Fin 4) (w : Sweep) : (endSweep p w s).round = s.round := by unfold endSweep; simp
@[simp] theorem endSweep_resp (p : Fin 4) (w : Sweep) : (endSweep p w s).resp = s.resp := by unfold endSweep; simp
@[simp] theorem endSweep_buzz (p : Fin 4) (w : Sweep) : (endSweep p w s).buzz = s.buzz := by unfold endSweep; simp
@[simp] theorem endSweep_score (p : Fin 4) (w : Sweep) : (endSweep p w s).score = s.score := by unfold endSweep; simp
@[simp] theorem endSweep_sorter (p : Fin 4) (w : Sweep) : (endSweep p w s).sorter = s.sorter := by unfold endSweep; simp
@[simp] theorem endSweep_comp (p : Fin 4) (w : Sweep) : (endSweep p w s).comp = s.comp := by unfold endSweep; simp
@[simp] theorem endSweep_link (p : Fin 4) (w : Sweep) : (endSweep p w s).link = s.link := by unfold endSweep; simp
@[simp] theorem endSweep_loader (p : Fin 4) (w : Sweep) : (endSweep p w s).loader = s.loader := by unfold endSweep; simp
@[simp] theorem endSweep_free (p : Fin 4) (w : Sweep) : (endSweep p w s).free = s.free := by unfold endSweep; simp
@[simp] theorem endSweep_pending (p : Fin 4) (w : Sweep) : (endSweep p w s).pending = s.pending := by unfold endSweep; simp

@[simp] theorem beginBreak_now (p : Fin 4) (i : Bool) : (beginBreak p i s).now = s.now := by unfold beginBreak; simp
@[simp] theorem beginBreak_stamper (p : Fin 4) (i : Bool) : (beginBreak p i s).stamper = s.stamper := by unfold beginBreak; simp
@[simp] theorem beginBreak_teams (p : Fin 4) (i : Bool) : (beginBreak p i s).teams = s.teams := by unfold beginBreak; simp
@[simp] theorem beginBreak_questions (p : Fin 4) (i : Bool) : (beginBreak p i s).questions = s.questions := by unfold beginBreak; simp
@[simp] theorem beginBreak_cues (p : Fin 4) (i : Bool) : (beginBreak p i s).cues = s.cues := by unfold beginBreak; simp
@[simp] theorem beginBreak_round (p : Fin 4) (i : Bool) : (beginBreak p i s).round = s.round := by unfold beginBreak; simp
@[simp] theorem beginBreak_resp (p : Fin 4) (i : Bool) : (beginBreak p i s).resp = s.resp := by unfold beginBreak; simp
@[simp] theorem beginBreak_buzz (p : Fin 4) (i : Bool) : (beginBreak p i s).buzz = s.buzz := by unfold beginBreak; simp
@[simp] theorem beginBreak_score (p : Fin 4) (i : Bool) : (beginBreak p i s).score = s.score := by unfold beginBreak; simp
@[simp] theorem beginBreak_sorter (p : Fin 4) (i : Bool) : (beginBreak p i s).sorter = s.sorter := by unfold beginBreak; simp
@[simp] theorem beginBreak_comp (p : Fin 4) (i : Bool) : (beginBreak p i s).comp = s.comp := by unfold beginBreak; simp
@[simp] theorem beginBreak_link (p : Fin 4) (i : Bool) : (beginBreak p i s).link = s.link := by unfold beginBreak; simp
@[simp] theorem beginBreak_loader (p : Fin 4) (i : Bool) : (beginBreak p i s).loader = s.loader := by unfold beginBreak; simp
@[simp] theorem beginBreak_free (p : Fin 4) (i : Bool) : (beginBreak p i s).free = s.free := by unfold beginBreak; simp
@[simp] theorem beginBreak_pending (p : Fin 4) (i : Bool) : (beginBreak p i s).pending = s.pending := by unfold beginBreak; simp

@[simp] theorem lineChanged_now (p : Fin 4) (i : Bool) : (lineChanged p i s).now = s.now := by unfold lineChanged; simp
@[simp] theorem lineChanged_stamper (p : Fin 4) (i : Bool) : (lineChanged p i s).stamper = s.stamper := by unfold lineChanged; simp
@[simp] theorem lineChanged_seats (p : Fin 4) (i : Bool) : (lineChanged p i s).seats = s.seats := by unfold lineChanged; simp
@[simp] theorem lineChanged_teams (p : Fin 4) (i : Bool) : (lineChanged p i s).teams = s.teams := by unfold lineChanged; simp
@[simp] theorem lineChanged_questions (p : Fin 4) (i : Bool) : (lineChanged p i s).questions = s.questions := by unfold lineChanged; simp
@[simp] theorem lineChanged_cues (p : Fin 4) (i : Bool) : (lineChanged p i s).cues = s.cues := by unfold lineChanged; simp
@[simp] theorem lineChanged_round (p : Fin 4) (i : Bool) : (lineChanged p i s).round = s.round := by unfold lineChanged; simp
@[simp] theorem lineChanged_resp (p : Fin 4) (i : Bool) : (lineChanged p i s).resp = s.resp := by unfold lineChanged; simp
@[simp] theorem lineChanged_buzz (p : Fin 4) (i : Bool) : (lineChanged p i s).buzz = s.buzz := by unfold lineChanged; simp
@[simp] theorem lineChanged_score (p : Fin 4) (i : Bool) : (lineChanged p i s).score = s.score := by unfold lineChanged; simp
@[simp] theorem lineChanged_sorter (p : Fin 4) (i : Bool) : (lineChanged p i s).sorter = s.sorter := by unfold lineChanged; simp
@[simp] theorem lineChanged_comp (p : Fin 4) (i : Bool) : (lineChanged p i s).comp = s.comp := by unfold lineChanged; simp
@[simp] theorem lineChanged_link (p : Fin 4) (i : Bool) : (lineChanged p i s).link = s.link := by unfold lineChanged; simp
@[simp] theorem lineChanged_hub (p : Fin 4) (i : Bool) : (lineChanged p i s).hub = s.hub := by unfold lineChanged; simp
@[simp] theorem lineChanged_loader (p : Fin 4) (i : Bool) : (lineChanged p i s).loader = s.loader := by unfold lineChanged; simp
@[simp] theorem lineChanged_free (p : Fin 4) (i : Bool) : (lineChanged p i s).free = s.free := by unfold lineChanged; simp
@[simp] theorem lineChanged_pending (p : Fin 4) (i : Bool) : (lineChanged p i s).pending = s.pending := by unfold lineChanged; simp

@[simp] theorem endBreak_now (p : Fin 4) : (endBreak p s).now = s.now := by unfold endBreak; simp
@[simp] theorem endBreak_stamper (p : Fin 4) : (endBreak p s).stamper = s.stamper := by unfold endBreak; simp
@[simp] theorem endBreak_seats (p : Fin 4) : (endBreak p s).seats = s.seats := by unfold endBreak; simp
@[simp] theorem endBreak_teams (p : Fin 4) : (endBreak p s).teams = s.teams := by unfold endBreak; simp
@[simp] theorem endBreak_questions (p : Fin 4) : (endBreak p s).questions = s.questions := by unfold endBreak; simp
@[simp] theorem endBreak_cues (p : Fin 4) : (endBreak p s).cues = s.cues := by unfold endBreak; simp
@[simp] theorem endBreak_round (p : Fin 4) : (endBreak p s).round = s.round := by unfold endBreak; simp
@[simp] theorem endBreak_resp (p : Fin 4) : (endBreak p s).resp = s.resp := by unfold endBreak; simp
@[simp] theorem endBreak_buzz (p : Fin 4) : (endBreak p s).buzz = s.buzz := by unfold endBreak; simp
@[simp] theorem endBreak_score (p : Fin 4) : (endBreak p s).score = s.score := by unfold endBreak; simp
@[simp] theorem endBreak_sorter (p : Fin 4) : (endBreak p s).sorter = s.sorter := by unfold endBreak; simp
@[simp] theorem endBreak_comp (p : Fin 4) : (endBreak p s).comp = s.comp := by unfold endBreak; simp
@[simp] theorem endBreak_link (p : Fin 4) : (endBreak p s).link = s.link := by unfold endBreak; simp
@[simp] theorem endBreak_loader (p : Fin 4) : (endBreak p s).loader = s.loader := by unfold endBreak; simp
@[simp] theorem endBreak_free (p : Fin 4) : (endBreak p s).free = s.free := by unfold endBreak; simp
@[simp] theorem endBreak_pending (p : Fin 4) : (endBreak p s).pending = s.pending := by unfold endBreak; simp

end Sys2Proof.Machine
end

