-- ==== Sys2Proof/Laws/ScoreFrames.lean ====
section
/-! SUPPORT. What each operation of Machine/ScoreOps.lean leaves unchanged: one simp lemma for each block that it does not touch. -/

namespace Sys2Proof.Machine

variable (s : State)

@[simp] theorem enterStep_now (p : Playing) (n : Nat) : (enterStep p n s).now = s.now := by unfold enterStep; simp
@[simp] theorem enterStep_ports (p : Playing) (n : Nat) : (enterStep p n s).ports = s.ports := by unfold enterStep; simp
@[simp] theorem enterStep_stamper (p : Playing) (n : Nat) : (enterStep p n s).stamper = s.stamper := by unfold enterStep; simp
@[simp] theorem enterStep_seats (p : Playing) (n : Nat) : (enterStep p n s).seats = s.seats := by unfold enterStep; simp
@[simp] theorem enterStep_teams (p : Playing) (n : Nat) : (enterStep p n s).teams = s.teams := by unfold enterStep; simp
@[simp] theorem enterStep_questions (p : Playing) (n : Nat) : (enterStep p n s).questions = s.questions := by unfold enterStep; simp
@[simp] theorem enterStep_cues (p : Playing) (n : Nat) : (enterStep p n s).cues = s.cues := by unfold enterStep; simp
@[simp] theorem enterStep_round (p : Playing) (n : Nat) : (enterStep p n s).round = s.round := by unfold enterStep; simp
@[simp] theorem enterStep_resp (p : Playing) (n : Nat) : (enterStep p n s).resp = s.resp := by unfold enterStep; simp
@[simp] theorem enterStep_buzz (p : Playing) (n : Nat) : (enterStep p n s).buzz = s.buzz := by unfold enterStep; simp
@[simp] theorem enterStep_score (p : Playing) (n : Nat) : (enterStep p n s).score = s.score := by unfold enterStep; simp
@[simp] theorem enterStep_sorter (p : Playing) (n : Nat) : (enterStep p n s).sorter = s.sorter := by unfold enterStep; simp
@[simp] theorem enterStep_link (p : Playing) (n : Nat) : (enterStep p n s).link = s.link := by unfold enterStep; simp
@[simp] theorem enterStep_hub (p : Playing) (n : Nat) : (enterStep p n s).hub = s.hub := by unfold enterStep; simp
@[simp] theorem enterStep_loader (p : Playing) (n : Nat) : (enterStep p n s).loader = s.loader := by unfold enterStep; simp
@[simp] theorem enterStep_free (p : Playing) (n : Nat) : (enterStep p n s).free = s.free := by unfold enterStep; simp
@[simp] theorem enterStep_pending (p : Playing) (n : Nat) : (enterStep p n s).pending = s.pending := by unfold enterStep; simp

@[simp] theorem playSequence_now (n : Fin 16) : (playSequence n s).now = s.now := by unfold playSequence; simp
@[simp] theorem playSequence_ports (n : Fin 16) : (playSequence n s).ports = s.ports := by unfold playSequence; simp
@[simp] theorem playSequence_stamper (n : Fin 16) : (playSequence n s).stamper = s.stamper := by unfold playSequence; simp
@[simp] theorem playSequence_seats (n : Fin 16) : (playSequence n s).seats = s.seats := by unfold playSequence; simp
@[simp] theorem playSequence_teams (n : Fin 16) : (playSequence n s).teams = s.teams := by unfold playSequence; simp
@[simp] theorem playSequence_questions (n : Fin 16) : (playSequence n s).questions = s.questions := by unfold playSequence; simp
@[simp] theorem playSequence_cues (n : Fin 16) : (playSequence n s).cues = s.cues := by unfold playSequence; simp
@[simp] theorem playSequence_round (n : Fin 16) : (playSequence n s).round = s.round := by unfold playSequence; simp
@[simp] theorem playSequence_resp (n : Fin 16) : (playSequence n s).resp = s.resp := by unfold playSequence; simp
@[simp] theorem playSequence_buzz (n : Fin 16) : (playSequence n s).buzz = s.buzz := by unfold playSequence; simp
@[simp] theorem playSequence_score (n : Fin 16) : (playSequence n s).score = s.score := by unfold playSequence; simp
@[simp] theorem playSequence_sorter (n : Fin 16) : (playSequence n s).sorter = s.sorter := by unfold playSequence; simp
@[simp] theorem playSequence_link (n : Fin 16) : (playSequence n s).link = s.link := by unfold playSequence; simp
@[simp] theorem playSequence_hub (n : Fin 16) : (playSequence n s).hub = s.hub := by unfold playSequence; simp
@[simp] theorem playSequence_loader (n : Fin 16) : (playSequence n s).loader = s.loader := by unfold playSequence; simp
@[simp] theorem playSequence_free (n : Fin 16) : (playSequence n s).free = s.free := by unfold playSequence; simp
@[simp] theorem playSequence_pending (n : Fin 16) : (playSequence n s).pending = s.pending := by unfold playSequence; simp

@[simp] theorem revealAction_now (n : Byte) : ((revealAction n s).1).now = s.now := by unfold revealAction; (repeat' split) <;> simp
@[simp] theorem revealAction_ports (n : Byte) : ((revealAction n s).1).ports = s.ports := by unfold revealAction; (repeat' split) <;> simp
@[simp] theorem revealAction_stamper (n : Byte) : ((revealAction n s).1).stamper = s.stamper := by unfold revealAction; (repeat' split) <;> simp
@[simp] theorem revealAction_seats (n : Byte) : ((revealAction n s).1).seats = s.seats := by unfold revealAction; (repeat' split) <;> simp
@[simp] theorem revealAction_teams (n : Byte) : ((revealAction n s).1).teams = s.teams := by unfold revealAction; (repeat' split) <;> simp
@[simp] theorem revealAction_questions (n : Byte) : ((revealAction n s).1).questions = s.questions := by unfold revealAction; (repeat' split) <;> simp
@[simp] theorem revealAction_cues (n : Byte) : ((revealAction n s).1).cues = s.cues := by unfold revealAction; (repeat' split) <;> simp
@[simp] theorem revealAction_round (n : Byte) : ((revealAction n s).1).round = s.round := by unfold revealAction; (repeat' split) <;> simp
@[simp] theorem revealAction_resp (n : Byte) : ((revealAction n s).1).resp = s.resp := by unfold revealAction; (repeat' split) <;> simp
@[simp] theorem revealAction_buzz (n : Byte) : ((revealAction n s).1).buzz = s.buzz := by unfold revealAction; (repeat' split) <;> simp
@[simp] theorem revealAction_score (n : Byte) : ((revealAction n s).1).score = s.score := by unfold revealAction; (repeat' split) <;> simp
@[simp] theorem revealAction_sorter (n : Byte) : ((revealAction n s).1).sorter = s.sorter := by unfold revealAction; (repeat' split) <;> simp
@[simp] theorem revealAction_link (n : Byte) : ((revealAction n s).1).link = s.link := by unfold revealAction; (repeat' split) <;> simp
@[simp] theorem revealAction_hub (n : Byte) : ((revealAction n s).1).hub = s.hub := by unfold revealAction; (repeat' split) <;> simp
@[simp] theorem revealAction_loader (n : Byte) : ((revealAction n s).1).loader = s.loader := by unfold revealAction; (repeat' split) <;> simp
@[simp] theorem revealAction_free (n : Byte) : ((revealAction n s).1).free = s.free := by unfold revealAction; (repeat' split) <;> simp
@[simp] theorem revealAction_pending (n : Byte) : ((revealAction n s).1).pending = s.pending := by unfold revealAction; (repeat' split) <;> simp

@[simp] theorem revealAfterCommit_now (r : Option (Fin 16)) : (revealAfterCommit r s).now = s.now := by unfold revealAfterCommit; (repeat' split) <;> simp
@[simp] theorem revealAfterCommit_ports (r : Option (Fin 16)) : (revealAfterCommit r s).ports = s.ports := by unfold revealAfterCommit; (repeat' split) <;> simp
@[simp] theorem revealAfterCommit_stamper (r : Option (Fin 16)) : (revealAfterCommit r s).stamper = s.stamper := by unfold revealAfterCommit; (repeat' split) <;> simp
@[simp] theorem revealAfterCommit_seats (r : Option (Fin 16)) : (revealAfterCommit r s).seats = s.seats := by unfold revealAfterCommit; (repeat' split) <;> simp
@[simp] theorem revealAfterCommit_teams (r : Option (Fin 16)) : (revealAfterCommit r s).teams = s.teams := by unfold revealAfterCommit; (repeat' split) <;> simp
@[simp] theorem revealAfterCommit_questions (r : Option (Fin 16)) : (revealAfterCommit r s).questions = s.questions := by unfold revealAfterCommit; (repeat' split) <;> simp
@[simp] theorem revealAfterCommit_cues (r : Option (Fin 16)) : (revealAfterCommit r s).cues = s.cues := by unfold revealAfterCommit; (repeat' split) <;> simp
@[simp] theorem revealAfterCommit_round (r : Option (Fin 16)) : (revealAfterCommit r s).round = s.round := by unfold revealAfterCommit; (repeat' split) <;> simp
@[simp] theorem revealAfterCommit_resp (r : Option (Fin 16)) : (revealAfterCommit r s).resp = s.resp := by unfold revealAfterCommit; (repeat' split) <;> simp
@[simp] theorem revealAfterCommit_buzz (r : Option (Fin 16)) : (revealAfterCommit r s).buzz = s.buzz := by unfold revealAfterCommit; (repeat' split) <;> simp
@[simp] theorem revealAfterCommit_score (r : Option (Fin 16)) : (revealAfterCommit r s).score = s.score := by unfold revealAfterCommit; (repeat' split) <;> simp
@[simp] theorem revealAfterCommit_sorter (r : Option (Fin 16)) : (revealAfterCommit r s).sorter = s.sorter := by unfold revealAfterCommit; (repeat' split) <;> simp
@[simp] theorem revealAfterCommit_link (r : Option (Fin 16)) : (revealAfterCommit r s).link = s.link := by unfold revealAfterCommit; (repeat' split) <;> simp
@[simp] theorem revealAfterCommit_hub (r : Option (Fin 16)) : (revealAfterCommit r s).hub = s.hub := by unfold revealAfterCommit; (repeat' split) <;> simp
@[simp] theorem revealAfterCommit_loader (r : Option (Fin 16)) : (revealAfterCommit r s).loader = s.loader := by unfold revealAfterCommit; (repeat' split) <;> simp
@[simp] theorem revealAfterCommit_free (r : Option (Fin 16)) : (revealAfterCommit r s).free = s.free := by unfold revealAfterCommit; (repeat' split) <;> simp
@[simp] theorem revealAfterCommit_pending (r : Option (Fin 16)) : (revealAfterCommit r s).pending = s.pending := by unfold revealAfterCommit; (repeat' split) <;> simp

@[simp] theorem stopSequence_now : ((stopSequence s).1).now = s.now := by unfold stopSequence; (repeat' split) <;> simp
@[simp] theorem stopSequence_ports : ((stopSequence s).1).ports = s.ports := by unfold stopSequence; (repeat' split) <;> simp
@[simp] theorem stopSequence_stamper : ((stopSequence s).1).stamper = s.stamper := by unfold stopSequence; (repeat' split) <;> simp
@[simp] theorem stopSequence_seats : ((stopSequence s).1).seats = s.seats := by unfold stopSequence; (repeat' split) <;> simp
@[simp] theorem stopSequence_teams : ((stopSequence s).1).teams = s.teams := by unfold stopSequence; (repeat' split) <;> simp
@[simp] theorem stopSequence_questions : ((stopSequence s).1).questions = s.questions := by unfold stopSequence; (repeat' split) <;> simp
@[simp] theorem stopSequence_cues : ((stopSequence s).1).cues = s.cues := by unfold stopSequence; (repeat' split) <;> simp
@[simp] theorem stopSequence_round : ((stopSequence s).1).round = s.round := by unfold stopSequence; (repeat' split) <;> simp
@[simp] theorem stopSequence_resp : ((stopSequence s).1).resp = s.resp := by unfold stopSequence; (repeat' split) <;> simp
@[simp] theorem stopSequence_buzz : ((stopSequence s).1).buzz = s.buzz := by unfold stopSequence; (repeat' split) <;> simp
@[simp] theorem stopSequence_score : ((stopSequence s).1).score = s.score := by unfold stopSequence; (repeat' split) <;> simp
@[simp] theorem stopSequence_sorter : ((stopSequence s).1).sorter = s.sorter := by unfold stopSequence; (repeat' split) <;> simp
@[simp] theorem stopSequence_link : ((stopSequence s).1).link = s.link := by unfold stopSequence; (repeat' split) <;> simp
@[simp] theorem stopSequence_hub : ((stopSequence s).1).hub = s.hub := by unfold stopSequence; (repeat' split) <;> simp
@[simp] theorem stopSequence_loader : ((stopSequence s).1).loader = s.loader := by unfold stopSequence; (repeat' split) <;> simp
@[simp] theorem stopSequence_free : ((stopSequence s).1).free = s.free := by unfold stopSequence; (repeat' split) <;> simp
@[simp] theorem stopSequence_pending : ((stopSequence s).1).pending = s.pending := by unfold stopSequence; (repeat' split) <;> simp

@[simp] theorem setResting_now (v : View) : (setResting v s).now = s.now := by unfold setResting; (repeat' split) <;> simp
@[simp] theorem setResting_ports (v : View) : (setResting v s).ports = s.ports := by unfold setResting; (repeat' split) <;> simp
@[simp] theorem setResting_stamper (v : View) : (setResting v s).stamper = s.stamper := by unfold setResting; (repeat' split) <;> simp
@[simp] theorem setResting_seats (v : View) : (setResting v s).seats = s.seats := by unfold setResting; (repeat' split) <;> simp
@[simp] theorem setResting_teams (v : View) : (setResting v s).teams = s.teams := by unfold setResting; (repeat' split) <;> simp
@[simp] theorem setResting_questions (v : View) : (setResting v s).questions = s.questions := by unfold setResting; (repeat' split) <;> simp
@[simp] theorem setResting_cues (v : View) : (setResting v s).cues = s.cues := by unfold setResting; (repeat' split) <;> simp
@[simp] theorem setResting_round (v : View) : (setResting v s).round = s.round := by unfold setResting; (repeat' split) <;> simp
@[simp] theorem setResting_resp (v : View) : (setResting v s).resp = s.resp := by unfold setResting; (repeat' split) <;> simp
@[simp] theorem setResting_buzz (v : View) : (setResting v s).buzz = s.buzz := by unfold setResting; (repeat' split) <;> simp
@[simp] theorem setResting_score (v : View) : (setResting v s).score = s.score := by unfold setResting; (repeat' split) <;> simp
@[simp] theorem setResting_sorter (v : View) : (setResting v s).sorter = s.sorter := by unfold setResting; (repeat' split) <;> simp
@[simp] theorem setResting_link (v : View) : (setResting v s).link = s.link := by unfold setResting; (repeat' split) <;> simp
@[simp] theorem setResting_loader (v : View) : (setResting v s).loader = s.loader := by unfold setResting; (repeat' split) <;> simp
@[simp] theorem setResting_free (v : View) : (setResting v s).free = s.free := by unfold setResting; (repeat' split) <;> simp
@[simp] theorem setResting_pending (v : View) : (setResting v s).pending = s.pending := by unfold setResting; (repeat' split) <;> simp

@[simp] theorem restingAction_now (v : Byte) : ((restingAction v s).1).now = s.now := by unfold restingAction; (repeat' split) <;> simp
@[simp] theorem restingAction_ports (v : Byte) : ((restingAction v s).1).ports = s.ports := by unfold restingAction; (repeat' split) <;> simp
@[simp] theorem restingAction_stamper (v : Byte) : ((restingAction v s).1).stamper = s.stamper := by unfold restingAction; (repeat' split) <;> simp
@[simp] theorem restingAction_seats (v : Byte) : ((restingAction v s).1).seats = s.seats := by unfold restingAction; (repeat' split) <;> simp
@[simp] theorem restingAction_teams (v : Byte) : ((restingAction v s).1).teams = s.teams := by unfold restingAction; (repeat' split) <;> simp
@[simp] theorem restingAction_questions (v : Byte) : ((restingAction v s).1).questions = s.questions := by unfold restingAction; (repeat' split) <;> simp
@[simp] theorem restingAction_cues (v : Byte) : ((restingAction v s).1).cues = s.cues := by unfold restingAction; (repeat' split) <;> simp
@[simp] theorem restingAction_round (v : Byte) : ((restingAction v s).1).round = s.round := by unfold restingAction; (repeat' split) <;> simp
@[simp] theorem restingAction_resp (v : Byte) : ((restingAction v s).1).resp = s.resp := by unfold restingAction; (repeat' split) <;> simp
@[simp] theorem restingAction_buzz (v : Byte) : ((restingAction v s).1).buzz = s.buzz := by unfold restingAction; (repeat' split) <;> simp
@[simp] theorem restingAction_score (v : Byte) : ((restingAction v s).1).score = s.score := by unfold restingAction; (repeat' split) <;> simp
@[simp] theorem restingAction_sorter (v : Byte) : ((restingAction v s).1).sorter = s.sorter := by unfold restingAction; (repeat' split) <;> simp
@[simp] theorem restingAction_link (v : Byte) : ((restingAction v s).1).link = s.link := by unfold restingAction; (repeat' split) <;> simp
@[simp] theorem restingAction_loader (v : Byte) : ((restingAction v s).1).loader = s.loader := by unfold restingAction; (repeat' split) <;> simp
@[simp] theorem restingAction_free (v : Byte) : ((restingAction v s).1).free = s.free := by unfold restingAction; (repeat' split) <;> simp
@[simp] theorem restingAction_pending (v : Byte) : ((restingAction v s).1).pending = s.pending := by unfold restingAction; (repeat' split) <;> simp

@[simp] theorem freezeAction_now : ((freezeAction s).1).now = s.now := by unfold freezeAction; simp
@[simp] theorem freezeAction_ports : ((freezeAction s).1).ports = s.ports := by unfold freezeAction; simp
@[simp] theorem freezeAction_stamper : ((freezeAction s).1).stamper = s.stamper := by unfold freezeAction; simp
@[simp] theorem freezeAction_seats : ((freezeAction s).1).seats = s.seats := by unfold freezeAction; simp
@[simp] theorem freezeAction_teams : ((freezeAction s).1).teams = s.teams := by unfold freezeAction; simp
@[simp] theorem freezeAction_questions : ((freezeAction s).1).questions = s.questions := by unfold freezeAction; simp
@[simp] theorem freezeAction_cues : ((freezeAction s).1).cues = s.cues := by unfold freezeAction; simp
@[simp] theorem freezeAction_round : ((freezeAction s).1).round = s.round := by unfold freezeAction; simp
@[simp] theorem freezeAction_resp : ((freezeAction s).1).resp = s.resp := by unfold freezeAction; simp
@[simp] theorem freezeAction_buzz : ((freezeAction s).1).buzz = s.buzz := by unfold freezeAction; simp
@[simp] theorem freezeAction_score : ((freezeAction s).1).score = s.score := by unfold freezeAction; simp
@[simp] theorem freezeAction_sorter : ((freezeAction s).1).sorter = s.sorter := by unfold freezeAction; simp
@[simp] theorem freezeAction_link : ((freezeAction s).1).link = s.link := by unfold freezeAction; simp
@[simp] theorem freezeAction_hub : ((freezeAction s).1).hub = s.hub := by unfold freezeAction; simp
@[simp] theorem freezeAction_loader : ((freezeAction s).1).loader = s.loader := by unfold freezeAction; simp
@[simp] theorem freezeAction_free : ((freezeAction s).1).free = s.free := by unfold freezeAction; simp
@[simp] theorem freezeAction_pending : ((freezeAction s).1).pending = s.pending := by unfold freezeAction; simp

@[simp] theorem thawAction_now : ((thawAction s).1).now = s.now := by unfold thawAction; simp
@[simp] theorem thawAction_ports : ((thawAction s).1).ports = s.ports := by unfold thawAction; simp
@[simp] theorem thawAction_stamper : ((thawAction s).1).stamper = s.stamper := by unfold thawAction; simp
@[simp] theorem thawAction_seats : ((thawAction s).1).seats = s.seats := by unfold thawAction; simp
@[simp] theorem thawAction_teams : ((thawAction s).1).teams = s.teams := by unfold thawAction; simp
@[simp] theorem thawAction_questions : ((thawAction s).1).questions = s.questions := by unfold thawAction; simp
@[simp] theorem thawAction_cues : ((thawAction s).1).cues = s.cues := by unfold thawAction; simp
@[simp] theorem thawAction_round : ((thawAction s).1).round = s.round := by unfold thawAction; simp
@[simp] theorem thawAction_resp : ((thawAction s).1).resp = s.resp := by unfold thawAction; simp
@[simp] theorem thawAction_buzz : ((thawAction s).1).buzz = s.buzz := by unfold thawAction; simp
@[simp] theorem thawAction_score : ((thawAction s).1).score = s.score := by unfold thawAction; simp
@[simp] theorem thawAction_sorter : ((thawAction s).1).sorter = s.sorter := by unfold thawAction; simp
@[simp] theorem thawAction_link : ((thawAction s).1).link = s.link := by unfold thawAction; simp
@[simp] theorem thawAction_hub : ((thawAction s).1).hub = s.hub := by unfold thawAction; simp
@[simp] theorem thawAction_loader : ((thawAction s).1).loader = s.loader := by unfold thawAction; simp
@[simp] theorem thawAction_free : ((thawAction s).1).free = s.free := by unfold thawAction; simp
@[simp] theorem thawAction_pending : ((thawAction s).1).pending = s.pending := by unfold thawAction; simp

@[simp] theorem curtainOnAction_now : ((curtainOnAction s).1).now = s.now := by unfold curtainOnAction; (repeat' split) <;> simp
@[simp] theorem curtainOnAction_ports : ((curtainOnAction s).1).ports = s.ports := by unfold curtainOnAction; (repeat' split) <;> simp
@[simp] theorem curtainOnAction_stamper : ((curtainOnAction s).1).stamper = s.stamper := by unfold curtainOnAction; (repeat' split) <;> simp
@[simp] theorem curtainOnAction_seats : ((curtainOnAction s).1).seats = s.seats := by unfold curtainOnAction; (repeat' split) <;> simp
@[simp] theorem curtainOnAction_teams : ((curtainOnAction s).1).teams = s.teams := by unfold curtainOnAction; (repeat' split) <;> simp
@[simp] theorem curtainOnAction_questions : ((curtainOnAction s).1).questions = s.questions := by unfold curtainOnAction; (repeat' split) <;> simp
@[simp] theorem curtainOnAction_cues : ((curtainOnAction s).1).cues = s.cues := by unfold curtainOnAction; (repeat' split) <;> simp
@[simp] theorem curtainOnAction_round : ((curtainOnAction s).1).round = s.round := by unfold curtainOnAction; (repeat' split) <;> simp
@[simp] theorem curtainOnAction_resp : ((curtainOnAction s).1).resp = s.resp := by unfold curtainOnAction; (repeat' split) <;> simp
@[simp] theorem curtainOnAction_buzz : ((curtainOnAction s).1).buzz = s.buzz := by unfold curtainOnAction; (repeat' split) <;> simp
@[simp] theorem curtainOnAction_score : ((curtainOnAction s).1).score = s.score := by unfold curtainOnAction; (repeat' split) <;> simp
@[simp] theorem curtainOnAction_sorter : ((curtainOnAction s).1).sorter = s.sorter := by unfold curtainOnAction; (repeat' split) <;> simp
@[simp] theorem curtainOnAction_hub : ((curtainOnAction s).1).hub = s.hub := by unfold curtainOnAction; (repeat' split) <;> simp
@[simp] theorem curtainOnAction_loader : ((curtainOnAction s).1).loader = s.loader := by unfold curtainOnAction; (repeat' split) <;> simp
@[simp] theorem curtainOnAction_pending : ((curtainOnAction s).1).pending = s.pending := by unfold curtainOnAction; (repeat' split) <;> simp

@[simp] theorem curtainOffAction_now : ((curtainOffAction s).1).now = s.now := by unfold curtainOffAction; (repeat' split) <;> simp
@[simp] theorem curtainOffAction_ports : ((curtainOffAction s).1).ports = s.ports := by unfold curtainOffAction; (repeat' split) <;> simp
@[simp] theorem curtainOffAction_stamper : ((curtainOffAction s).1).stamper = s.stamper := by unfold curtainOffAction; (repeat' split) <;> simp
@[simp] theorem curtainOffAction_seats : ((curtainOffAction s).1).seats = s.seats := by unfold curtainOffAction; (repeat' split) <;> simp
@[simp] theorem curtainOffAction_teams : ((curtainOffAction s).1).teams = s.teams := by unfold curtainOffAction; (repeat' split) <;> simp
@[simp] theorem curtainOffAction_questions : ((curtainOffAction s).1).questions = s.questions := by unfold curtainOffAction; (repeat' split) <;> simp
@[simp] theorem curtainOffAction_cues : ((curtainOffAction s).1).cues = s.cues := by unfold curtainOffAction; (repeat' split) <;> simp
@[simp] theorem curtainOffAction_round : ((curtainOffAction s).1).round = s.round := by unfold curtainOffAction; (repeat' split) <;> simp
@[simp] theorem curtainOffAction_resp : ((curtainOffAction s).1).resp = s.resp := by unfold curtainOffAction; (repeat' split) <;> simp
@[simp] theorem curtainOffAction_buzz : ((curtainOffAction s).1).buzz = s.buzz := by unfold curtainOffAction; (repeat' split) <;> simp
@[simp] theorem curtainOffAction_score : ((curtainOffAction s).1).score = s.score := by unfold curtainOffAction; (repeat' split) <;> simp
@[simp] theorem curtainOffAction_sorter : ((curtainOffAction s).1).sorter = s.sorter := by unfold curtainOffAction; (repeat' split) <;> simp
@[simp] theorem curtainOffAction_hub : ((curtainOffAction s).1).hub = s.hub := by unfold curtainOffAction; (repeat' split) <;> simp
@[simp] theorem curtainOffAction_loader : ((curtainOffAction s).1).loader = s.loader := by unfold curtainOffAction; (repeat' split) <;> simp
@[simp] theorem curtainOffAction_free : ((curtainOffAction s).1).free = s.free := by unfold curtainOffAction; (repeat' split) <;> simp
@[simp] theorem curtainOffAction_pending : ((curtainOffAction s).1).pending = s.pending := by unfold curtainOffAction; (repeat' split) <;> simp

@[simp] theorem swapBuffers_now (r : Option Byte) : (swapBuffers r s).now = s.now := by simp [swapBuffers, apply_ite State.now]
@[simp] theorem swapBuffers_ports (r : Option Byte) : (swapBuffers r s).ports = s.ports := by simp [swapBuffers, apply_ite State.ports]
@[simp] theorem swapBuffers_stamper (r : Option Byte) : (swapBuffers r s).stamper = s.stamper := by simp [swapBuffers, apply_ite State.stamper]
@[simp] theorem swapBuffers_seats (r : Option Byte) : (swapBuffers r s).seats = s.seats := by simp [swapBuffers, apply_ite State.seats]
@[simp] theorem swapBuffers_teams (r : Option Byte) : (swapBuffers r s).teams = s.teams := by simp [swapBuffers, apply_ite State.teams]
@[simp] theorem swapBuffers_questions (r : Option Byte) : (swapBuffers r s).questions = s.questions := by simp [swapBuffers, apply_ite State.questions]
@[simp] theorem swapBuffers_cues (r : Option Byte) : (swapBuffers r s).cues = s.cues := by simp [swapBuffers, apply_ite State.cues]
@[simp] theorem swapBuffers_round (r : Option Byte) : (swapBuffers r s).round = s.round := by simp [swapBuffers, apply_ite State.round]
@[simp] theorem swapBuffers_resp (r : Option Byte) : (swapBuffers r s).resp = s.resp := by simp [swapBuffers, apply_ite State.resp]
@[simp] theorem swapBuffers_buzz (r : Option Byte) : (swapBuffers r s).buzz = s.buzz := by simp [swapBuffers, apply_ite State.buzz]
@[simp] theorem swapBuffers_score (r : Option Byte) : (swapBuffers r s).score = s.score := by simp [swapBuffers, apply_ite State.score]
@[simp] theorem swapBuffers_sorter (r : Option Byte) : (swapBuffers r s).sorter = s.sorter := by simp [swapBuffers, apply_ite State.sorter]
@[simp] theorem swapBuffers_hub (r : Option Byte) : (swapBuffers r s).hub = s.hub := by simp [swapBuffers, apply_ite State.hub]
@[simp] theorem swapBuffers_loader (r : Option Byte) : (swapBuffers r s).loader = s.loader := by simp [swapBuffers, apply_ite State.loader]
@[simp] theorem swapBuffers_pending (r : Option Byte) : (swapBuffers r s).pending = s.pending := by simp [swapBuffers, apply_ite State.pending]

@[simp] theorem stepRunsOut_now (p : Playing) : (stepRunsOut p s).now = s.now := by simp [stepRunsOut, apply_ite State.now]
@[simp] theorem stepRunsOut_ports (p : Playing) : (stepRunsOut p s).ports = s.ports := by simp [stepRunsOut, apply_ite State.ports]
@[simp] theorem stepRunsOut_stamper (p : Playing) : (stepRunsOut p s).stamper = s.stamper := by simp [stepRunsOut, apply_ite State.stamper]
@[simp] theorem stepRunsOut_seats (p : Playing) : (stepRunsOut p s).seats = s.seats := by simp [stepRunsOut, apply_ite State.seats]
@[simp] theorem stepRunsOut_teams (p : Playing) : (stepRunsOut p s).teams = s.teams := by simp [stepRunsOut, apply_ite State.teams]
@[simp] theorem stepRunsOut_questions (p : Playing) : (stepRunsOut p s).questions = s.questions := by simp [stepRunsOut, apply_ite State.questions]
@[simp] theorem stepRunsOut_cues (p : Playing) : (stepRunsOut p s).cues = s.cues := by simp [stepRunsOut, apply_ite State.cues]
@[simp] theorem stepRunsOut_round (p : Playing) : (stepRunsOut p s).round = s.round := by simp [stepRunsOut, apply_ite State.round]
@[simp] theorem stepRunsOut_resp (p : Playing) : (stepRunsOut p s).resp = s.resp := by simp [stepRunsOut, apply_ite State.resp]
@[simp] theorem stepRunsOut_buzz (p : Playing) : (stepRunsOut p s).buzz = s.buzz := by simp [stepRunsOut, apply_ite State.buzz]
@[simp] theorem stepRunsOut_score (p : Playing) : (stepRunsOut p s).score = s.score := by simp [stepRunsOut, apply_ite State.score]
@[simp] theorem stepRunsOut_sorter (p : Playing) : (stepRunsOut p s).sorter = s.sorter := by simp [stepRunsOut, apply_ite State.sorter]
@[simp] theorem stepRunsOut_link (p : Playing) : (stepRunsOut p s).link = s.link := by simp [stepRunsOut, apply_ite State.link]
@[simp] theorem stepRunsOut_loader (p : Playing) : (stepRunsOut p s).loader = s.loader := by simp [stepRunsOut, apply_ite State.loader]
@[simp] theorem stepRunsOut_free (p : Playing) : (stepRunsOut p s).free = s.free := by simp [stepRunsOut, apply_ite State.free]
@[simp] theorem stepRunsOut_pending (p : Playing) : (stepRunsOut p s).pending = s.pending := by simp [stepRunsOut, apply_ite State.pending]

@[simp] theorem countStep_now : (countStep s).now = s.now := by unfold countStep; (repeat' split) <;> simp
@[simp] theorem countStep_ports : (countStep s).ports = s.ports := by unfold countStep; (repeat' split) <;> simp
@[simp] theorem countStep_stamper : (countStep s).stamper = s.stamper := by unfold countStep; (repeat' split) <;> simp
@[simp] theorem countStep_seats : (countStep s).seats = s.seats := by unfold countStep; (repeat' split) <;> simp
@[simp] theorem countStep_teams : (countStep s).teams = s.teams := by unfold countStep; (repeat' split) <;> simp
@[simp] theorem countStep_questions : (countStep s).questions = s.questions := by unfold countStep; (repeat' split) <;> simp
@[simp] theorem countStep_cues : (countStep s).cues = s.cues := by unfold countStep; (repeat' split) <;> simp
@[simp] theorem countStep_round : (countStep s).round = s.round := by unfold countStep; (repeat' split) <;> simp
@[simp] theorem countStep_resp : (countStep s).resp = s.resp := by unfold countStep; (repeat' split) <;> simp
@[simp] theorem countStep_buzz : (countStep s).buzz = s.buzz := by unfold countStep; (repeat' split) <;> simp
@[simp] theorem countStep_score : (countStep s).score = s.score := by unfold countStep; (repeat' split) <;> simp
@[simp] theorem countStep_sorter : (countStep s).sorter = s.sorter := by unfold countStep; (repeat' split) <;> simp
@[simp] theorem countStep_link : (countStep s).link = s.link := by unfold countStep; (repeat' split) <;> simp
@[simp] theorem countStep_loader : (countStep s).loader = s.loader := by unfold countStep; (repeat' split) <;> simp
@[simp] theorem countStep_free : (countStep s).free = s.free := by unfold countStep; (repeat' split) <;> simp
@[simp] theorem countStep_pending : (countStep s).pending = s.pending := by unfold countStep; (repeat' split) <;> simp

@[simp] theorem countdownRule_now : (countdownRule s).now = s.now := by simp [countdownRule, apply_ite State.now]
@[simp] theorem countdownRule_ports : (countdownRule s).ports = s.ports := by simp [countdownRule, apply_ite State.ports]
@[simp] theorem countdownRule_stamper : (countdownRule s).stamper = s.stamper := by simp [countdownRule, apply_ite State.stamper]
@[simp] theorem countdownRule_seats : (countdownRule s).seats = s.seats := by simp [countdownRule, apply_ite State.seats]
@[simp] theorem countdownRule_teams : (countdownRule s).teams = s.teams := by simp [countdownRule, apply_ite State.teams]
@[simp] theorem countdownRule_questions : (countdownRule s).questions = s.questions := by simp [countdownRule, apply_ite State.questions]
@[simp] theorem countdownRule_cues : (countdownRule s).cues = s.cues := by simp [countdownRule, apply_ite State.cues]
@[simp] theorem countdownRule_round : (countdownRule s).round = s.round := by simp [countdownRule, apply_ite State.round]
@[simp] theorem countdownRule_resp : (countdownRule s).resp = s.resp := by simp [countdownRule, apply_ite State.resp]
@[simp] theorem countdownRule_buzz : (countdownRule s).buzz = s.buzz := by simp [countdownRule, apply_ite State.buzz]
@[simp] theorem countdownRule_score : (countdownRule s).score = s.score := by simp [countdownRule, apply_ite State.score]
@[simp] theorem countdownRule_sorter : (countdownRule s).sorter = s.sorter := by simp [countdownRule, apply_ite State.sorter]
@[simp] theorem countdownRule_link : (countdownRule s).link = s.link := by simp [countdownRule, apply_ite State.link]
@[simp] theorem countdownRule_hub : (countdownRule s).hub = s.hub := by simp [countdownRule, apply_ite State.hub]
@[simp] theorem countdownRule_loader : (countdownRule s).loader = s.loader := by simp [countdownRule, apply_ite State.loader]
@[simp] theorem countdownRule_free : (countdownRule s).free = s.free := by simp [countdownRule, apply_ite State.free]
@[simp] theorem countdownRule_pending : (countdownRule s).pending = s.pending := by simp [countdownRule, apply_ite State.pending]

@[simp] theorem markSteps_now (r : Option Byte) : (markSteps r s).now = s.now := by unfold markSteps; simp
@[simp] theorem markSteps_ports (r : Option Byte) : (markSteps r s).ports = s.ports := by unfold markSteps; simp
@[simp] theorem markSteps_stamper (r : Option Byte) : (markSteps r s).stamper = s.stamper := by unfold markSteps; simp
@[simp] theorem markSteps_seats (r : Option Byte) : (markSteps r s).seats = s.seats := by unfold markSteps; simp
@[simp] theorem markSteps_teams (r : Option Byte) : (markSteps r s).teams = s.teams := by unfold markSteps; simp
@[simp] theorem markSteps_questions (r : Option Byte) : (markSteps r s).questions = s.questions := by unfold markSteps; simp
@[simp] theorem markSteps_cues (r : Option Byte) : (markSteps r s).cues = s.cues := by unfold markSteps; simp
@[simp] theorem markSteps_round (r : Option Byte) : (markSteps r s).round = s.round := by unfold markSteps; simp
@[simp] theorem markSteps_resp (r : Option Byte) : (markSteps r s).resp = s.resp := by unfold markSteps; simp
@[simp] theorem markSteps_buzz (r : Option Byte) : (markSteps r s).buzz = s.buzz := by unfold markSteps; simp
@[simp] theorem markSteps_score (r : Option Byte) : (markSteps r s).score = s.score := by unfold markSteps; simp
@[simp] theorem markSteps_sorter (r : Option Byte) : (markSteps r s).sorter = s.sorter := by unfold markSteps; simp
@[simp] theorem markSteps_loader (r : Option Byte) : (markSteps r s).loader = s.loader := by unfold markSteps; simp
@[simp] theorem markSteps_pending (r : Option Byte) : (markSteps r s).pending = s.pending := by unfold markSteps; simp

@[simp] theorem markWall_now (r : Byte) : (markWall r s).now = s.now := by simp [markWall, apply_ite State.now]
@[simp] theorem markWall_ports (r : Byte) : (markWall r s).ports = s.ports := by simp [markWall, apply_ite State.ports]
@[simp] theorem markWall_stamper (r : Byte) : (markWall r s).stamper = s.stamper := by simp [markWall, apply_ite State.stamper]
@[simp] theorem markWall_seats (r : Byte) : (markWall r s).seats = s.seats := by simp [markWall, apply_ite State.seats]
@[simp] theorem markWall_teams (r : Byte) : (markWall r s).teams = s.teams := by simp [markWall, apply_ite State.teams]
@[simp] theorem markWall_questions (r : Byte) : (markWall r s).questions = s.questions := by simp [markWall, apply_ite State.questions]
@[simp] theorem markWall_cues (r : Byte) : (markWall r s).cues = s.cues := by simp [markWall, apply_ite State.cues]
@[simp] theorem markWall_round (r : Byte) : (markWall r s).round = s.round := by simp [markWall, apply_ite State.round]
@[simp] theorem markWall_resp (r : Byte) : (markWall r s).resp = s.resp := by simp [markWall, apply_ite State.resp]
@[simp] theorem markWall_buzz (r : Byte) : (markWall r s).buzz = s.buzz := by simp [markWall, apply_ite State.buzz]
@[simp] theorem markWall_score (r : Byte) : (markWall r s).score = s.score := by simp [markWall, apply_ite State.score]
@[simp] theorem markWall_sorter (r : Byte) : (markWall r s).sorter = s.sorter := by simp [markWall, apply_ite State.sorter]
@[simp] theorem markWall_link (r : Byte) : (markWall r s).link = s.link := by simp [markWall, apply_ite State.link]
@[simp] theorem markWall_loader (r : Byte) : (markWall r s).loader = s.loader := by simp [markWall, apply_ite State.loader]
@[simp] theorem markWall_free (r : Byte) : (markWall r s).free = s.free := by simp [markWall, apply_ite State.free]
@[simp] theorem markWall_pending (r : Byte) : (markWall r s).pending = s.pending := by simp [markWall, apply_ite State.pending]

@[simp] theorem takeMark_now (r : Byte) : (takeMark r s).now = s.now := by unfold takeMark; simp
@[simp] theorem takeMark_ports (r : Byte) : (takeMark r s).ports = s.ports := by unfold takeMark; simp
@[simp] theorem takeMark_stamper (r : Byte) : (takeMark r s).stamper = s.stamper := by unfold takeMark; simp
@[simp] theorem takeMark_seats (r : Byte) : (takeMark r s).seats = s.seats := by unfold takeMark; simp
@[simp] theorem takeMark_teams (r : Byte) : (takeMark r s).teams = s.teams := by unfold takeMark; simp
@[simp] theorem takeMark_questions (r : Byte) : (takeMark r s).questions = s.questions := by unfold takeMark; simp
@[simp] theorem takeMark_cues (r : Byte) : (takeMark r s).cues = s.cues := by unfold takeMark; simp
@[simp] theorem takeMark_round (r : Byte) : (takeMark r s).round = s.round := by unfold takeMark; simp
@[simp] theorem takeMark_resp (r : Byte) : (takeMark r s).resp = s.resp := by unfold takeMark; simp
@[simp] theorem takeMark_buzz (r : Byte) : (takeMark r s).buzz = s.buzz := by unfold takeMark; simp
@[simp] theorem takeMark_score (r : Byte) : (takeMark r s).score = s.score := by unfold takeMark; simp
@[simp] theorem takeMark_sorter (r : Byte) : (takeMark r s).sorter = s.sorter := by unfold takeMark; simp
@[simp] theorem takeMark_loader (r : Byte) : (takeMark r s).loader = s.loader := by unfold takeMark; simp
@[simp] theorem takeMark_pending (r : Byte) : (takeMark r s).pending = s.pending := by unfold takeMark; simp

@[simp] theorem wallFallsSilent_now : (wallFallsSilent s).now = s.now := by unfold wallFallsSilent; simp
@[simp] theorem wallFallsSilent_ports : (wallFallsSilent s).ports = s.ports := by unfold wallFallsSilent; simp
@[simp] theorem wallFallsSilent_stamper : (wallFallsSilent s).stamper = s.stamper := by unfold wallFallsSilent; simp
@[simp] theorem wallFallsSilent_seats : (wallFallsSilent s).seats = s.seats := by unfold wallFallsSilent; simp
@[simp] theorem wallFallsSilent_teams : (wallFallsSilent s).teams = s.teams := by unfold wallFallsSilent; simp
@[simp] theorem wallFallsSilent_questions : (wallFallsSilent s).questions = s.questions := by unfold wallFallsSilent; simp
@[simp] theorem wallFallsSilent_cues : (wallFallsSilent s).cues = s.cues := by unfold wallFallsSilent; simp
@[simp] theorem wallFallsSilent_round : (wallFallsSilent s).round = s.round := by unfold wallFallsSilent; simp
@[simp] theorem wallFallsSilent_resp : (wallFallsSilent s).resp = s.resp := by unfold wallFallsSilent; simp
@[simp] theorem wallFallsSilent_buzz : (wallFallsSilent s).buzz = s.buzz := by unfold wallFallsSilent; simp
@[simp] theorem wallFallsSilent_score : (wallFallsSilent s).score = s.score := by unfold wallFallsSilent; simp
@[simp] theorem wallFallsSilent_sorter : (wallFallsSilent s).sorter = s.sorter := by unfold wallFallsSilent; simp
@[simp] theorem wallFallsSilent_link : (wallFallsSilent s).link = s.link := by unfold wallFallsSilent; simp
@[simp] theorem wallFallsSilent_loader : (wallFallsSilent s).loader = s.loader := by unfold wallFallsSilent; simp
@[simp] theorem wallFallsSilent_free : (wallFallsSilent s).free = s.free := by unfold wallFallsSilent; simp
@[simp] theorem wallFallsSilent_pending : (wallFallsSilent s).pending = s.pending := by unfold wallFallsSilent; simp

@[simp] theorem takeInternalMark_now : (takeInternalMark s).now = s.now := by unfold takeInternalMark; simp
@[simp] theorem takeInternalMark_ports : (takeInternalMark s).ports = s.ports := by unfold takeInternalMark; simp
@[simp] theorem takeInternalMark_stamper : (takeInternalMark s).stamper = s.stamper := by unfold takeInternalMark; simp
@[simp] theorem takeInternalMark_seats : (takeInternalMark s).seats = s.seats := by unfold takeInternalMark; simp
@[simp] theorem takeInternalMark_teams : (takeInternalMark s).teams = s.teams := by unfold takeInternalMark; simp
@[simp] theorem takeInternalMark_questions : (takeInternalMark s).questions = s.questions := by unfold takeInternalMark; simp
@[simp] theorem takeInternalMark_cues : (takeInternalMark s).cues = s.cues := by unfold takeInternalMark; simp
@[simp] theorem takeInternalMark_round : (takeInternalMark s).round = s.round := by unfold takeInternalMark; simp
@[simp] theorem takeInternalMark_resp : (takeInternalMark s).resp = s.resp := by unfold takeInternalMark; simp
@[simp] theorem takeInternalMark_buzz : (takeInternalMark s).buzz = s.buzz := by unfold takeInternalMark; simp
@[simp] theorem takeInternalMark_score : (takeInternalMark s).score = s.score := by unfold takeInternalMark; simp
@[simp] theorem takeInternalMark_sorter : (takeInternalMark s).sorter = s.sorter := by unfold takeInternalMark; simp
@[simp] theorem takeInternalMark_loader : (takeInternalMark s).loader = s.loader := by unfold takeInternalMark; simp
@[simp] theorem takeInternalMark_pending : (takeInternalMark s).pending = s.pending := by unfold takeInternalMark; simp

@[simp] theorem endCompose_now : (endCompose s).now = s.now := by simp [endCompose, apply_ite State.now]
@[simp] theorem endCompose_ports : (endCompose s).ports = s.ports := by simp [endCompose, apply_ite State.ports]
@[simp] theorem endCompose_stamper : (endCompose s).stamper = s.stamper := by simp [endCompose, apply_ite State.stamper]
@[simp] theorem endCompose_seats : (endCompose s).seats = s.seats := by simp [endCompose, apply_ite State.seats]
@[simp] theorem endCompose_teams : (endCompose s).teams = s.teams := by simp [endCompose, apply_ite State.teams]
@[simp] theorem endCompose_questions : (endCompose s).questions = s.questions := by simp [endCompose, apply_ite State.questions]
@[simp] theorem endCompose_cues : (endCompose s).cues = s.cues := by simp [endCompose, apply_ite State.cues]
@[simp] theorem endCompose_round : (endCompose s).round = s.round := by simp [endCompose, apply_ite State.round]
@[simp] theorem endCompose_resp : (endCompose s).resp = s.resp := by simp [endCompose, apply_ite State.resp]
@[simp] theorem endCompose_buzz : (endCompose s).buzz = s.buzz := by simp [endCompose, apply_ite State.buzz]
@[simp] theorem endCompose_score : (endCompose s).score = s.score := by simp [endCompose, apply_ite State.score]
@[simp] theorem endCompose_sorter : (endCompose s).sorter = s.sorter := by simp [endCompose, apply_ite State.sorter]
@[simp] theorem endCompose_link : (endCompose s).link = s.link := by simp [endCompose, apply_ite State.link]
@[simp] theorem endCompose_hub : (endCompose s).hub = s.hub := by simp [endCompose, apply_ite State.hub]
@[simp] theorem endCompose_loader : (endCompose s).loader = s.loader := by simp [endCompose, apply_ite State.loader]
@[simp] theorem endCompose_free : (endCompose s).free = s.free := by simp [endCompose, apply_ite State.free]
@[simp] theorem endCompose_pending : (endCompose s).pending = s.pending := by simp [endCompose, apply_ite State.pending]

@[simp] theorem visitSeat_now (k : Fin 256) : (visitSeat k s).now = s.now := by unfold visitSeat; simp
@[simp] theorem visitSeat_ports (k : Fin 256) : (visitSeat k s).ports = s.ports := by unfold visitSeat; simp
@[simp] theorem visitSeat_stamper (k : Fin 256) : (visitSeat k s).stamper = s.stamper := by unfold visitSeat; simp
@[simp] theorem visitSeat_seats (k : Fin 256) : (visitSeat k s).seats = s.seats := by unfold visitSeat; simp
@[simp] theorem visitSeat_teams (k : Fin 256) : (visitSeat k s).teams = s.teams := by unfold visitSeat; simp
@[simp] theorem visitSeat_questions (k : Fin 256) : (visitSeat k s).questions = s.questions := by unfold visitSeat; simp
@[simp] theorem visitSeat_cues (k : Fin 256) : (visitSeat k s).cues = s.cues := by unfold visitSeat; simp
@[simp] theorem visitSeat_round (k : Fin 256) : (visitSeat k s).round = s.round := by unfold visitSeat; simp
@[simp] theorem visitSeat_buzz (k : Fin 256) : (visitSeat k s).buzz = s.buzz := by unfold visitSeat; simp
@[simp] theorem visitSeat_sorter (k : Fin 256) : (visitSeat k s).sorter = s.sorter := by unfold visitSeat; simp
@[simp] theorem visitSeat_comp (k : Fin 256) : (visitSeat k s).comp = s.comp := by unfold visitSeat; simp
@[simp] theorem visitSeat_link (k : Fin 256) : (visitSeat k s).link = s.link := by unfold visitSeat; simp
@[simp] theorem visitSeat_hub (k : Fin 256) : (visitSeat k s).hub = s.hub := by unfold visitSeat; simp
@[simp] theorem visitSeat_loader (k : Fin 256) : (visitSeat k s).loader = s.loader := by unfold visitSeat; simp
@[simp] theorem visitSeat_free (k : Fin 256) : (visitSeat k s).free = s.free := by unfold visitSeat; simp
@[simp] theorem visitSeat_pending (k : Fin 256) : (visitSeat k s).pending = s.pending := by unfold visitSeat; simp

@[simp] theorem applyCommit_now : (applyCommit s).now = s.now := by unfold applyCommit; simp
@[simp] theorem applyCommit_ports : (applyCommit s).ports = s.ports := by unfold applyCommit; simp
@[simp] theorem applyCommit_stamper : (applyCommit s).stamper = s.stamper := by unfold applyCommit; simp
@[simp] theorem applyCommit_seats : (applyCommit s).seats = s.seats := by unfold applyCommit; simp
@[simp] theorem applyCommit_teams : (applyCommit s).teams = s.teams := by unfold applyCommit; simp
@[simp] theorem applyCommit_questions : (applyCommit s).questions = s.questions := by unfold applyCommit; simp
@[simp] theorem applyCommit_cues : (applyCommit s).cues = s.cues := by unfold applyCommit; simp
@[simp] theorem applyCommit_round : (applyCommit s).round = s.round := by unfold applyCommit; simp
@[simp] theorem applyCommit_buzz : (applyCommit s).buzz = s.buzz := by unfold applyCommit; simp
@[simp] theorem applyCommit_sorter : (applyCommit s).sorter = s.sorter := by unfold applyCommit; simp
@[simp] theorem applyCommit_comp : (applyCommit s).comp = s.comp := by unfold applyCommit; simp
@[simp] theorem applyCommit_link : (applyCommit s).link = s.link := by unfold applyCommit; simp
@[simp] theorem applyCommit_hub : (applyCommit s).hub = s.hub := by unfold applyCommit; simp
@[simp] theorem applyCommit_loader : (applyCommit s).loader = s.loader := by unfold applyCommit; simp
@[simp] theorem applyCommit_free : (applyCommit s).free = s.free := by unfold applyCommit; simp
@[simp] theorem applyCommit_pending : (applyCommit s).pending = s.pending := by unfold applyCommit; simp

@[simp] theorem resultLamps_now : (resultLamps s).now = s.now := by
  unfold resultLamps
  split
  · exact foldl_keeps _ State.now (by intro b a; split <;> simp) _ _
  · rfl
@[simp] theorem resultLamps_stamper : (resultLamps s).stamper = s.stamper := by
  unfold resultLamps
  split
  · exact foldl_keeps _ State.stamper (by intro b a; split <;> simp) _ _
  · rfl
@[simp] theorem resultLamps_teams : (resultLamps s).teams = s.teams := by
  unfold resultLamps
  split
  · exact foldl_keeps _ State.teams (by intro b a; split <;> simp) _ _
  · rfl
@[simp] theorem resultLamps_questions : (resultLamps s).questions = s.questions := by
  unfold resultLamps
  split
  · exact foldl_keeps _ State.questions (by intro b a; split <;> simp) _ _
  · rfl
@[simp] theorem resultLamps_cues : (resultLamps s).cues = s.cues := by
  unfold resultLamps
  split
  · exact foldl_keeps _ State.cues (by intro b a; split <;> simp) _ _
  · rfl
@[simp] theorem resultLamps_round : (resultLamps s).round = s.round := by
  unfold resultLamps
  split
  · exact foldl_keeps _ State.round (by intro b a; split <;> simp) _ _
  · rfl
@[simp] theorem resultLamps_resp : (resultLamps s).resp = s.resp := by
  unfold resultLamps
  split
  · exact foldl_keeps _ State.resp (by intro b a; split <;> simp) _ _
  · rfl
@[simp] theorem resultLamps_buzz : (resultLamps s).buzz = s.buzz := by
  unfold resultLamps
  split
  · exact foldl_keeps _ State.buzz (by intro b a; split <;> simp) _ _
  · rfl
@[simp] theorem resultLamps_score : (resultLamps s).score = s.score := by
  unfold resultLamps
  split
  · exact foldl_keeps _ State.score (by intro b a; split <;> simp) _ _
  · rfl
@[simp] theorem resultLamps_sorter : (resultLamps s).sorter = s.sorter := by
  unfold resultLamps
  split
  · exact foldl_keeps _ State.sorter (by intro b a; split <;> simp) _ _
  · rfl
@[simp] theorem resultLamps_comp : (resultLamps s).comp = s.comp := by
  unfold resultLamps
  split
  · exact foldl_keeps _ State.comp (by intro b a; split <;> simp) _ _
  · rfl
@[simp] theorem resultLamps_link : (resultLamps s).link = s.link := by
  unfold resultLamps
  split
  · exact foldl_keeps _ State.link (by intro b a; split <;> simp) _ _
  · rfl
@[simp] theorem resultLamps_hub : (resultLamps s).hub = s.hub := by
  unfold resultLamps
  split
  · exact foldl_keeps _ State.hub (by intro b a; split <;> simp) _ _
  · rfl
@[simp] theorem resultLamps_loader : (resultLamps s).loader = s.loader := by
  unfold resultLamps
  split
  · exact foldl_keeps _ State.loader (by intro b a; split <;> simp) _ _
  · rfl
@[simp] theorem resultLamps_free : (resultLamps s).free = s.free := by
  unfold resultLamps
  split
  · exact foldl_keeps _ State.free (by intro b a; split <;> simp) _ _
  · rfl
@[simp] theorem resultLamps_pending : (resultLamps s).pending = s.pending := by
  unfold resultLamps
  split
  · exact foldl_keeps _ State.pending (by intro b a; split <;> simp) _ _
  · rfl

@[simp] theorem applicationStep_now : (applicationStep s).now = s.now := by unfold applicationStep; simp
@[simp] theorem applicationStep_stamper : (applicationStep s).stamper = s.stamper := by unfold applicationStep; simp
@[simp] theorem applicationStep_teams : (applicationStep s).teams = s.teams := by unfold applicationStep; simp
@[simp] theorem applicationStep_questions : (applicationStep s).questions = s.questions := by unfold applicationStep; simp
@[simp] theorem applicationStep_cues : (applicationStep s).cues = s.cues := by unfold applicationStep; simp
@[simp] theorem applicationStep_link : (applicationStep s).link = s.link := by unfold applicationStep; simp
@[simp] theorem applicationStep_loader : (applicationStep s).loader = s.loader := by unfold applicationStep; simp
@[simp] theorem applicationStep_free : (applicationStep s).free = s.free := by unfold applicationStep; simp
@[simp] theorem applicationStep_pending : (applicationStep s).pending = s.pending := by unfold applicationStep; simp

@[simp] theorem revoke_now : (revoke s).now = s.now := by unfold revoke; simp
@[simp] theorem revoke_ports : (revoke s).ports = s.ports := by unfold revoke; simp
@[simp] theorem revoke_stamper : (revoke s).stamper = s.stamper := by unfold revoke; simp
@[simp] theorem revoke_seats : (revoke s).seats = s.seats := by unfold revoke; simp
@[simp] theorem revoke_teams : (revoke s).teams = s.teams := by unfold revoke; simp
@[simp] theorem revoke_questions : (revoke s).questions = s.questions := by unfold revoke; simp
@[simp] theorem revoke_cues : (revoke s).cues = s.cues := by unfold revoke; simp
@[simp] theorem revoke_round : (revoke s).round = s.round := by unfold revoke; simp
@[simp] theorem revoke_resp : (revoke s).resp = s.resp := by unfold revoke; simp
@[simp] theorem revoke_buzz : (revoke s).buzz = s.buzz := by unfold revoke; simp
@[simp] theorem revoke_comp : (revoke s).comp = s.comp := by unfold revoke; simp
@[simp] theorem revoke_link : (revoke s).link = s.link := by unfold revoke; simp
@[simp] theorem revoke_loader : (revoke s).loader = s.loader := by unfold revoke; simp
@[simp] theorem revoke_free : (revoke s).free = s.free := by unfold revoke; simp
@[simp] theorem revoke_pending : (revoke s).pending = s.pending := by unfold revoke; simp

@[simp] theorem revokeAction_now : ((revokeAction s).1).now = s.now := by unfold revokeAction; (repeat' split) <;> simp
@[simp] theorem revokeAction_ports : ((revokeAction s).1).ports = s.ports := by unfold revokeAction; (repeat' split) <;> simp
@[simp] theorem revokeAction_stamper : ((revokeAction s).1).stamper = s.stamper := by unfold revokeAction; (repeat' split) <;> simp
@[simp] theorem revokeAction_seats : ((revokeAction s).1).seats = s.seats := by unfold revokeAction; (repeat' split) <;> simp
@[simp] theorem revokeAction_teams : ((revokeAction s).1).teams = s.teams := by unfold revokeAction; (repeat' split) <;> simp
@[simp] theorem revokeAction_questions : ((revokeAction s).1).questions = s.questions := by unfold revokeAction; (repeat' split) <;> simp
@[simp] theorem revokeAction_cues : ((revokeAction s).1).cues = s.cues := by unfold revokeAction; (repeat' split) <;> simp
@[simp] theorem revokeAction_round : ((revokeAction s).1).round = s.round := by unfold revokeAction; (repeat' split) <;> simp
@[simp] theorem revokeAction_resp : ((revokeAction s).1).resp = s.resp := by unfold revokeAction; (repeat' split) <;> simp
@[simp] theorem revokeAction_buzz : ((revokeAction s).1).buzz = s.buzz := by unfold revokeAction; (repeat' split) <;> simp
@[simp] theorem revokeAction_comp : ((revokeAction s).1).comp = s.comp := by unfold revokeAction; (repeat' split) <;> simp
@[simp] theorem revokeAction_link : ((revokeAction s).1).link = s.link := by unfold revokeAction; (repeat' split) <;> simp
@[simp] theorem revokeAction_loader : ((revokeAction s).1).loader = s.loader := by unfold revokeAction; (repeat' split) <;> simp
@[simp] theorem revokeAction_free : ((revokeAction s).1).free = s.free := by unfold revokeAction; (repeat' split) <;> simp
@[simp] theorem revokeAction_pending : ((revokeAction s).1).pending = s.pending := by unfold revokeAction; (repeat' split) <;> simp

@[simp] theorem adjustAction_now (t : Byte) (d : Int) : ((adjustAction t d s).1).now = s.now := by unfold adjustAction; (repeat' split) <;> simp
@[simp] theorem adjustAction_ports (t : Byte) (d : Int) : ((adjustAction t d s).1).ports = s.ports := by unfold adjustAction; (repeat' split) <;> simp
@[simp] theorem adjustAction_stamper (t : Byte) (d : Int) : ((adjustAction t d s).1).stamper = s.stamper := by unfold adjustAction; (repeat' split) <;> simp
@[simp] theorem adjustAction_seats (t : Byte) (d : Int) : ((adjustAction t d s).1).seats = s.seats := by unfold adjustAction; (repeat' split) <;> simp
@[simp] theorem adjustAction_teams (t : Byte) (d : Int) : ((adjustAction t d s).1).teams = s.teams := by unfold adjustAction; (repeat' split) <;> simp
@[simp] theorem adjustAction_questions (t : Byte) (d : Int) : ((adjustAction t d s).1).questions = s.questions := by unfold adjustAction; (repeat' split) <;> simp
@[simp] theorem adjustAction_cues (t : Byte) (d : Int) : ((adjustAction t d s).1).cues = s.cues := by unfold adjustAction; (repeat' split) <;> simp
@[simp] theorem adjustAction_round (t : Byte) (d : Int) : ((adjustAction t d s).1).round = s.round := by unfold adjustAction; (repeat' split) <;> simp
@[simp] theorem adjustAction_resp (t : Byte) (d : Int) : ((adjustAction t d s).1).resp = s.resp := by unfold adjustAction; (repeat' split) <;> simp
@[simp] theorem adjustAction_buzz (t : Byte) (d : Int) : ((adjustAction t d s).1).buzz = s.buzz := by unfold adjustAction; (repeat' split) <;> simp
@[simp] theorem adjustAction_comp (t : Byte) (d : Int) : ((adjustAction t d s).1).comp = s.comp := by unfold adjustAction; (repeat' split) <;> simp
@[simp] theorem adjustAction_link (t : Byte) (d : Int) : ((adjustAction t d s).1).link = s.link := by unfold adjustAction; (repeat' split) <;> simp
@[simp] theorem adjustAction_loader (t : Byte) (d : Int) : ((adjustAction t d s).1).loader = s.loader := by unfold adjustAction; (repeat' split) <;> simp
@[simp] theorem adjustAction_free (t : Byte) (d : Int) : ((adjustAction t d s).1).free = s.free := by unfold adjustAction; (repeat' split) <;> simp
@[simp] theorem adjustAction_pending (t : Byte) (d : Int) : ((adjustAction t d s).1).pending = s.pending := by unfold adjustAction; (repeat' split) <;> simp

@[simp] theorem clearScoresAction_now : ((clearScoresAction s).1).now = s.now := by unfold clearScoresAction; (repeat' split) <;> simp
@[simp] theorem clearScoresAction_ports : ((clearScoresAction s).1).ports = s.ports := by unfold clearScoresAction; (repeat' split) <;> simp
@[simp] theorem clearScoresAction_stamper : ((clearScoresAction s).1).stamper = s.stamper := by unfold clearScoresAction; (repeat' split) <;> simp
@[simp] theorem clearScoresAction_seats : ((clearScoresAction s).1).seats = s.seats := by unfold clearScoresAction; (repeat' split) <;> simp
@[simp] theorem clearScoresAction_teams : ((clearScoresAction s).1).teams = s.teams := by unfold clearScoresAction; (repeat' split) <;> simp
@[simp] theorem clearScoresAction_questions : ((clearScoresAction s).1).questions = s.questions := by unfold clearScoresAction; (repeat' split) <;> simp
@[simp] theorem clearScoresAction_cues : ((clearScoresAction s).1).cues = s.cues := by unfold clearScoresAction; (repeat' split) <;> simp
@[simp] theorem clearScoresAction_round : ((clearScoresAction s).1).round = s.round := by unfold clearScoresAction; (repeat' split) <;> simp
@[simp] theorem clearScoresAction_resp : ((clearScoresAction s).1).resp = s.resp := by unfold clearScoresAction; (repeat' split) <;> simp
@[simp] theorem clearScoresAction_buzz : ((clearScoresAction s).1).buzz = s.buzz := by unfold clearScoresAction; (repeat' split) <;> simp
@[simp] theorem clearScoresAction_comp : ((clearScoresAction s).1).comp = s.comp := by unfold clearScoresAction; (repeat' split) <;> simp
@[simp] theorem clearScoresAction_link : ((clearScoresAction s).1).link = s.link := by unfold clearScoresAction; (repeat' split) <;> simp
@[simp] theorem clearScoresAction_loader : ((clearScoresAction s).1).loader = s.loader := by unfold clearScoresAction; (repeat' split) <;> simp
@[simp] theorem clearScoresAction_free : ((clearScoresAction s).1).free = s.free := by unfold clearScoresAction; (repeat' split) <;> simp
@[simp] theorem clearScoresAction_pending : ((clearScoresAction s).1).pending = s.pending := by unfold clearScoresAction; (repeat' split) <;> simp

@[simp] theorem publish_now : (publish s).now = s.now := by simp [publish, apply_ite State.now]
@[simp] theorem publish_ports : (publish s).ports = s.ports := by simp [publish, apply_ite State.ports]
@[simp] theorem publish_stamper : (publish s).stamper = s.stamper := by simp [publish, apply_ite State.stamper]
@[simp] theorem publish_seats : (publish s).seats = s.seats := by simp [publish, apply_ite State.seats]
@[simp] theorem publish_teams : (publish s).teams = s.teams := by simp [publish, apply_ite State.teams]
@[simp] theorem publish_questions : (publish s).questions = s.questions := by simp [publish, apply_ite State.questions]
@[simp] theorem publish_cues : (publish s).cues = s.cues := by simp [publish, apply_ite State.cues]
@[simp] theorem publish_round : (publish s).round = s.round := by simp [publish, apply_ite State.round]
@[simp] theorem publish_resp : (publish s).resp = s.resp := by simp [publish, apply_ite State.resp]
@[simp] theorem publish_buzz : (publish s).buzz = s.buzz := by simp [publish, apply_ite State.buzz]
@[simp] theorem publish_score : (publish s).score = s.score := by simp [publish, apply_ite State.score]
@[simp] theorem publish_link : (publish s).link = s.link := by simp [publish, apply_ite State.link]
@[simp] theorem publish_hub : (publish s).hub = s.hub := by simp [publish, apply_ite State.hub]
@[simp] theorem publish_loader : (publish s).loader = s.loader := by simp [publish, apply_ite State.loader]
@[simp] theorem publish_free : (publish s).free = s.free := by simp [publish, apply_ite State.free]
@[simp] theorem publish_pending : (publish s).pending = s.pending := by simp [publish, apply_ite State.pending]

end Sys2Proof.Machine
end

