-- ==== Sys2Proof/Laws/TableFrames.lean ====
section
/-! SUPPORT. What each operation of Machine/Tables.lean leaves unchanged: one simp lemma for each block that it does not touch. -/

namespace Sys2Proof.Machine

variable (s : State)

@[simp] theorem assignTeam_now (k : Fin 256) (t : Option (Fin 16)) : (assignTeam k t s).now = s.now := by simp [assignTeam, apply_ite State.now]
@[simp] theorem assignTeam_ports (k : Fin 256) (t : Option (Fin 16)) : (assignTeam k t s).ports = s.ports := by simp [assignTeam, apply_ite State.ports]
@[simp] theorem assignTeam_stamper (k : Fin 256) (t : Option (Fin 16)) : (assignTeam k t s).stamper = s.stamper := by simp [assignTeam, apply_ite State.stamper]
@[simp] theorem assignTeam_teams (k : Fin 256) (t : Option (Fin 16)) : (assignTeam k t s).teams = s.teams := by simp [assignTeam, apply_ite State.teams]
@[simp] theorem assignTeam_questions (k : Fin 256) (t : Option (Fin 16)) : (assignTeam k t s).questions = s.questions := by simp [assignTeam, apply_ite State.questions]
@[simp] theorem assignTeam_cues (k : Fin 256) (t : Option (Fin 16)) : (assignTeam k t s).cues = s.cues := by simp [assignTeam, apply_ite State.cues]
@[simp] theorem assignTeam_round (k : Fin 256) (t : Option (Fin 16)) : (assignTeam k t s).round = s.round := by simp [assignTeam, apply_ite State.round]
@[simp] theorem assignTeam_resp (k : Fin 256) (t : Option (Fin 16)) : (assignTeam k t s).resp = s.resp := by simp [assignTeam, apply_ite State.resp]
@[simp] theorem assignTeam_buzz (k : Fin 256) (t : Option (Fin 16)) : (assignTeam k t s).buzz = s.buzz := by simp [assignTeam, apply_ite State.buzz]
@[simp] theorem assignTeam_score (k : Fin 256) (t : Option (Fin 16)) : (assignTeam k t s).score = s.score := by simp [assignTeam, apply_ite State.score]
@[simp] theorem assignTeam_sorter (k : Fin 256) (t : Option (Fin 16)) : (assignTeam k t s).sorter = s.sorter := by simp [assignTeam, apply_ite State.sorter]
@[simp] theorem assignTeam_comp (k : Fin 256) (t : Option (Fin 16)) : (assignTeam k t s).comp = s.comp := by simp [assignTeam, apply_ite State.comp]
@[simp] theorem assignTeam_link (k : Fin 256) (t : Option (Fin 16)) : (assignTeam k t s).link = s.link := by simp [assignTeam, apply_ite State.link]
@[simp] theorem assignTeam_loader (k : Fin 256) (t : Option (Fin 16)) : (assignTeam k t s).loader = s.loader := by simp [assignTeam, apply_ite State.loader]
@[simp] theorem assignTeam_free (k : Fin 256) (t : Option (Fin 16)) : (assignTeam k t s).free = s.free := by simp [assignTeam, apply_ite State.free]
@[simp] theorem assignTeam_pending (k : Fin 256) (t : Option (Fin 16)) : (assignTeam k t s).pending = s.pending := by simp [assignTeam, apply_ite State.pending]

@[simp] theorem writeSeat_now (k : Fin 256) (r : List Byte) : ((writeSeat k r s).1).now = s.now := by unfold writeSeat; (repeat' split) <;> simp
@[simp] theorem writeSeat_ports (k : Fin 256) (r : List Byte) : ((writeSeat k r s).1).ports = s.ports := by unfold writeSeat; (repeat' split) <;> simp
@[simp] theorem writeSeat_stamper (k : Fin 256) (r : List Byte) : ((writeSeat k r s).1).stamper = s.stamper := by unfold writeSeat; (repeat' split) <;> simp
@[simp] theorem writeSeat_teams (k : Fin 256) (r : List Byte) : ((writeSeat k r s).1).teams = s.teams := by unfold writeSeat; (repeat' split) <;> simp
@[simp] theorem writeSeat_questions (k : Fin 256) (r : List Byte) : ((writeSeat k r s).1).questions = s.questions := by unfold writeSeat; (repeat' split) <;> simp
@[simp] theorem writeSeat_cues (k : Fin 256) (r : List Byte) : ((writeSeat k r s).1).cues = s.cues := by unfold writeSeat; (repeat' split) <;> simp
@[simp] theorem writeSeat_round (k : Fin 256) (r : List Byte) : ((writeSeat k r s).1).round = s.round := by unfold writeSeat; (repeat' split) <;> simp
@[simp] theorem writeSeat_resp (k : Fin 256) (r : List Byte) : ((writeSeat k r s).1).resp = s.resp := by unfold writeSeat; (repeat' split) <;> simp
@[simp] theorem writeSeat_buzz (k : Fin 256) (r : List Byte) : ((writeSeat k r s).1).buzz = s.buzz := by unfold writeSeat; (repeat' split) <;> simp
@[simp] theorem writeSeat_score (k : Fin 256) (r : List Byte) : ((writeSeat k r s).1).score = s.score := by unfold writeSeat; (repeat' split) <;> simp
@[simp] theorem writeSeat_sorter (k : Fin 256) (r : List Byte) : ((writeSeat k r s).1).sorter = s.sorter := by unfold writeSeat; (repeat' split) <;> simp
@[simp] theorem writeSeat_comp (k : Fin 256) (r : List Byte) : ((writeSeat k r s).1).comp = s.comp := by unfold writeSeat; (repeat' split) <;> simp
@[simp] theorem writeSeat_link (k : Fin 256) (r : List Byte) : ((writeSeat k r s).1).link = s.link := by unfold writeSeat; (repeat' split) <;> simp
@[simp] theorem writeSeat_loader (k : Fin 256) (r : List Byte) : ((writeSeat k r s).1).loader = s.loader := by unfold writeSeat; (repeat' split) <;> simp
@[simp] theorem writeSeat_free (k : Fin 256) (r : List Byte) : ((writeSeat k r s).1).free = s.free := by unfold writeSeat; (repeat' split) <;> simp
@[simp] theorem writeSeat_pending (k : Fin 256) (r : List Byte) : ((writeSeat k r s).1).pending = s.pending := by unfold writeSeat; (repeat' split) <;> simp

@[simp] theorem storeTeam_now (t : Fin 16) (x : Team) : (storeTeam t x s).now = s.now := by simp [storeTeam, apply_ite State.now]
@[simp] theorem storeTeam_ports (t : Fin 16) (x : Team) : (storeTeam t x s).ports = s.ports := by simp [storeTeam, apply_ite State.ports]
@[simp] theorem storeTeam_stamper (t : Fin 16) (x : Team) : (storeTeam t x s).stamper = s.stamper := by simp [storeTeam, apply_ite State.stamper]
@[simp] theorem storeTeam_seats (t : Fin 16) (x : Team) : (storeTeam t x s).seats = s.seats := by simp [storeTeam, apply_ite State.seats]
@[simp] theorem storeTeam_questions (t : Fin 16) (x : Team) : (storeTeam t x s).questions = s.questions := by simp [storeTeam, apply_ite State.questions]
@[simp] theorem storeTeam_cues (t : Fin 16) (x : Team) : (storeTeam t x s).cues = s.cues := by simp [storeTeam, apply_ite State.cues]
@[simp] theorem storeTeam_round (t : Fin 16) (x : Team) : (storeTeam t x s).round = s.round := by simp [storeTeam, apply_ite State.round]
@[simp] theorem storeTeam_resp (t : Fin 16) (x : Team) : (storeTeam t x s).resp = s.resp := by simp [storeTeam, apply_ite State.resp]
@[simp] theorem storeTeam_buzz (t : Fin 16) (x : Team) : (storeTeam t x s).buzz = s.buzz := by simp [storeTeam, apply_ite State.buzz]
@[simp] theorem storeTeam_score (t : Fin 16) (x : Team) : (storeTeam t x s).score = s.score := by simp [storeTeam, apply_ite State.score]
@[simp] theorem storeTeam_link (t : Fin 16) (x : Team) : (storeTeam t x s).link = s.link := by simp [storeTeam, apply_ite State.link]
@[simp] theorem storeTeam_hub (t : Fin 16) (x : Team) : (storeTeam t x s).hub = s.hub := by simp [storeTeam, apply_ite State.hub]
@[simp] theorem storeTeam_loader (t : Fin 16) (x : Team) : (storeTeam t x s).loader = s.loader := by simp [storeTeam, apply_ite State.loader]
@[simp] theorem storeTeam_free (t : Fin 16) (x : Team) : (storeTeam t x s).free = s.free := by simp [storeTeam, apply_ite State.free]
@[simp] theorem storeTeam_pending (t : Fin 16) (x : Team) : (storeTeam t x s).pending = s.pending := by simp [storeTeam, apply_ite State.pending]

@[simp] theorem writeTeam_now (t : Fin 16) (r : List Byte) : ((writeTeam t r s).1).now = s.now := by unfold writeTeam; (repeat' split) <;> simp
@[simp] theorem writeTeam_ports (t : Fin 16) (r : List Byte) : ((writeTeam t r s).1).ports = s.ports := by unfold writeTeam; (repeat' split) <;> simp
@[simp] theorem writeTeam_stamper (t : Fin 16) (r : List Byte) : ((writeTeam t r s).1).stamper = s.stamper := by unfold writeTeam; (repeat' split) <;> simp
@[simp] theorem writeTeam_seats (t : Fin 16) (r : List Byte) : ((writeTeam t r s).1).seats = s.seats := by unfold writeTeam; (repeat' split) <;> simp
@[simp] theorem writeTeam_questions (t : Fin 16) (r : List Byte) : ((writeTeam t r s).1).questions = s.questions := by unfold writeTeam; (repeat' split) <;> simp
@[simp] theorem writeTeam_cues (t : Fin 16) (r : List Byte) : ((writeTeam t r s).1).cues = s.cues := by unfold writeTeam; (repeat' split) <;> simp
@[simp] theorem writeTeam_round (t : Fin 16) (r : List Byte) : ((writeTeam t r s).1).round = s.round := by unfold writeTeam; (repeat' split) <;> simp
@[simp] theorem writeTeam_resp (t : Fin 16) (r : List Byte) : ((writeTeam t r s).1).resp = s.resp := by unfold writeTeam; (repeat' split) <;> simp
@[simp] theorem writeTeam_buzz (t : Fin 16) (r : List Byte) : ((writeTeam t r s).1).buzz = s.buzz := by unfold writeTeam; (repeat' split) <;> simp
@[simp] theorem writeTeam_score (t : Fin 16) (r : List Byte) : ((writeTeam t r s).1).score = s.score := by unfold writeTeam; (repeat' split) <;> simp
@[simp] theorem writeTeam_link (t : Fin 16) (r : List Byte) : ((writeTeam t r s).1).link = s.link := by unfold writeTeam; (repeat' split) <;> simp
@[simp] theorem writeTeam_hub (t : Fin 16) (r : List Byte) : ((writeTeam t r s).1).hub = s.hub := by unfold writeTeam; (repeat' split) <;> simp
@[simp] theorem writeTeam_loader (t : Fin 16) (r : List Byte) : ((writeTeam t r s).1).loader = s.loader := by unfold writeTeam; (repeat' split) <;> simp
@[simp] theorem writeTeam_free (t : Fin 16) (r : List Byte) : ((writeTeam t r s).1).free = s.free := by unfold writeTeam; (repeat' split) <;> simp
@[simp] theorem writeTeam_pending (t : Fin 16) (r : List Byte) : ((writeTeam t r s).1).pending = s.pending := by unfold writeTeam; (repeat' split) <;> simp

@[simp] theorem writeQuestion_now (q : Fin 128) (r : List Byte) : ((writeQuestion q r s).1).now = s.now := by unfold writeQuestion; (repeat' split) <;> simp
@[simp] theorem writeQuestion_ports (q : Fin 128) (r : List Byte) : ((writeQuestion q r s).1).ports = s.ports := by unfold writeQuestion; (repeat' split) <;> simp
@[simp] theorem writeQuestion_stamper (q : Fin 128) (r : List Byte) : ((writeQuestion q r s).1).stamper = s.stamper := by unfold writeQuestion; (repeat' split) <;> simp
@[simp] theorem writeQuestion_seats (q : Fin 128) (r : List Byte) : ((writeQuestion q r s).1).seats = s.seats := by unfold writeQuestion; (repeat' split) <;> simp
@[simp] theorem writeQuestion_teams (q : Fin 128) (r : List Byte) : ((writeQuestion q r s).1).teams = s.teams := by unfold writeQuestion; (repeat' split) <;> simp
@[simp] theorem writeQuestion_cues (q : Fin 128) (r : List Byte) : ((writeQuestion q r s).1).cues = s.cues := by unfold writeQuestion; (repeat' split) <;> simp
@[simp] theorem writeQuestion_round (q : Fin 128) (r : List Byte) : ((writeQuestion q r s).1).round = s.round := by unfold writeQuestion; (repeat' split) <;> simp
@[simp] theorem writeQuestion_resp (q : Fin 128) (r : List Byte) : ((writeQuestion q r s).1).resp = s.resp := by unfold writeQuestion; (repeat' split) <;> simp
@[simp] theorem writeQuestion_buzz (q : Fin 128) (r : List Byte) : ((writeQuestion q r s).1).buzz = s.buzz := by unfold writeQuestion; (repeat' split) <;> simp
@[simp] theorem writeQuestion_score (q : Fin 128) (r : List Byte) : ((writeQuestion q r s).1).score = s.score := by unfold writeQuestion; (repeat' split) <;> simp
@[simp] theorem writeQuestion_sorter (q : Fin 128) (r : List Byte) : ((writeQuestion q r s).1).sorter = s.sorter := by unfold writeQuestion; (repeat' split) <;> simp
@[simp] theorem writeQuestion_comp (q : Fin 128) (r : List Byte) : ((writeQuestion q r s).1).comp = s.comp := by unfold writeQuestion; (repeat' split) <;> simp
@[simp] theorem writeQuestion_link (q : Fin 128) (r : List Byte) : ((writeQuestion q r s).1).link = s.link := by unfold writeQuestion; (repeat' split) <;> simp
@[simp] theorem writeQuestion_hub (q : Fin 128) (r : List Byte) : ((writeQuestion q r s).1).hub = s.hub := by unfold writeQuestion; (repeat' split) <;> simp
@[simp] theorem writeQuestion_loader (q : Fin 128) (r : List Byte) : ((writeQuestion q r s).1).loader = s.loader := by unfold writeQuestion; (repeat' split) <;> simp
@[simp] theorem writeQuestion_free (q : Fin 128) (r : List Byte) : ((writeQuestion q r s).1).free = s.free := by unfold writeQuestion; (repeat' split) <;> simp
@[simp] theorem writeQuestion_pending (q : Fin 128) (r : List Byte) : ((writeQuestion q r s).1).pending = s.pending := by unfold writeQuestion; (repeat' split) <;> simp

@[simp] theorem writeCue_now (i : Fin 64) (r : List Byte) : ((writeCue i r s).1).now = s.now := by
  simp only [writeCue]
  (repeat' split) <;> simp
@[simp] theorem writeCue_ports (i : Fin 64) (r : List Byte) : ((writeCue i r s).1).ports = s.ports := by
  simp only [writeCue]
  (repeat' split) <;> simp
@[simp] theorem writeCue_stamper (i : Fin 64) (r : List Byte) : ((writeCue i r s).1).stamper = s.stamper := by
  simp only [writeCue]
  (repeat' split) <;> simp
@[simp] theorem writeCue_seats (i : Fin 64) (r : List Byte) : ((writeCue i r s).1).seats = s.seats := by
  simp only [writeCue]
  (repeat' split) <;> simp
@[simp] theorem writeCue_teams (i : Fin 64) (r : List Byte) : ((writeCue i r s).1).teams = s.teams := by
  simp only [writeCue]
  (repeat' split) <;> simp
@[simp] theorem writeCue_questions (i : Fin 64) (r : List Byte) : ((writeCue i r s).1).questions = s.questions := by
  simp only [writeCue]
  (repeat' split) <;> simp
@[simp] theorem writeCue_round (i : Fin 64) (r : List Byte) : ((writeCue i r s).1).round = s.round := by
  simp only [writeCue]
  (repeat' split) <;> simp
@[simp] theorem writeCue_resp (i : Fin 64) (r : List Byte) : ((writeCue i r s).1).resp = s.resp := by
  simp only [writeCue]
  (repeat' split) <;> simp
@[simp] theorem writeCue_buzz (i : Fin 64) (r : List Byte) : ((writeCue i r s).1).buzz = s.buzz := by
  simp only [writeCue]
  (repeat' split) <;> simp
@[simp] theorem writeCue_score (i : Fin 64) (r : List Byte) : ((writeCue i r s).1).score = s.score := by
  simp only [writeCue]
  (repeat' split) <;> simp
@[simp] theorem writeCue_sorter (i : Fin 64) (r : List Byte) : ((writeCue i r s).1).sorter = s.sorter := by
  simp only [writeCue]
  (repeat' split) <;> simp
@[simp] theorem writeCue_comp (i : Fin 64) (r : List Byte) : ((writeCue i r s).1).comp = s.comp := by
  simp only [writeCue]
  (repeat' split) <;> simp
@[simp] theorem writeCue_link (i : Fin 64) (r : List Byte) : ((writeCue i r s).1).link = s.link := by
  simp only [writeCue]
  (repeat' split) <;> simp
@[simp] theorem writeCue_hub (i : Fin 64) (r : List Byte) : ((writeCue i r s).1).hub = s.hub := by
  simp only [writeCue]
  (repeat' split) <;> simp
@[simp] theorem writeCue_loader (i : Fin 64) (r : List Byte) : ((writeCue i r s).1).loader = s.loader := by
  simp only [writeCue]
  (repeat' split) <;> simp
@[simp] theorem writeCue_free (i : Fin 64) (r : List Byte) : ((writeCue i r s).1).free = s.free := by
  simp only [writeCue]
  (repeat' split) <;> simp
@[simp] theorem writeCue_pending (i : Fin 64) (r : List Byte) : ((writeCue i r s).1).pending = s.pending := by
  simp only [writeCue]
  (repeat' split) <;> simp

@[simp] theorem writeSequence_now (i : Fin 16) (r : List Byte) : ((writeSequence i r s).1).now = s.now := by
  simp only [writeSequence]
  (repeat' split) <;> simp
@[simp] theorem writeSequence_ports (i : Fin 16) (r : List Byte) : ((writeSequence i r s).1).ports = s.ports := by
  simp only [writeSequence]
  (repeat' split) <;> simp
@[simp] theorem writeSequence_stamper (i : Fin 16) (r : List Byte) : ((writeSequence i r s).1).stamper = s.stamper := by
  simp only [writeSequence]
  (repeat' split) <;> simp
@[simp] theorem writeSequence_seats (i : Fin 16) (r : List Byte) : ((writeSequence i r s).1).seats = s.seats := by
  simp only [writeSequence]
  (repeat' split) <;> simp
@[simp] theorem writeSequence_teams (i : Fin 16) (r : List Byte) : ((writeSequence i r s).1).teams = s.teams := by
  simp only [writeSequence]
  (repeat' split) <;> simp
@[simp] theorem writeSequence_questions (i : Fin 16) (r : List Byte) : ((writeSequence i r s).1).questions = s.questions := by
  simp only [writeSequence]
  (repeat' split) <;> simp
@[simp] theorem writeSequence_cues (i : Fin 16) (r : List Byte) : ((writeSequence i r s).1).cues = s.cues := by
  simp only [writeSequence]
  (repeat' split) <;> simp
@[simp] theorem writeSequence_round (i : Fin 16) (r : List Byte) : ((writeSequence i r s).1).round = s.round := by
  simp only [writeSequence]
  (repeat' split) <;> simp
@[simp] theorem writeSequence_resp (i : Fin 16) (r : List Byte) : ((writeSequence i r s).1).resp = s.resp := by
  simp only [writeSequence]
  (repeat' split) <;> simp
@[simp] theorem writeSequence_buzz (i : Fin 16) (r : List Byte) : ((writeSequence i r s).1).buzz = s.buzz := by
  simp only [writeSequence]
  (repeat' split) <;> simp
@[simp] theorem writeSequence_score (i : Fin 16) (r : List Byte) : ((writeSequence i r s).1).score = s.score := by
  simp only [writeSequence]
  (repeat' split) <;> simp
@[simp] theorem writeSequence_sorter (i : Fin 16) (r : List Byte) : ((writeSequence i r s).1).sorter = s.sorter := by
  simp only [writeSequence]
  (repeat' split) <;> simp
@[simp] theorem writeSequence_link (i : Fin 16) (r : List Byte) : ((writeSequence i r s).1).link = s.link := by
  simp only [writeSequence]
  (repeat' split) <;> simp
@[simp] theorem writeSequence_hub (i : Fin 16) (r : List Byte) : ((writeSequence i r s).1).hub = s.hub := by
  simp only [writeSequence]
  (repeat' split) <;> simp
@[simp] theorem writeSequence_loader (i : Fin 16) (r : List Byte) : ((writeSequence i r s).1).loader = s.loader := by
  simp only [writeSequence]
  (repeat' split) <;> simp
@[simp] theorem writeSequence_free (i : Fin 16) (r : List Byte) : ((writeSequence i r s).1).free = s.free := by
  simp only [writeSequence]
  (repeat' split) <;> simp
@[simp] theorem writeSequence_pending (i : Fin 16) (r : List Byte) : ((writeSequence i r s).1).pending = s.pending := by
  simp only [writeSequence]
  (repeat' split) <;> simp

@[simp] theorem writeStep_now (i : Fin 64) (r : List Byte) : ((writeStep i r s).1).now = s.now := by unfold writeStep; (repeat' split) <;> simp
@[simp] theorem writeStep_ports (i : Fin 64) (r : List Byte) : ((writeStep i r s).1).ports = s.ports := by unfold writeStep; (repeat' split) <;> simp
@[simp] theorem writeStep_stamper (i : Fin 64) (r : List Byte) : ((writeStep i r s).1).stamper = s.stamper := by unfold writeStep; (repeat' split) <;> simp
@[simp] theorem writeStep_seats (i : Fin 64) (r : List Byte) : ((writeStep i r s).1).seats = s.seats := by unfold writeStep; (repeat' split) <;> simp
@[simp] theorem writeStep_teams (i : Fin 64) (r : List Byte) : ((writeStep i r s).1).teams = s.teams := by unfold writeStep; (repeat' split) <;> simp
@[simp] theorem writeStep_questions (i : Fin 64) (r : List Byte) : ((writeStep i r s).1).questions = s.questions := by unfold writeStep; (repeat' split) <;> simp
@[simp] theorem writeStep_cues (i : Fin 64) (r : List Byte) : ((writeStep i r s).1).cues = s.cues := by unfold writeStep; (repeat' split) <;> simp
@[simp] theorem writeStep_round (i : Fin 64) (r : List Byte) : ((writeStep i r s).1).round = s.round := by unfold writeStep; (repeat' split) <;> simp
@[simp] theorem writeStep_resp (i : Fin 64) (r : List Byte) : ((writeStep i r s).1).resp = s.resp := by unfold writeStep; (repeat' split) <;> simp
@[simp] theorem writeStep_buzz (i : Fin 64) (r : List Byte) : ((writeStep i r s).1).buzz = s.buzz := by unfold writeStep; (repeat' split) <;> simp
@[simp] theorem writeStep_score (i : Fin 64) (r : List Byte) : ((writeStep i r s).1).score = s.score := by unfold writeStep; (repeat' split) <;> simp
@[simp] theorem writeStep_sorter (i : Fin 64) (r : List Byte) : ((writeStep i r s).1).sorter = s.sorter := by unfold writeStep; (repeat' split) <;> simp
@[simp] theorem writeStep_link (i : Fin 64) (r : List Byte) : ((writeStep i r s).1).link = s.link := by unfold writeStep; (repeat' split) <;> simp
@[simp] theorem writeStep_hub (i : Fin 64) (r : List Byte) : ((writeStep i r s).1).hub = s.hub := by unfold writeStep; (repeat' split) <;> simp
@[simp] theorem writeStep_loader (i : Fin 64) (r : List Byte) : ((writeStep i r s).1).loader = s.loader := by unfold writeStep; (repeat' split) <;> simp
@[simp] theorem writeStep_free (i : Fin 64) (r : List Byte) : ((writeStep i r s).1).free = s.free := by unfold writeStep; (repeat' split) <;> simp
@[simp] theorem writeStep_pending (i : Fin 64) (r : List Byte) : ((writeStep i r s).1).pending = s.pending := by unfold writeStep; (repeat' split) <;> simp

@[simp] theorem writePort_now (p : Fin 4) (r : List Byte) : ((writePort p r s).1).now = s.now := by
  simp only [writePort]
  (repeat' split) <;> simp
@[simp] theorem writePort_stamper (p : Fin 4) (r : List Byte) : ((writePort p r s).1).stamper = s.stamper := by
  simp only [writePort]
  (repeat' split) <;> simp
@[simp] theorem writePort_seats (p : Fin 4) (r : List Byte) : ((writePort p r s).1).seats = s.seats := by
  simp only [writePort]
  (repeat' split) <;> simp
@[simp] theorem writePort_teams (p : Fin 4) (r : List Byte) : ((writePort p r s).1).teams = s.teams := by
  simp only [writePort]
  (repeat' split) <;> simp
@[simp] theorem writePort_questions (p : Fin 4) (r : List Byte) : ((writePort p r s).1).questions = s.questions := by
  simp only [writePort]
  (repeat' split) <;> simp
@[simp] theorem writePort_cues (p : Fin 4) (r : List Byte) : ((writePort p r s).1).cues = s.cues := by
  simp only [writePort]
  (repeat' split) <;> simp
@[simp] theorem writePort_round (p : Fin 4) (r : List Byte) : ((writePort p r s).1).round = s.round := by
  simp only [writePort]
  (repeat' split) <;> simp
@[simp] theorem writePort_resp (p : Fin 4) (r : List Byte) : ((writePort p r s).1).resp = s.resp := by
  simp only [writePort]
  (repeat' split) <;> simp
@[simp] theorem writePort_buzz (p : Fin 4) (r : List Byte) : ((writePort p r s).1).buzz = s.buzz := by
  simp only [writePort]
  (repeat' split) <;> simp
@[simp] theorem writePort_score (p : Fin 4) (r : List Byte) : ((writePort p r s).1).score = s.score := by
  simp only [writePort]
  (repeat' split) <;> simp
@[simp] theorem writePort_sorter (p : Fin 4) (r : List Byte) : ((writePort p r s).1).sorter = s.sorter := by
  simp only [writePort]
  (repeat' split) <;> simp
@[simp] theorem writePort_comp (p : Fin 4) (r : List Byte) : ((writePort p r s).1).comp = s.comp := by
  simp only [writePort]
  (repeat' split) <;> simp
@[simp] theorem writePort_link (p : Fin 4) (r : List Byte) : ((writePort p r s).1).link = s.link := by
  simp only [writePort]
  (repeat' split) <;> simp
@[simp] theorem writePort_hub (p : Fin 4) (r : List Byte) : ((writePort p r s).1).hub = s.hub := by
  simp only [writePort]
  (repeat' split) <;> simp
@[simp] theorem writePort_loader (p : Fin 4) (r : List Byte) : ((writePort p r s).1).loader = s.loader := by
  simp only [writePort]
  (repeat' split) <;> simp
@[simp] theorem writePort_free (p : Fin 4) (r : List Byte) : ((writePort p r s).1).free = s.free := by
  simp only [writePort]
  (repeat' split) <;> simp
@[simp] theorem writePort_pending (p : Fin 4) (r : List Byte) : ((writePort p r s).1).pending = s.pending := by
  simp only [writePort]
  (repeat' split) <;> simp

@[simp] theorem dropCoalescing_now (o n : Config) : (dropCoalescing o n s).now = s.now := by simp [dropCoalescing, apply_ite State.now]
@[simp] theorem dropCoalescing_ports (o n : Config) : (dropCoalescing o n s).ports = s.ports := by simp [dropCoalescing, apply_ite State.ports]
@[simp] theorem dropCoalescing_stamper (o n : Config) : (dropCoalescing o n s).stamper = s.stamper := by simp [dropCoalescing, apply_ite State.stamper]
@[simp] theorem dropCoalescing_seats (o n : Config) : (dropCoalescing o n s).seats = s.seats := by simp [dropCoalescing, apply_ite State.seats]
@[simp] theorem dropCoalescing_teams (o n : Config) : (dropCoalescing o n s).teams = s.teams := by simp [dropCoalescing, apply_ite State.teams]
@[simp] theorem dropCoalescing_questions (o n : Config) : (dropCoalescing o n s).questions = s.questions := by simp [dropCoalescing, apply_ite State.questions]
@[simp] theorem dropCoalescing_cues (o n : Config) : (dropCoalescing o n s).cues = s.cues := by simp [dropCoalescing, apply_ite State.cues]
@[simp] theorem dropCoalescing_round (o n : Config) : (dropCoalescing o n s).round = s.round := by simp [dropCoalescing, apply_ite State.round]
@[simp] theorem dropCoalescing_resp (o n : Config) : (dropCoalescing o n s).resp = s.resp := by simp [dropCoalescing, apply_ite State.resp]
@[simp] theorem dropCoalescing_buzz (o n : Config) : (dropCoalescing o n s).buzz = s.buzz := by simp [dropCoalescing, apply_ite State.buzz]
@[simp] theorem dropCoalescing_score (o n : Config) : (dropCoalescing o n s).score = s.score := by simp [dropCoalescing, apply_ite State.score]
@[simp] theorem dropCoalescing_sorter (o n : Config) : (dropCoalescing o n s).sorter = s.sorter := by simp [dropCoalescing, apply_ite State.sorter]
@[simp] theorem dropCoalescing_comp (o n : Config) : (dropCoalescing o n s).comp = s.comp := by simp [dropCoalescing, apply_ite State.comp]
@[simp] theorem dropCoalescing_link (o n : Config) : (dropCoalescing o n s).link = s.link := by simp [dropCoalescing, apply_ite State.link]
@[simp] theorem dropCoalescing_loader (o n : Config) : (dropCoalescing o n s).loader = s.loader := by simp [dropCoalescing, apply_ite State.loader]
@[simp] theorem dropCoalescing_free (o n : Config) : (dropCoalescing o n s).free = s.free := by simp [dropCoalescing, apply_ite State.free]
@[simp] theorem dropCoalescing_pending (o n : Config) : (dropCoalescing o n s).pending = s.pending := by simp [dropCoalescing, apply_ite State.pending]

@[simp] theorem storeConfig_now (n : Config) : (storeConfig n s).now = s.now := by unfold storeConfig; simp
@[simp] theorem storeConfig_ports (n : Config) : (storeConfig n s).ports = s.ports := by unfold storeConfig; simp
@[simp] theorem storeConfig_stamper (n : Config) : (storeConfig n s).stamper = s.stamper := by unfold storeConfig; simp
@[simp] theorem storeConfig_seats (n : Config) : (storeConfig n s).seats = s.seats := by unfold storeConfig; simp
@[simp] theorem storeConfig_teams (n : Config) : (storeConfig n s).teams = s.teams := by unfold storeConfig; simp
@[simp] theorem storeConfig_questions (n : Config) : (storeConfig n s).questions = s.questions := by unfold storeConfig; simp
@[simp] theorem storeConfig_cues (n : Config) : (storeConfig n s).cues = s.cues := by unfold storeConfig; simp
@[simp] theorem storeConfig_round (n : Config) : (storeConfig n s).round = s.round := by unfold storeConfig; simp
@[simp] theorem storeConfig_resp (n : Config) : (storeConfig n s).resp = s.resp := by unfold storeConfig; simp
@[simp] theorem storeConfig_buzz (n : Config) : (storeConfig n s).buzz = s.buzz := by unfold storeConfig; simp
@[simp] theorem storeConfig_score (n : Config) : (storeConfig n s).score = s.score := by unfold storeConfig; simp
@[simp] theorem storeConfig_sorter (n : Config) : (storeConfig n s).sorter = s.sorter := by unfold storeConfig; simp
@[simp] theorem storeConfig_link (n : Config) : (storeConfig n s).link = s.link := by unfold storeConfig; simp
@[simp] theorem storeConfig_loader (n : Config) : (storeConfig n s).loader = s.loader := by unfold storeConfig; simp
@[simp] theorem storeConfig_free (n : Config) : (storeConfig n s).free = s.free := by unfold storeConfig; simp
@[simp] theorem storeConfig_pending (n : Config) : (storeConfig n s).pending = s.pending := by unfold storeConfig; simp

@[simp] theorem writeConfigRecord_now (r : List Byte) : ((writeConfigRecord r s).1).now = s.now := by unfold writeConfigRecord; (repeat' split) <;> simp
@[simp] theorem writeConfigRecord_ports (r : List Byte) : ((writeConfigRecord r s).1).ports = s.ports := by unfold writeConfigRecord; (repeat' split) <;> simp
@[simp] theorem writeConfigRecord_stamper (r : List Byte) : ((writeConfigRecord r s).1).stamper = s.stamper := by unfold writeConfigRecord; (repeat' split) <;> simp
@[simp] theorem writeConfigRecord_seats (r : List Byte) : ((writeConfigRecord r s).1).seats = s.seats := by unfold writeConfigRecord; (repeat' split) <;> simp
@[simp] theorem writeConfigRecord_teams (r : List Byte) : ((writeConfigRecord r s).1).teams = s.teams := by unfold writeConfigRecord; (repeat' split) <;> simp
@[simp] theorem writeConfigRecord_questions (r : List Byte) : ((writeConfigRecord r s).1).questions = s.questions := by unfold writeConfigRecord; (repeat' split) <;> simp
@[simp] theorem writeConfigRecord_cues (r : List Byte) : ((writeConfigRecord r s).1).cues = s.cues := by unfold writeConfigRecord; (repeat' split) <;> simp
@[simp] theorem writeConfigRecord_round (r : List Byte) : ((writeConfigRecord r s).1).round = s.round := by unfold writeConfigRecord; (repeat' split) <;> simp
@[simp] theorem writeConfigRecord_resp (r : List Byte) : ((writeConfigRecord r s).1).resp = s.resp := by unfold writeConfigRecord; (repeat' split) <;> simp
@[simp] theorem writeConfigRecord_buzz (r : List Byte) : ((writeConfigRecord r s).1).buzz = s.buzz := by unfold writeConfigRecord; (repeat' split) <;> simp
@[simp] theorem writeConfigRecord_score (r : List Byte) : ((writeConfigRecord r s).1).score = s.score := by unfold writeConfigRecord; (repeat' split) <;> simp
@[simp] theorem writeConfigRecord_sorter (r : List Byte) : ((writeConfigRecord r s).1).sorter = s.sorter := by unfold writeConfigRecord; (repeat' split) <;> simp
@[simp] theorem writeConfigRecord_link (r : List Byte) : ((writeConfigRecord r s).1).link = s.link := by unfold writeConfigRecord; (repeat' split) <;> simp
@[simp] theorem writeConfigRecord_loader (r : List Byte) : ((writeConfigRecord r s).1).loader = s.loader := by unfold writeConfigRecord; (repeat' split) <;> simp
@[simp] theorem writeConfigRecord_free (r : List Byte) : ((writeConfigRecord r s).1).free = s.free := by unfold writeConfigRecord; (repeat' split) <;> simp
@[simp] theorem writeConfigRecord_pending (r : List Byte) : ((writeConfigRecord r s).1).pending = s.pending := by unfold writeConfigRecord; (repeat' split) <;> simp

@[simp] theorem writeRecord_now (t : Table) (i : Nat) (r : List Byte) : ((writeRecord t i r s).1).now = s.now := by
  unfold writeRecord onIndex
  (repeat' split) <;> simp
@[simp] theorem writeRecord_stamper (t : Table) (i : Nat) (r : List Byte) : ((writeRecord t i r s).1).stamper = s.stamper := by
  unfold writeRecord onIndex
  (repeat' split) <;> simp
@[simp] theorem writeRecord_round (t : Table) (i : Nat) (r : List Byte) : ((writeRecord t i r s).1).round = s.round := by
  unfold writeRecord onIndex
  (repeat' split) <;> simp
@[simp] theorem writeRecord_resp (t : Table) (i : Nat) (r : List Byte) : ((writeRecord t i r s).1).resp = s.resp := by
  unfold writeRecord onIndex
  (repeat' split) <;> simp
@[simp] theorem writeRecord_buzz (t : Table) (i : Nat) (r : List Byte) : ((writeRecord t i r s).1).buzz = s.buzz := by
  unfold writeRecord onIndex
  (repeat' split) <;> simp
@[simp] theorem writeRecord_score (t : Table) (i : Nat) (r : List Byte) : ((writeRecord t i r s).1).score = s.score := by
  unfold writeRecord onIndex
  (repeat' split) <;> simp
@[simp] theorem writeRecord_link (t : Table) (i : Nat) (r : List Byte) : ((writeRecord t i r s).1).link = s.link := by
  unfold writeRecord onIndex
  (repeat' split) <;> simp
@[simp] theorem writeRecord_loader (t : Table) (i : Nat) (r : List Byte) : ((writeRecord t i r s).1).loader = s.loader := by
  unfold writeRecord onIndex
  (repeat' split) <;> simp
@[simp] theorem writeRecord_free (t : Table) (i : Nat) (r : List Byte) : ((writeRecord t i r s).1).free = s.free := by
  unfold writeRecord onIndex
  (repeat' split) <;> simp
@[simp] theorem writeRecord_pending (t : Table) (i : Nat) (r : List Byte) : ((writeRecord t i r s).1).pending = s.pending := by
  unfold writeRecord onIndex
  (repeat' split) <;> simp

@[simp] theorem clearReadFlags_now (t : Table) (a b : Nat) : (clearReadFlags t a b s).now = s.now := by simp [clearReadFlags, apply_ite State.now]
@[simp] theorem clearReadFlags_stamper (t : Table) (a b : Nat) : (clearReadFlags t a b s).stamper = s.stamper := by simp [clearReadFlags, apply_ite State.stamper]
@[simp] theorem clearReadFlags_seats (t : Table) (a b : Nat) : (clearReadFlags t a b s).seats = s.seats := by simp [clearReadFlags, apply_ite State.seats]
@[simp] theorem clearReadFlags_teams (t : Table) (a b : Nat) : (clearReadFlags t a b s).teams = s.teams := by simp [clearReadFlags, apply_ite State.teams]
@[simp] theorem clearReadFlags_questions (t : Table) (a b : Nat) : (clearReadFlags t a b s).questions = s.questions := by simp [clearReadFlags, apply_ite State.questions]
@[simp] theorem clearReadFlags_cues (t : Table) (a b : Nat) : (clearReadFlags t a b s).cues = s.cues := by simp [clearReadFlags, apply_ite State.cues]
@[simp] theorem clearReadFlags_round (t : Table) (a b : Nat) : (clearReadFlags t a b s).round = s.round := by simp [clearReadFlags, apply_ite State.round]
@[simp] theorem clearReadFlags_resp (t : Table) (a b : Nat) : (clearReadFlags t a b s).resp = s.resp := by simp [clearReadFlags, apply_ite State.resp]
@[simp] theorem clearReadFlags_buzz (t : Table) (a b : Nat) : (clearReadFlags t a b s).buzz = s.buzz := by simp [clearReadFlags, apply_ite State.buzz]
@[simp] theorem clearReadFlags_score (t : Table) (a b : Nat) : (clearReadFlags t a b s).score = s.score := by simp [clearReadFlags, apply_ite State.score]
@[simp] theorem clearReadFlags_sorter (t : Table) (a b : Nat) : (clearReadFlags t a b s).sorter = s.sorter := by simp [clearReadFlags, apply_ite State.sorter]
@[simp] theorem clearReadFlags_comp (t : Table) (a b : Nat) : (clearReadFlags t a b s).comp = s.comp := by simp [clearReadFlags, apply_ite State.comp]
@[simp] theorem clearReadFlags_link (t : Table) (a b : Nat) : (clearReadFlags t a b s).link = s.link := by simp [clearReadFlags, apply_ite State.link]
@[simp] theorem clearReadFlags_hub (t : Table) (a b : Nat) : (clearReadFlags t a b s).hub = s.hub := by simp [clearReadFlags, apply_ite State.hub]
@[simp] theorem clearReadFlags_loader (t : Table) (a b : Nat) : (clearReadFlags t a b s).loader = s.loader := by simp [clearReadFlags, apply_ite State.loader]
@[simp] theorem clearReadFlags_free (t : Table) (a b : Nat) : (clearReadFlags t a b s).free = s.free := by simp [clearReadFlags, apply_ite State.free]
@[simp] theorem clearReadFlags_pending (t : Table) (a b : Nat) : (clearReadFlags t a b s).pending = s.pending := by simp [clearReadFlags, apply_ite State.pending]

end Sys2Proof.Machine
end

