-- ==== Sys2Proof/Laws/CompFrames.lean ====
section
/-! SUPPORT. The parts of the Scoreboard Composer that an operation leaves unchanged where it changes another part: one simp lemma for each. -/

namespace Sys2Proof.Machine

variable (s : State)

@[simp] theorem startCompose_comp_front : (startCompose s).comp.front = s.comp.front := by unfold startCompose; simp
@[simp] theorem startCompose_comp_freeze : (startCompose s).comp.freeze = s.comp.freeze := by unfold startCompose; simp
@[simp] theorem startCompose_comp_curtain : (startCompose s).comp.curtain = s.comp.curtain := by unfold startCompose; simp
@[simp] theorem startCompose_comp_sequences : (startCompose s).comp.sequences = s.comp.sequences := by unfold startCompose; simp
@[simp] theorem startCompose_comp_steps : (startCompose s).comp.steps = s.comp.steps := by unfold startCompose; simp
@[simp] theorem startCompose_comp_silent : (startCompose s).comp.silent = s.comp.silent := by unfold startCompose; simp
@[simp] theorem startCompose_comp_silentTimer : (startCompose s).comp.silentTimer = s.comp.silentTimer := by unfold startCompose; simp
@[simp] theorem startCompose_comp_markTimer : (startCompose s).comp.markTimer = s.comp.markTimer := by unfold startCompose; simp
@[simp] theorem startCompose_comp_lastRefresh : (startCompose s).comp.lastRefresh = s.comp.lastRefresh := by unfold startCompose; simp
@[simp] theorem startCompose_comp_countdownRunning : (startCompose s).comp.countdownRunning = s.comp.countdownRunning := by unfold startCompose; simp

@[simp] theorem recompose_comp_front : (recompose s).comp.front = s.comp.front := by unfold recompose; (repeat' split) <;> simp
@[simp] theorem recompose_comp_freeze : (recompose s).comp.freeze = s.comp.freeze := by unfold recompose; (repeat' split) <;> simp
@[simp] theorem recompose_comp_curtain : (recompose s).comp.curtain = s.comp.curtain := by unfold recompose; (repeat' split) <;> simp
@[simp] theorem recompose_comp_sequences : (recompose s).comp.sequences = s.comp.sequences := by unfold recompose; (repeat' split) <;> simp
@[simp] theorem recompose_comp_steps : (recompose s).comp.steps = s.comp.steps := by unfold recompose; (repeat' split) <;> simp
@[simp] theorem recompose_comp_silent : (recompose s).comp.silent = s.comp.silent := by unfold recompose; (repeat' split) <;> simp
@[simp] theorem recompose_comp_silentTimer : (recompose s).comp.silentTimer = s.comp.silentTimer := by unfold recompose; (repeat' split) <;> simp
@[simp] theorem recompose_comp_markTimer : (recompose s).comp.markTimer = s.comp.markTimer := by unfold recompose; (repeat' split) <;> simp
@[simp] theorem recompose_comp_lastRefresh : (recompose s).comp.lastRefresh = s.comp.lastRefresh := by unfold recompose; (repeat' split) <;> simp
@[simp] theorem recompose_comp_countdownRunning : (recompose s).comp.countdownRunning = s.comp.countdownRunning := by unfold recompose; (repeat' split) <;> simp

@[simp] theorem reportChange_comp_front (f : View → Bool) : (reportChange f s).comp.front = s.comp.front := by unfold reportChange; (repeat' split) <;> simp
@[simp] theorem reportChange_comp_freeze (f : View → Bool) : (reportChange f s).comp.freeze = s.comp.freeze := by unfold reportChange; (repeat' split) <;> simp
@[simp] theorem reportChange_comp_curtain (f : View → Bool) : (reportChange f s).comp.curtain = s.comp.curtain := by unfold reportChange; (repeat' split) <;> simp
@[simp] theorem reportChange_comp_sequences (f : View → Bool) : (reportChange f s).comp.sequences = s.comp.sequences := by unfold reportChange; (repeat' split) <;> simp
@[simp] theorem reportChange_comp_steps (f : View → Bool) : (reportChange f s).comp.steps = s.comp.steps := by unfold reportChange; (repeat' split) <;> simp
@[simp] theorem reportChange_comp_silent (f : View → Bool) : (reportChange f s).comp.silent = s.comp.silent := by unfold reportChange; (repeat' split) <;> simp
@[simp] theorem reportChange_comp_silentTimer (f : View → Bool) : (reportChange f s).comp.silentTimer = s.comp.silentTimer := by unfold reportChange; (repeat' split) <;> simp
@[simp] theorem reportChange_comp_markTimer (f : View → Bool) : (reportChange f s).comp.markTimer = s.comp.markTimer := by unfold reportChange; (repeat' split) <;> simp
@[simp] theorem reportChange_comp_lastRefresh (f : View → Bool) : (reportChange f s).comp.lastRefresh = s.comp.lastRefresh := by unfold reportChange; (repeat' split) <;> simp
@[simp] theorem reportChange_comp_countdownRunning (f : View → Bool) : (reportChange f s).comp.countdownRunning = s.comp.countdownRunning := by unfold reportChange; (repeat' split) <;> simp

@[simp] theorem reportTallies_comp_front : (reportTallies s).comp.front = s.comp.front := by unfold reportTallies; simp
@[simp] theorem reportTallies_comp_freeze : (reportTallies s).comp.freeze = s.comp.freeze := by unfold reportTallies; simp
@[simp] theorem reportTallies_comp_curtain : (reportTallies s).comp.curtain = s.comp.curtain := by unfold reportTallies; simp
@[simp] theorem reportTallies_comp_sequences : (reportTallies s).comp.sequences = s.comp.sequences := by unfold reportTallies; simp
@[simp] theorem reportTallies_comp_steps : (reportTallies s).comp.steps = s.comp.steps := by unfold reportTallies; simp
@[simp] theorem reportTallies_comp_silent : (reportTallies s).comp.silent = s.comp.silent := by unfold reportTallies; simp
@[simp] theorem reportTallies_comp_silentTimer : (reportTallies s).comp.silentTimer = s.comp.silentTimer := by unfold reportTallies; simp
@[simp] theorem reportTallies_comp_markTimer : (reportTallies s).comp.markTimer = s.comp.markTimer := by unfold reportTallies; simp
@[simp] theorem reportTallies_comp_lastRefresh : (reportTallies s).comp.lastRefresh = s.comp.lastRefresh := by unfold reportTallies; simp
@[simp] theorem reportTallies_comp_countdownRunning : (reportTallies s).comp.countdownRunning = s.comp.countdownRunning := by unfold reportTallies; simp

@[simp] theorem reportBuzz_comp_front : (reportBuzz s).comp.front = s.comp.front := by unfold reportBuzz; simp
@[simp] theorem reportBuzz_comp_freeze : (reportBuzz s).comp.freeze = s.comp.freeze := by unfold reportBuzz; simp
@[simp] theorem reportBuzz_comp_curtain : (reportBuzz s).comp.curtain = s.comp.curtain := by unfold reportBuzz; simp
@[simp] theorem reportBuzz_comp_sequences : (reportBuzz s).comp.sequences = s.comp.sequences := by unfold reportBuzz; simp
@[simp] theorem reportBuzz_comp_steps : (reportBuzz s).comp.steps = s.comp.steps := by unfold reportBuzz; simp
@[simp] theorem reportBuzz_comp_silent : (reportBuzz s).comp.silent = s.comp.silent := by unfold reportBuzz; simp
@[simp] theorem reportBuzz_comp_silentTimer : (reportBuzz s).comp.silentTimer = s.comp.silentTimer := by unfold reportBuzz; simp
@[simp] theorem reportBuzz_comp_markTimer : (reportBuzz s).comp.markTimer = s.comp.markTimer := by unfold reportBuzz; simp
@[simp] theorem reportBuzz_comp_lastRefresh : (reportBuzz s).comp.lastRefresh = s.comp.lastRefresh := by unfold reportBuzz; simp
@[simp] theorem reportBuzz_comp_countdownRunning : (reportBuzz s).comp.countdownRunning = s.comp.countdownRunning := by unfold reportBuzz; simp

@[simp] theorem releaseFloor_comp_front : (releaseFloor s).comp.front = s.comp.front := by unfold releaseFloor; (repeat' split) <;> simp
@[simp] theorem releaseFloor_comp_freeze : (releaseFloor s).comp.freeze = s.comp.freeze := by unfold releaseFloor; (repeat' split) <;> simp
@[simp] theorem releaseFloor_comp_curtain : (releaseFloor s).comp.curtain = s.comp.curtain := by unfold releaseFloor; (repeat' split) <;> simp
@[simp] theorem releaseFloor_comp_sequences : (releaseFloor s).comp.sequences = s.comp.sequences := by unfold releaseFloor; (repeat' split) <;> simp
@[simp] theorem releaseFloor_comp_steps : (releaseFloor s).comp.steps = s.comp.steps := by unfold releaseFloor; (repeat' split) <;> simp
@[simp] theorem releaseFloor_comp_silent : (releaseFloor s).comp.silent = s.comp.silent := by unfold releaseFloor; (repeat' split) <;> simp
@[simp] theorem releaseFloor_comp_silentTimer : (releaseFloor s).comp.silentTimer = s.comp.silentTimer := by unfold releaseFloor; (repeat' split) <;> simp
@[simp] theorem releaseFloor_comp_markTimer : (releaseFloor s).comp.markTimer = s.comp.markTimer := by unfold releaseFloor; (repeat' split) <;> simp
@[simp] theorem releaseFloor_comp_lastRefresh : (releaseFloor s).comp.lastRefresh = s.comp.lastRefresh := by unfold releaseFloor; (repeat' split) <;> simp
@[simp] theorem releaseFloor_comp_countdownRunning : (releaseFloor s).comp.countdownRunning = s.comp.countdownRunning := by unfold releaseFloor; (repeat' split) <;> simp

@[simp] theorem endQuestion_comp_front : (endQuestion s).comp.front = s.comp.front := by
  simp only [endQuestion]
  (repeat' split) <;> simp
@[simp] theorem endQuestion_comp_freeze : (endQuestion s).comp.freeze = s.comp.freeze := by
  simp only [endQuestion]
  (repeat' split) <;> simp
@[simp] theorem endQuestion_comp_curtain : (endQuestion s).comp.curtain = s.comp.curtain := by
  simp only [endQuestion]
  (repeat' split) <;> simp
@[simp] theorem endQuestion_comp_sequences : (endQuestion s).comp.sequences = s.comp.sequences := by
  simp only [endQuestion]
  (repeat' split) <;> simp
@[simp] theorem endQuestion_comp_steps : (endQuestion s).comp.steps = s.comp.steps := by
  simp only [endQuestion]
  (repeat' split) <;> simp
@[simp] theorem endQuestion_comp_silent : (endQuestion s).comp.silent = s.comp.silent := by
  simp only [endQuestion]
  (repeat' split) <;> simp
@[simp] theorem endQuestion_comp_silentTimer : (endQuestion s).comp.silentTimer = s.comp.silentTimer := by
  simp only [endQuestion]
  (repeat' split) <;> simp
@[simp] theorem endQuestion_comp_markTimer : (endQuestion s).comp.markTimer = s.comp.markTimer := by
  simp only [endQuestion]
  (repeat' split) <;> simp
@[simp] theorem endQuestion_comp_lastRefresh : (endQuestion s).comp.lastRefresh = s.comp.lastRefresh := by
  simp only [endQuestion]
  (repeat' split) <;> simp
@[simp] theorem endQuestion_comp_countdownRunning : (endQuestion s).comp.countdownRunning = s.comp.countdownRunning := by
  simp only [endQuestion]
  (repeat' split) <;> simp

@[simp] theorem grantFloor_comp_front (e : BuzzEntry) : (grantFloor e s).comp.front = s.comp.front := by unfold grantFloor; simp
@[simp] theorem grantFloor_comp_freeze (e : BuzzEntry) : (grantFloor e s).comp.freeze = s.comp.freeze := by unfold grantFloor; simp
@[simp] theorem grantFloor_comp_curtain (e : BuzzEntry) : (grantFloor e s).comp.curtain = s.comp.curtain := by unfold grantFloor; simp
@[simp] theorem grantFloor_comp_sequences (e : BuzzEntry) : (grantFloor e s).comp.sequences = s.comp.sequences := by unfold grantFloor; simp
@[simp] theorem grantFloor_comp_steps (e : BuzzEntry) : (grantFloor e s).comp.steps = s.comp.steps := by unfold grantFloor; simp
@[simp] theorem grantFloor_comp_silent (e : BuzzEntry) : (grantFloor e s).comp.silent = s.comp.silent := by unfold grantFloor; simp
@[simp] theorem grantFloor_comp_silentTimer (e : BuzzEntry) : (grantFloor e s).comp.silentTimer = s.comp.silentTimer := by unfold grantFloor; simp
@[simp] theorem grantFloor_comp_markTimer (e : BuzzEntry) : (grantFloor e s).comp.markTimer = s.comp.markTimer := by unfold grantFloor; simp
@[simp] theorem grantFloor_comp_lastRefresh (e : BuzzEntry) : (grantFloor e s).comp.lastRefresh = s.comp.lastRefresh := by unfold grantFloor; simp
@[simp] theorem grantFloor_comp_countdownRunning (e : BuzzEntry) : (grantFloor e s).comp.countdownRunning = s.comp.countdownRunning := by unfold grantFloor; simp

@[simp] theorem grantTest_comp_front : (grantTest s).comp.front = s.comp.front := by unfold grantTest; (repeat' split) <;> simp
@[simp] theorem grantTest_comp_freeze : (grantTest s).comp.freeze = s.comp.freeze := by unfold grantTest; (repeat' split) <;> simp
@[simp] theorem grantTest_comp_curtain : (grantTest s).comp.curtain = s.comp.curtain := by unfold grantTest; (repeat' split) <;> simp
@[simp] theorem grantTest_comp_sequences : (grantTest s).comp.sequences = s.comp.sequences := by unfold grantTest; (repeat' split) <;> simp
@[simp] theorem grantTest_comp_steps : (grantTest s).comp.steps = s.comp.steps := by unfold grantTest; (repeat' split) <;> simp
@[simp] theorem grantTest_comp_silent : (grantTest s).comp.silent = s.comp.silent := by unfold grantTest; (repeat' split) <;> simp
@[simp] theorem grantTest_comp_silentTimer : (grantTest s).comp.silentTimer = s.comp.silentTimer := by unfold grantTest; (repeat' split) <;> simp
@[simp] theorem grantTest_comp_markTimer : (grantTest s).comp.markTimer = s.comp.markTimer := by unfold grantTest; (repeat' split) <;> simp
@[simp] theorem grantTest_comp_lastRefresh : (grantTest s).comp.lastRefresh = s.comp.lastRefresh := by unfold grantTest; (repeat' split) <;> simp
@[simp] theorem grantTest_comp_countdownRunning : (grantTest s).comp.countdownRunning = s.comp.countdownRunning := by unfold grantTest; (repeat' split) <;> simp

@[simp] theorem settleExpires_comp_front : (settleExpires s).comp.front = s.comp.front := by
  simp only [settleExpires]
  (repeat' split) <;> simp
@[simp] theorem settleExpires_comp_freeze : (settleExpires s).comp.freeze = s.comp.freeze := by
  simp only [settleExpires]
  (repeat' split) <;> simp
@[simp] theorem settleExpires_comp_curtain : (settleExpires s).comp.curtain = s.comp.curtain := by
  simp only [settleExpires]
  (repeat' split) <;> simp
@[simp] theorem settleExpires_comp_sequences : (settleExpires s).comp.sequences = s.comp.sequences := by
  simp only [settleExpires]
  (repeat' split) <;> simp
@[simp] theorem settleExpires_comp_steps : (settleExpires s).comp.steps = s.comp.steps := by
  simp only [settleExpires]
  (repeat' split) <;> simp
@[simp] theorem settleExpires_comp_silent : (settleExpires s).comp.silent = s.comp.silent := by
  simp only [settleExpires]
  (repeat' split) <;> simp
@[simp] theorem settleExpires_comp_silentTimer : (settleExpires s).comp.silentTimer = s.comp.silentTimer := by
  simp only [settleExpires]
  (repeat' split) <;> simp
@[simp] theorem settleExpires_comp_markTimer : (settleExpires s).comp.markTimer = s.comp.markTimer := by
  simp only [settleExpires]
  (repeat' split) <;> simp
@[simp] theorem settleExpires_comp_lastRefresh : (settleExpires s).comp.lastRefresh = s.comp.lastRefresh := by
  simp only [settleExpires]
  (repeat' split) <;> simp
@[simp] theorem settleExpires_comp_countdownRunning : (settleExpires s).comp.countdownRunning = s.comp.countdownRunning := by
  simp only [settleExpires]
  (repeat' split) <;> simp

@[simp] theorem closeAnswering_comp_front : (closeAnswering s).comp.front = s.comp.front := by
  simp only [closeAnswering]
  (repeat' split) <;> simp
@[simp] theorem closeAnswering_comp_freeze : (closeAnswering s).comp.freeze = s.comp.freeze := by
  simp only [closeAnswering]
  (repeat' split) <;> simp
@[simp] theorem closeAnswering_comp_curtain : (closeAnswering s).comp.curtain = s.comp.curtain := by
  simp only [closeAnswering]
  (repeat' split) <;> simp
@[simp] theorem closeAnswering_comp_sequences : (closeAnswering s).comp.sequences = s.comp.sequences := by
  simp only [closeAnswering]
  (repeat' split) <;> simp
@[simp] theorem closeAnswering_comp_steps : (closeAnswering s).comp.steps = s.comp.steps := by
  simp only [closeAnswering]
  (repeat' split) <;> simp
@[simp] theorem closeAnswering_comp_silent : (closeAnswering s).comp.silent = s.comp.silent := by
  simp only [closeAnswering]
  (repeat' split) <;> simp
@[simp] theorem closeAnswering_comp_silentTimer : (closeAnswering s).comp.silentTimer = s.comp.silentTimer := by
  simp only [closeAnswering]
  (repeat' split) <;> simp
@[simp] theorem closeAnswering_comp_markTimer : (closeAnswering s).comp.markTimer = s.comp.markTimer := by
  simp only [closeAnswering]
  (repeat' split) <;> simp
@[simp] theorem closeAnswering_comp_lastRefresh : (closeAnswering s).comp.lastRefresh = s.comp.lastRefresh := by
  simp only [closeAnswering]
  (repeat' split) <;> simp
@[simp] theorem closeAnswering_comp_countdownRunning : (closeAnswering s).comp.countdownRunning = s.comp.countdownRunning := by
  simp only [closeAnswering]
  (repeat' split) <;> simp

@[simp] theorem closeAction_comp_front : ((closeAction s).1).comp.front = s.comp.front := by unfold closeAction; (repeat' split) <;> simp
@[simp] theorem closeAction_comp_freeze : ((closeAction s).1).comp.freeze = s.comp.freeze := by unfold closeAction; (repeat' split) <;> simp
@[simp] theorem closeAction_comp_curtain : ((closeAction s).1).comp.curtain = s.comp.curtain := by unfold closeAction; (repeat' split) <;> simp
@[simp] theorem closeAction_comp_sequences : ((closeAction s).1).comp.sequences = s.comp.sequences := by unfold closeAction; (repeat' split) <;> simp
@[simp] theorem closeAction_comp_steps : ((closeAction s).1).comp.steps = s.comp.steps := by unfold closeAction; (repeat' split) <;> simp
@[simp] theorem closeAction_comp_silent : ((closeAction s).1).comp.silent = s.comp.silent := by unfold closeAction; (repeat' split) <;> simp
@[simp] theorem closeAction_comp_silentTimer : ((closeAction s).1).comp.silentTimer = s.comp.silentTimer := by unfold closeAction; (repeat' split) <;> simp
@[simp] theorem closeAction_comp_markTimer : ((closeAction s).1).comp.markTimer = s.comp.markTimer := by unfold closeAction; (repeat' split) <;> simp
@[simp] theorem closeAction_comp_lastRefresh : ((closeAction s).1).comp.lastRefresh = s.comp.lastRefresh := by unfold closeAction; (repeat' split) <;> simp
@[simp] theorem closeAction_comp_countdownRunning : ((closeAction s).1).comp.countdownRunning = s.comp.countdownRunning := by unfold closeAction; (repeat' split) <;> simp

@[simp] theorem cancelQuestion_comp_front : (cancelQuestion s).comp.front = s.comp.front := by unfold cancelQuestion; simp
@[simp] theorem cancelQuestion_comp_freeze : (cancelQuestion s).comp.freeze = s.comp.freeze := by unfold cancelQuestion; simp
@[simp] theorem cancelQuestion_comp_curtain : (cancelQuestion s).comp.curtain = s.comp.curtain := by unfold cancelQuestion; simp
@[simp] theorem cancelQuestion_comp_sequences : (cancelQuestion s).comp.sequences = s.comp.sequences := by unfold cancelQuestion; simp
@[simp] theorem cancelQuestion_comp_steps : (cancelQuestion s).comp.steps = s.comp.steps := by unfold cancelQuestion; simp
@[simp] theorem cancelQuestion_comp_silent : (cancelQuestion s).comp.silent = s.comp.silent := by unfold cancelQuestion; simp
@[simp] theorem cancelQuestion_comp_silentTimer : (cancelQuestion s).comp.silentTimer = s.comp.silentTimer := by unfold cancelQuestion; simp
@[simp] theorem cancelQuestion_comp_markTimer : (cancelQuestion s).comp.markTimer = s.comp.markTimer := by unfold cancelQuestion; simp
@[simp] theorem cancelQuestion_comp_lastRefresh : (cancelQuestion s).comp.lastRefresh = s.comp.lastRefresh := by unfold cancelQuestion; simp
@[simp] theorem cancelQuestion_comp_countdownRunning : (cancelQuestion s).comp.countdownRunning = s.comp.countdownRunning := by unfold cancelQuestion; simp

@[simp] theorem cancelAction_comp_front : ((cancelAction s).1).comp.front = s.comp.front := by unfold cancelAction; (repeat' split) <;> simp
@[simp] theorem cancelAction_comp_freeze : ((cancelAction s).1).comp.freeze = s.comp.freeze := by unfold cancelAction; (repeat' split) <;> simp
@[simp] theorem cancelAction_comp_curtain : ((cancelAction s).1).comp.curtain = s.comp.curtain := by unfold cancelAction; (repeat' split) <;> simp
@[simp] theorem cancelAction_comp_sequences : ((cancelAction s).1).comp.sequences = s.comp.sequences := by unfold cancelAction; (repeat' split) <;> simp
@[simp] theorem cancelAction_comp_steps : ((cancelAction s).1).comp.steps = s.comp.steps := by unfold cancelAction; (repeat' split) <;> simp
@[simp] theorem cancelAction_comp_silent : ((cancelAction s).1).comp.silent = s.comp.silent := by unfold cancelAction; (repeat' split) <;> simp
@[simp] theorem cancelAction_comp_silentTimer : ((cancelAction s).1).comp.silentTimer = s.comp.silentTimer := by unfold cancelAction; (repeat' split) <;> simp
@[simp] theorem cancelAction_comp_markTimer : ((cancelAction s).1).comp.markTimer = s.comp.markTimer := by unfold cancelAction; (repeat' split) <;> simp
@[simp] theorem cancelAction_comp_lastRefresh : ((cancelAction s).1).comp.lastRefresh = s.comp.lastRefresh := by unfold cancelAction; (repeat' split) <;> simp
@[simp] theorem cancelAction_comp_countdownRunning : ((cancelAction s).1).comp.countdownRunning = s.comp.countdownRunning := by unfold cancelAction; (repeat' split) <;> simp

@[simp] theorem clearResponses_comp_front (q : Fin 128) : (clearResponses q s).comp.front = s.comp.front := by unfold clearResponses; (repeat' split) <;> simp
@[simp] theorem clearResponses_comp_freeze (q : Fin 128) : (clearResponses q s).comp.freeze = s.comp.freeze := by unfold clearResponses; (repeat' split) <;> simp
@[simp] theorem clearResponses_comp_curtain (q : Fin 128) : (clearResponses q s).comp.curtain = s.comp.curtain := by unfold clearResponses; (repeat' split) <;> simp
@[simp] theorem clearResponses_comp_sequences (q : Fin 128) : (clearResponses q s).comp.sequences = s.comp.sequences := by unfold clearResponses; (repeat' split) <;> simp
@[simp] theorem clearResponses_comp_steps (q : Fin 128) : (clearResponses q s).comp.steps = s.comp.steps := by unfold clearResponses; (repeat' split) <;> simp
@[simp] theorem clearResponses_comp_silent (q : Fin 128) : (clearResponses q s).comp.silent = s.comp.silent := by unfold clearResponses; (repeat' split) <;> simp
@[simp] theorem clearResponses_comp_silentTimer (q : Fin 128) : (clearResponses q s).comp.silentTimer = s.comp.silentTimer := by unfold clearResponses; (repeat' split) <;> simp
@[simp] theorem clearResponses_comp_markTimer (q : Fin 128) : (clearResponses q s).comp.markTimer = s.comp.markTimer := by unfold clearResponses; (repeat' split) <;> simp
@[simp] theorem clearResponses_comp_lastRefresh (q : Fin 128) : (clearResponses q s).comp.lastRefresh = s.comp.lastRefresh := by unfold clearResponses; (repeat' split) <;> simp
@[simp] theorem clearResponses_comp_countdownRunning (q : Fin 128) : (clearResponses q s).comp.countdownRunning = s.comp.countdownRunning := by unfold clearResponses; (repeat' split) <;> simp

@[simp] theorem openQuestion_comp_front (q : Fin 128) : (openQuestion q s).comp.front = s.comp.front := by unfold openQuestion; simp
@[simp] theorem openQuestion_comp_freeze (q : Fin 128) : (openQuestion q s).comp.freeze = s.comp.freeze := by unfold openQuestion; simp
@[simp] theorem openQuestion_comp_curtain (q : Fin 128) : (openQuestion q s).comp.curtain = s.comp.curtain := by unfold openQuestion; simp
@[simp] theorem openQuestion_comp_sequences (q : Fin 128) : (openQuestion q s).comp.sequences = s.comp.sequences := by unfold openQuestion; simp
@[simp] theorem openQuestion_comp_steps (q : Fin 128) : (openQuestion q s).comp.steps = s.comp.steps := by unfold openQuestion; simp
@[simp] theorem openQuestion_comp_silent (q : Fin 128) : (openQuestion q s).comp.silent = s.comp.silent := by unfold openQuestion; simp
@[simp] theorem openQuestion_comp_silentTimer (q : Fin 128) : (openQuestion q s).comp.silentTimer = s.comp.silentTimer := by unfold openQuestion; simp
@[simp] theorem openQuestion_comp_markTimer (q : Fin 128) : (openQuestion q s).comp.markTimer = s.comp.markTimer := by unfold openQuestion; simp
@[simp] theorem openQuestion_comp_lastRefresh (q : Fin 128) : (openQuestion q s).comp.lastRefresh = s.comp.lastRefresh := by unfold openQuestion; simp
@[simp] theorem openQuestion_comp_countdownRunning (q : Fin 128) : (openQuestion q s).comp.countdownRunning = s.comp.countdownRunning := by unfold openQuestion; simp

@[simp] theorem openChosen_comp_front (q : Option (Fin 128)) : ((openChosen q s).1).comp.front = s.comp.front := by unfold openChosen; (repeat' split) <;> simp
@[simp] theorem openChosen_comp_freeze (q : Option (Fin 128)) : ((openChosen q s).1).comp.freeze = s.comp.freeze := by unfold openChosen; (repeat' split) <;> simp
@[simp] theorem openChosen_comp_curtain (q : Option (Fin 128)) : ((openChosen q s).1).comp.curtain = s.comp.curtain := by unfold openChosen; (repeat' split) <;> simp
@[simp] theorem openChosen_comp_sequences (q : Option (Fin 128)) : ((openChosen q s).1).comp.sequences = s.comp.sequences := by unfold openChosen; (repeat' split) <;> simp
@[simp] theorem openChosen_comp_steps (q : Option (Fin 128)) : ((openChosen q s).1).comp.steps = s.comp.steps := by unfold openChosen; (repeat' split) <;> simp
@[simp] theorem openChosen_comp_silent (q : Option (Fin 128)) : ((openChosen q s).1).comp.silent = s.comp.silent := by unfold openChosen; (repeat' split) <;> simp
@[simp] theorem openChosen_comp_silentTimer (q : Option (Fin 128)) : ((openChosen q s).1).comp.silentTimer = s.comp.silentTimer := by unfold openChosen; (repeat' split) <;> simp
@[simp] theorem openChosen_comp_markTimer (q : Option (Fin 128)) : ((openChosen q s).1).comp.markTimer = s.comp.markTimer := by unfold openChosen; (repeat' split) <;> simp
@[simp] theorem openChosen_comp_lastRefresh (q : Option (Fin 128)) : ((openChosen q s).1).comp.lastRefresh = s.comp.lastRefresh := by unfold openChosen; (repeat' split) <;> simp
@[simp] theorem openChosen_comp_countdownRunning (q : Option (Fin 128)) : ((openChosen q s).1).comp.countdownRunning = s.comp.countdownRunning := by unfold openChosen; (repeat' split) <;> simp

@[simp] theorem openAction_comp_front (q : Byte) : ((openAction q s).1).comp.front = s.comp.front := by unfold openAction; simp
@[simp] theorem openAction_comp_freeze (q : Byte) : ((openAction q s).1).comp.freeze = s.comp.freeze := by unfold openAction; simp
@[simp] theorem openAction_comp_curtain (q : Byte) : ((openAction q s).1).comp.curtain = s.comp.curtain := by unfold openAction; simp
@[simp] theorem openAction_comp_sequences (q : Byte) : ((openAction q s).1).comp.sequences = s.comp.sequences := by unfold openAction; simp
@[simp] theorem openAction_comp_steps (q : Byte) : ((openAction q s).1).comp.steps = s.comp.steps := by unfold openAction; simp
@[simp] theorem openAction_comp_silent (q : Byte) : ((openAction q s).1).comp.silent = s.comp.silent := by unfold openAction; simp
@[simp] theorem openAction_comp_silentTimer (q : Byte) : ((openAction q s).1).comp.silentTimer = s.comp.silentTimer := by unfold openAction; simp
@[simp] theorem openAction_comp_markTimer (q : Byte) : ((openAction q s).1).comp.markTimer = s.comp.markTimer := by unfold openAction; simp
@[simp] theorem openAction_comp_lastRefresh (q : Byte) : ((openAction q s).1).comp.lastRefresh = s.comp.lastRefresh := by unfold openAction; simp
@[simp] theorem openAction_comp_countdownRunning (q : Byte) : ((openAction q s).1).comp.countdownRunning = s.comp.countdownRunning := by unfold openAction; simp

@[simp] theorem nextAction_comp_front : ((nextAction s).1).comp.front = s.comp.front := by unfold nextAction; simp
@[simp] theorem nextAction_comp_freeze : ((nextAction s).1).comp.freeze = s.comp.freeze := by unfold nextAction; simp
@[simp] theorem nextAction_comp_curtain : ((nextAction s).1).comp.curtain = s.comp.curtain := by unfold nextAction; simp
@[simp] theorem nextAction_comp_sequences : ((nextAction s).1).comp.sequences = s.comp.sequences := by unfold nextAction; simp
@[simp] theorem nextAction_comp_steps : ((nextAction s).1).comp.steps = s.comp.steps := by unfold nextAction; simp
@[simp] theorem nextAction_comp_silent : ((nextAction s).1).comp.silent = s.comp.silent := by unfold nextAction; simp
@[simp] theorem nextAction_comp_silentTimer : ((nextAction s).1).comp.silentTimer = s.comp.silentTimer := by unfold nextAction; simp
@[simp] theorem nextAction_comp_markTimer : ((nextAction s).1).comp.markTimer = s.comp.markTimer := by unfold nextAction; simp
@[simp] theorem nextAction_comp_lastRefresh : ((nextAction s).1).comp.lastRefresh = s.comp.lastRefresh := by unfold nextAction; simp
@[simp] theorem nextAction_comp_countdownRunning : ((nextAction s).1).comp.countdownRunning = s.comp.countdownRunning := by unfold nextAction; simp

@[simp] theorem takePendingOpen_comp_front : (takePendingOpen s).comp.front = s.comp.front := by
  simp only [takePendingOpen]
  (repeat' split) <;> simp
@[simp] theorem takePendingOpen_comp_freeze : (takePendingOpen s).comp.freeze = s.comp.freeze := by
  simp only [takePendingOpen]
  (repeat' split) <;> simp
@[simp] theorem takePendingOpen_comp_curtain : (takePendingOpen s).comp.curtain = s.comp.curtain := by
  simp only [takePendingOpen]
  (repeat' split) <;> simp
@[simp] theorem takePendingOpen_comp_sequences : (takePendingOpen s).comp.sequences = s.comp.sequences := by
  simp only [takePendingOpen]
  (repeat' split) <;> simp
@[simp] theorem takePendingOpen_comp_steps : (takePendingOpen s).comp.steps = s.comp.steps := by
  simp only [takePendingOpen]
  (repeat' split) <;> simp
@[simp] theorem takePendingOpen_comp_silent : (takePendingOpen s).comp.silent = s.comp.silent := by
  simp only [takePendingOpen]
  (repeat' split) <;> simp
@[simp] theorem takePendingOpen_comp_silentTimer : (takePendingOpen s).comp.silentTimer = s.comp.silentTimer := by
  simp only [takePendingOpen]
  (repeat' split) <;> simp
@[simp] theorem takePendingOpen_comp_markTimer : (takePendingOpen s).comp.markTimer = s.comp.markTimer := by
  simp only [takePendingOpen]
  (repeat' split) <;> simp
@[simp] theorem takePendingOpen_comp_lastRefresh : (takePendingOpen s).comp.lastRefresh = s.comp.lastRefresh := by
  simp only [takePendingOpen]
  (repeat' split) <;> simp
@[simp] theorem takePendingOpen_comp_countdownRunning : (takePendingOpen s).comp.countdownRunning = s.comp.countdownRunning := by
  simp only [takePendingOpen]
  (repeat' split) <;> simp

@[simp] theorem roundAfterCommit_comp_front : (roundAfterCommit s).comp.front = s.comp.front := by unfold roundAfterCommit; simp
@[simp] theorem roundAfterCommit_comp_freeze : (roundAfterCommit s).comp.freeze = s.comp.freeze := by unfold roundAfterCommit; simp
@[simp] theorem roundAfterCommit_comp_curtain : (roundAfterCommit s).comp.curtain = s.comp.curtain := by unfold roundAfterCommit; simp
@[simp] theorem roundAfterCommit_comp_sequences : (roundAfterCommit s).comp.sequences = s.comp.sequences := by unfold roundAfterCommit; simp
@[simp] theorem roundAfterCommit_comp_steps : (roundAfterCommit s).comp.steps = s.comp.steps := by unfold roundAfterCommit; simp
@[simp] theorem roundAfterCommit_comp_silent : (roundAfterCommit s).comp.silent = s.comp.silent := by unfold roundAfterCommit; simp
@[simp] theorem roundAfterCommit_comp_silentTimer : (roundAfterCommit s).comp.silentTimer = s.comp.silentTimer := by unfold roundAfterCommit; simp
@[simp] theorem roundAfterCommit_comp_markTimer : (roundAfterCommit s).comp.markTimer = s.comp.markTimer := by unfold roundAfterCommit; simp
@[simp] theorem roundAfterCommit_comp_lastRefresh : (roundAfterCommit s).comp.lastRefresh = s.comp.lastRefresh := by unfold roundAfterCommit; simp
@[simp] theorem roundAfterCommit_comp_countdownRunning : (roundAfterCommit s).comp.countdownRunning = s.comp.countdownRunning := by unfold roundAfterCommit; simp

@[simp] theorem releaseWrong_comp_front (n : Nat) : (releaseWrong n s).comp.front = s.comp.front := by unfold releaseWrong; (repeat' split) <;> simp
@[simp] theorem releaseWrong_comp_freeze (n : Nat) : (releaseWrong n s).comp.freeze = s.comp.freeze := by unfold releaseWrong; (repeat' split) <;> simp
@[simp] theorem releaseWrong_comp_curtain (n : Nat) : (releaseWrong n s).comp.curtain = s.comp.curtain := by unfold releaseWrong; (repeat' split) <;> simp
@[simp] theorem releaseWrong_comp_sequences (n : Nat) : (releaseWrong n s).comp.sequences = s.comp.sequences := by unfold releaseWrong; (repeat' split) <;> simp
@[simp] theorem releaseWrong_comp_steps (n : Nat) : (releaseWrong n s).comp.steps = s.comp.steps := by unfold releaseWrong; (repeat' split) <;> simp
@[simp] theorem releaseWrong_comp_silent (n : Nat) : (releaseWrong n s).comp.silent = s.comp.silent := by unfold releaseWrong; (repeat' split) <;> simp
@[simp] theorem releaseWrong_comp_silentTimer (n : Nat) : (releaseWrong n s).comp.silentTimer = s.comp.silentTimer := by unfold releaseWrong; (repeat' split) <;> simp
@[simp] theorem releaseWrong_comp_markTimer (n : Nat) : (releaseWrong n s).comp.markTimer = s.comp.markTimer := by unfold releaseWrong; (repeat' split) <;> simp
@[simp] theorem releaseWrong_comp_lastRefresh (n : Nat) : (releaseWrong n s).comp.lastRefresh = s.comp.lastRefresh := by unfold releaseWrong; (repeat' split) <;> simp
@[simp] theorem releaseWrong_comp_countdownRunning (n : Nat) : (releaseWrong n s).comp.countdownRunning = s.comp.countdownRunning := by unfold releaseWrong; (repeat' split) <;> simp

@[simp] theorem judgeHolder_comp_front (v : Verdict) (e : BuzzEntry) (r : List BuzzEntry) : (judgeHolder v e r s).comp.front = s.comp.front := by unfold judgeHolder; (repeat' split) <;> simp
@[simp] theorem judgeHolder_comp_freeze (v : Verdict) (e : BuzzEntry) (r : List BuzzEntry) : (judgeHolder v e r s).comp.freeze = s.comp.freeze := by unfold judgeHolder; (repeat' split) <;> simp
@[simp] theorem judgeHolder_comp_curtain (v : Verdict) (e : BuzzEntry) (r : List BuzzEntry) : (judgeHolder v e r s).comp.curtain = s.comp.curtain := by unfold judgeHolder; (repeat' split) <;> simp
@[simp] theorem judgeHolder_comp_sequences (v : Verdict) (e : BuzzEntry) (r : List BuzzEntry) : (judgeHolder v e r s).comp.sequences = s.comp.sequences := by unfold judgeHolder; (repeat' split) <;> simp
@[simp] theorem judgeHolder_comp_steps (v : Verdict) (e : BuzzEntry) (r : List BuzzEntry) : (judgeHolder v e r s).comp.steps = s.comp.steps := by unfold judgeHolder; (repeat' split) <;> simp
@[simp] theorem judgeHolder_comp_silent (v : Verdict) (e : BuzzEntry) (r : List BuzzEntry) : (judgeHolder v e r s).comp.silent = s.comp.silent := by unfold judgeHolder; (repeat' split) <;> simp
@[simp] theorem judgeHolder_comp_silentTimer (v : Verdict) (e : BuzzEntry) (r : List BuzzEntry) : (judgeHolder v e r s).comp.silentTimer = s.comp.silentTimer := by unfold judgeHolder; (repeat' split) <;> simp
@[simp] theorem judgeHolder_comp_markTimer (v : Verdict) (e : BuzzEntry) (r : List BuzzEntry) : (judgeHolder v e r s).comp.markTimer = s.comp.markTimer := by unfold judgeHolder; (repeat' split) <;> simp
@[simp] theorem judgeHolder_comp_lastRefresh (v : Verdict) (e : BuzzEntry) (r : List BuzzEntry) : (judgeHolder v e r s).comp.lastRefresh = s.comp.lastRefresh := by unfold judgeHolder; (repeat' split) <;> simp
@[simp] theorem judgeHolder_comp_countdownRunning (v : Verdict) (e : BuzzEntry) (r : List BuzzEntry) : (judgeHolder v e r s).comp.countdownRunning = s.comp.countdownRunning := by unfold judgeHolder; (repeat' split) <;> simp

@[simp] theorem judgeAction_comp_front (t v : Byte) : ((judgeAction t v s).1).comp.front = s.comp.front := by unfold judgeAction; (repeat' split) <;> simp
@[simp] theorem judgeAction_comp_freeze (t v : Byte) : ((judgeAction t v s).1).comp.freeze = s.comp.freeze := by unfold judgeAction; (repeat' split) <;> simp
@[simp] theorem judgeAction_comp_curtain (t v : Byte) : ((judgeAction t v s).1).comp.curtain = s.comp.curtain := by unfold judgeAction; (repeat' split) <;> simp
@[simp] theorem judgeAction_comp_sequences (t v : Byte) : ((judgeAction t v s).1).comp.sequences = s.comp.sequences := by unfold judgeAction; (repeat' split) <;> simp
@[simp] theorem judgeAction_comp_steps (t v : Byte) : ((judgeAction t v s).1).comp.steps = s.comp.steps := by unfold judgeAction; (repeat' split) <;> simp
@[simp] theorem judgeAction_comp_silent (t v : Byte) : ((judgeAction t v s).1).comp.silent = s.comp.silent := by unfold judgeAction; (repeat' split) <;> simp
@[simp] theorem judgeAction_comp_silentTimer (t v : Byte) : ((judgeAction t v s).1).comp.silentTimer = s.comp.silentTimer := by unfold judgeAction; (repeat' split) <;> simp
@[simp] theorem judgeAction_comp_markTimer (t v : Byte) : ((judgeAction t v s).1).comp.markTimer = s.comp.markTimer := by unfold judgeAction; (repeat' split) <;> simp
@[simp] theorem judgeAction_comp_lastRefresh (t v : Byte) : ((judgeAction t v s).1).comp.lastRefresh = s.comp.lastRefresh := by unfold judgeAction; (repeat' split) <;> simp
@[simp] theorem judgeAction_comp_countdownRunning (t v : Byte) : ((judgeAction t v s).1).comp.countdownRunning = s.comp.countdownRunning := by unfold judgeAction; (repeat' split) <;> simp

@[simp] theorem answerTimeout_comp_front : (answerTimeout s).comp.front = s.comp.front := by unfold answerTimeout; (repeat' split) <;> simp
@[simp] theorem answerTimeout_comp_freeze : (answerTimeout s).comp.freeze = s.comp.freeze := by unfold answerTimeout; (repeat' split) <;> simp
@[simp] theorem answerTimeout_comp_curtain : (answerTimeout s).comp.curtain = s.comp.curtain := by unfold answerTimeout; (repeat' split) <;> simp
@[simp] theorem answerTimeout_comp_sequences : (answerTimeout s).comp.sequences = s.comp.sequences := by unfold answerTimeout; (repeat' split) <;> simp
@[simp] theorem answerTimeout_comp_steps : (answerTimeout s).comp.steps = s.comp.steps := by unfold answerTimeout; (repeat' split) <;> simp
@[simp] theorem answerTimeout_comp_silent : (answerTimeout s).comp.silent = s.comp.silent := by unfold answerTimeout; (repeat' split) <;> simp
@[simp] theorem answerTimeout_comp_silentTimer : (answerTimeout s).comp.silentTimer = s.comp.silentTimer := by unfold answerTimeout; (repeat' split) <;> simp
@[simp] theorem answerTimeout_comp_markTimer : (answerTimeout s).comp.markTimer = s.comp.markTimer := by unfold answerTimeout; (repeat' split) <;> simp
@[simp] theorem answerTimeout_comp_lastRefresh : (answerTimeout s).comp.lastRefresh = s.comp.lastRefresh := by unfold answerTimeout; (repeat' split) <;> simp
@[simp] theorem answerTimeout_comp_countdownRunning : (answerTimeout s).comp.countdownRunning = s.comp.countdownRunning := by unfold answerTimeout; (repeat' split) <;> simp

@[simp] theorem insertEntry_comp_front (k : Fin 256) (t : Fin 16) (x : Time) (m : Marks) : (insertEntry k t x m s).comp.front = s.comp.front := by
  simp only [insertEntry]
  (repeat' split) <;> simp
@[simp] theorem insertEntry_comp_freeze (k : Fin 256) (t : Fin 16) (x : Time) (m : Marks) : (insertEntry k t x m s).comp.freeze = s.comp.freeze := by
  simp only [insertEntry]
  (repeat' split) <;> simp
@[simp] theorem insertEntry_comp_curtain (k : Fin 256) (t : Fin 16) (x : Time) (m : Marks) : (insertEntry k t x m s).comp.curtain = s.comp.curtain := by
  simp only [insertEntry]
  (repeat' split) <;> simp
@[simp] theorem insertEntry_comp_sequences (k : Fin 256) (t : Fin 16) (x : Time) (m : Marks) : (insertEntry k t x m s).comp.sequences = s.comp.sequences := by
  simp only [insertEntry]
  (repeat' split) <;> simp
@[simp] theorem insertEntry_comp_steps (k : Fin 256) (t : Fin 16) (x : Time) (m : Marks) : (insertEntry k t x m s).comp.steps = s.comp.steps := by
  simp only [insertEntry]
  (repeat' split) <;> simp
@[simp] theorem insertEntry_comp_silent (k : Fin 256) (t : Fin 16) (x : Time) (m : Marks) : (insertEntry k t x m s).comp.silent = s.comp.silent := by
  simp only [insertEntry]
  (repeat' split) <;> simp
@[simp] theorem insertEntry_comp_silentTimer (k : Fin 256) (t : Fin 16) (x : Time) (m : Marks) : (insertEntry k t x m s).comp.silentTimer = s.comp.silentTimer := by
  simp only [insertEntry]
  (repeat' split) <;> simp
@[simp] theorem insertEntry_comp_markTimer (k : Fin 256) (t : Fin 16) (x : Time) (m : Marks) : (insertEntry k t x m s).comp.markTimer = s.comp.markTimer := by
  simp only [insertEntry]
  (repeat' split) <;> simp
@[simp] theorem insertEntry_comp_lastRefresh (k : Fin 256) (t : Fin 16) (x : Time) (m : Marks) : (insertEntry k t x m s).comp.lastRefresh = s.comp.lastRefresh := by
  simp only [insertEntry]
  (repeat' split) <;> simp
@[simp] theorem insertEntry_comp_countdownRunning (k : Fin 256) (t : Fin 16) (x : Time) (m : Marks) : (insertEntry k t x m s).comp.countdownRunning = s.comp.countdownRunning := by
  simp only [insertEntry]
  (repeat' split) <;> simp

@[simp] theorem takeBuzz_comp_front (k : Fin 256) (t : Option (Fin 16)) (x : Time) (m : Marks) : (takeBuzz k t x m s).comp.front = s.comp.front := by unfold takeBuzz; (repeat' split) <;> simp
@[simp] theorem takeBuzz_comp_freeze (k : Fin 256) (t : Option (Fin 16)) (x : Time) (m : Marks) : (takeBuzz k t x m s).comp.freeze = s.comp.freeze := by unfold takeBuzz; (repeat' split) <;> simp
@[simp] theorem takeBuzz_comp_curtain (k : Fin 256) (t : Option (Fin 16)) (x : Time) (m : Marks) : (takeBuzz k t x m s).comp.curtain = s.comp.curtain := by unfold takeBuzz; (repeat' split) <;> simp
@[simp] theorem takeBuzz_comp_sequences (k : Fin 256) (t : Option (Fin 16)) (x : Time) (m : Marks) : (takeBuzz k t x m s).comp.sequences = s.comp.sequences := by unfold takeBuzz; (repeat' split) <;> simp
@[simp] theorem takeBuzz_comp_steps (k : Fin 256) (t : Option (Fin 16)) (x : Time) (m : Marks) : (takeBuzz k t x m s).comp.steps = s.comp.steps := by unfold takeBuzz; (repeat' split) <;> simp
@[simp] theorem takeBuzz_comp_silent (k : Fin 256) (t : Option (Fin 16)) (x : Time) (m : Marks) : (takeBuzz k t x m s).comp.silent = s.comp.silent := by unfold takeBuzz; (repeat' split) <;> simp
@[simp] theorem takeBuzz_comp_silentTimer (k : Fin 256) (t : Option (Fin 16)) (x : Time) (m : Marks) : (takeBuzz k t x m s).comp.silentTimer = s.comp.silentTimer := by unfold takeBuzz; (repeat' split) <;> simp
@[simp] theorem takeBuzz_comp_markTimer (k : Fin 256) (t : Option (Fin 16)) (x : Time) (m : Marks) : (takeBuzz k t x m s).comp.markTimer = s.comp.markTimer := by unfold takeBuzz; (repeat' split) <;> simp
@[simp] theorem takeBuzz_comp_lastRefresh (k : Fin 256) (t : Option (Fin 16)) (x : Time) (m : Marks) : (takeBuzz k t x m s).comp.lastRefresh = s.comp.lastRefresh := by unfold takeBuzz; (repeat' split) <;> simp
@[simp] theorem takeBuzz_comp_countdownRunning (k : Fin 256) (t : Option (Fin 16)) (x : Time) (m : Marks) : (takeBuzz k t x m s).comp.countdownRunning = s.comp.countdownRunning := by unfold takeBuzz; (repeat' split) <;> simp

@[simp] theorem recordAnswer_comp_front (k : Fin 256) (r : Response) (t : Tallies) : (recordAnswer k r t s).comp.front = s.comp.front := by unfold recordAnswer; split <;> simp
@[simp] theorem recordAnswer_comp_freeze (k : Fin 256) (r : Response) (t : Tallies) : (recordAnswer k r t s).comp.freeze = s.comp.freeze := by unfold recordAnswer; split <;> simp
@[simp] theorem recordAnswer_comp_curtain (k : Fin 256) (r : Response) (t : Tallies) : (recordAnswer k r t s).comp.curtain = s.comp.curtain := by unfold recordAnswer; split <;> simp
@[simp] theorem recordAnswer_comp_sequences (k : Fin 256) (r : Response) (t : Tallies) : (recordAnswer k r t s).comp.sequences = s.comp.sequences := by unfold recordAnswer; split <;> simp
@[simp] theorem recordAnswer_comp_steps (k : Fin 256) (r : Response) (t : Tallies) : (recordAnswer k r t s).comp.steps = s.comp.steps := by unfold recordAnswer; split <;> simp
@[simp] theorem recordAnswer_comp_silent (k : Fin 256) (r : Response) (t : Tallies) : (recordAnswer k r t s).comp.silent = s.comp.silent := by unfold recordAnswer; split <;> simp
@[simp] theorem recordAnswer_comp_silentTimer (k : Fin 256) (r : Response) (t : Tallies) : (recordAnswer k r t s).comp.silentTimer = s.comp.silentTimer := by unfold recordAnswer; split <;> simp
@[simp] theorem recordAnswer_comp_markTimer (k : Fin 256) (r : Response) (t : Tallies) : (recordAnswer k r t s).comp.markTimer = s.comp.markTimer := by unfold recordAnswer; split <;> simp
@[simp] theorem recordAnswer_comp_lastRefresh (k : Fin 256) (r : Response) (t : Tallies) : (recordAnswer k r t s).comp.lastRefresh = s.comp.lastRefresh := by unfold recordAnswer; split <;> simp
@[simp] theorem recordAnswer_comp_countdownRunning (k : Fin 256) (r : Response) (t : Tallies) : (recordAnswer k r t s).comp.countdownRunning = s.comp.countdownRunning := by unfold recordAnswer; split <;> simp

@[simp] theorem firstAnswer_comp_front (k : Fin 256) (t : Fin 16) (a : Answer) (x : Time) (m : Marks) : (firstAnswer k t a x m s).comp.front = s.comp.front := by unfold firstAnswer; simp
@[simp] theorem firstAnswer_comp_freeze (k : Fin 256) (t : Fin 16) (a : Answer) (x : Time) (m : Marks) : (firstAnswer k t a x m s).comp.freeze = s.comp.freeze := by unfold firstAnswer; simp
@[simp] theorem firstAnswer_comp_curtain (k : Fin 256) (t : Fin 16) (a : Answer) (x : Time) (m : Marks) : (firstAnswer k t a x m s).comp.curtain = s.comp.curtain := by unfold firstAnswer; simp
@[simp] theorem firstAnswer_comp_sequences (k : Fin 256) (t : Fin 16) (a : Answer) (x : Time) (m : Marks) : (firstAnswer k t a x m s).comp.sequences = s.comp.sequences := by unfold firstAnswer; simp
@[simp] theorem firstAnswer_comp_steps (k : Fin 256) (t : Fin 16) (a : Answer) (x : Time) (m : Marks) : (firstAnswer k t a x m s).comp.steps = s.comp.steps := by unfold firstAnswer; simp
@[simp] theorem firstAnswer_comp_silent (k : Fin 256) (t : Fin 16) (a : Answer) (x : Time) (m : Marks) : (firstAnswer k t a x m s).comp.silent = s.comp.silent := by unfold firstAnswer; simp
@[simp] theorem firstAnswer_comp_silentTimer (k : Fin 256) (t : Fin 16) (a : Answer) (x : Time) (m : Marks) : (firstAnswer k t a x m s).comp.silentTimer = s.comp.silentTimer := by unfold firstAnswer; simp
@[simp] theorem firstAnswer_comp_markTimer (k : Fin 256) (t : Fin 16) (a : Answer) (x : Time) (m : Marks) : (firstAnswer k t a x m s).comp.markTimer = s.comp.markTimer := by unfold firstAnswer; simp
@[simp] theorem firstAnswer_comp_lastRefresh (k : Fin 256) (t : Fin 16) (a : Answer) (x : Time) (m : Marks) : (firstAnswer k t a x m s).comp.lastRefresh = s.comp.lastRefresh := by unfold firstAnswer; simp
@[simp] theorem firstAnswer_comp_countdownRunning (k : Fin 256) (t : Fin 16) (a : Answer) (x : Time) (m : Marks) : (firstAnswer k t a x m s).comp.countdownRunning = s.comp.countdownRunning := by unfold firstAnswer; simp

@[simp] theorem acceptedChange_comp_front (k : Fin 256) (t : Fin 16) (o a : Answer) (x : Time) (m : Marks) : (acceptedChange k t o a x m s).comp.front = s.comp.front := by unfold acceptedChange; simp
@[simp] theorem acceptedChange_comp_freeze (k : Fin 256) (t : Fin 16) (o a : Answer) (x : Time) (m : Marks) : (acceptedChange k t o a x m s).comp.freeze = s.comp.freeze := by unfold acceptedChange; simp
@[simp] theorem acceptedChange_comp_curtain (k : Fin 256) (t : Fin 16) (o a : Answer) (x : Time) (m : Marks) : (acceptedChange k t o a x m s).comp.curtain = s.comp.curtain := by unfold acceptedChange; simp
@[simp] theorem acceptedChange_comp_sequences (k : Fin 256) (t : Fin 16) (o a : Answer) (x : Time) (m : Marks) : (acceptedChange k t o a x m s).comp.sequences = s.comp.sequences := by unfold acceptedChange; simp
@[simp] theorem acceptedChange_comp_steps (k : Fin 256) (t : Fin 16) (o a : Answer) (x : Time) (m : Marks) : (acceptedChange k t o a x m s).comp.steps = s.comp.steps := by unfold acceptedChange; simp
@[simp] theorem acceptedChange_comp_silent (k : Fin 256) (t : Fin 16) (o a : Answer) (x : Time) (m : Marks) : (acceptedChange k t o a x m s).comp.silent = s.comp.silent := by unfold acceptedChange; simp
@[simp] theorem acceptedChange_comp_silentTimer (k : Fin 256) (t : Fin 16) (o a : Answer) (x : Time) (m : Marks) : (acceptedChange k t o a x m s).comp.silentTimer = s.comp.silentTimer := by unfold acceptedChange; simp
@[simp] theorem acceptedChange_comp_markTimer (k : Fin 256) (t : Fin 16) (o a : Answer) (x : Time) (m : Marks) : (acceptedChange k t o a x m s).comp.markTimer = s.comp.markTimer := by unfold acceptedChange; simp
@[simp] theorem acceptedChange_comp_lastRefresh (k : Fin 256) (t : Fin 16) (o a : Answer) (x : Time) (m : Marks) : (acceptedChange k t o a x m s).comp.lastRefresh = s.comp.lastRefresh := by unfold acceptedChange; simp
@[simp] theorem acceptedChange_comp_countdownRunning (k : Fin 256) (t : Fin 16) (o a : Answer) (x : Time) (m : Marks) : (acceptedChange k t o a x m s).comp.countdownRunning = s.comp.countdownRunning := by unfold acceptedChange; simp

@[simp] theorem takeAnswer_comp_front (k : Fin 256) (t : Fin 16) (a : Answer) (x : Time) (m : Marks) : (takeAnswer k t a x m s).comp.front = s.comp.front := by unfold takeAnswer; (repeat' split) <;> simp
@[simp] theorem takeAnswer_comp_freeze (k : Fin 256) (t : Fin 16) (a : Answer) (x : Time) (m : Marks) : (takeAnswer k t a x m s).comp.freeze = s.comp.freeze := by unfold takeAnswer; (repeat' split) <;> simp
@[simp] theorem takeAnswer_comp_curtain (k : Fin 256) (t : Fin 16) (a : Answer) (x : Time) (m : Marks) : (takeAnswer k t a x m s).comp.curtain = s.comp.curtain := by unfold takeAnswer; (repeat' split) <;> simp
@[simp] theorem takeAnswer_comp_sequences (k : Fin 256) (t : Fin 16) (a : Answer) (x : Time) (m : Marks) : (takeAnswer k t a x m s).comp.sequences = s.comp.sequences := by unfold takeAnswer; (repeat' split) <;> simp
@[simp] theorem takeAnswer_comp_steps (k : Fin 256) (t : Fin 16) (a : Answer) (x : Time) (m : Marks) : (takeAnswer k t a x m s).comp.steps = s.comp.steps := by unfold takeAnswer; (repeat' split) <;> simp
@[simp] theorem takeAnswer_comp_silent (k : Fin 256) (t : Fin 16) (a : Answer) (x : Time) (m : Marks) : (takeAnswer k t a x m s).comp.silent = s.comp.silent := by unfold takeAnswer; (repeat' split) <;> simp
@[simp] theorem takeAnswer_comp_silentTimer (k : Fin 256) (t : Fin 16) (a : Answer) (x : Time) (m : Marks) : (takeAnswer k t a x m s).comp.silentTimer = s.comp.silentTimer := by unfold takeAnswer; (repeat' split) <;> simp
@[simp] theorem takeAnswer_comp_markTimer (k : Fin 256) (t : Fin 16) (a : Answer) (x : Time) (m : Marks) : (takeAnswer k t a x m s).comp.markTimer = s.comp.markTimer := by unfold takeAnswer; (repeat' split) <;> simp
@[simp] theorem takeAnswer_comp_lastRefresh (k : Fin 256) (t : Fin 16) (a : Answer) (x : Time) (m : Marks) : (takeAnswer k t a x m s).comp.lastRefresh = s.comp.lastRefresh := by unfold takeAnswer; (repeat' split) <;> simp
@[simp] theorem takeAnswer_comp_countdownRunning (k : Fin 256) (t : Fin 16) (a : Answer) (x : Time) (m : Marks) : (takeAnswer k t a x m s).comp.countdownRunning = s.comp.countdownRunning := by unfold takeAnswer; (repeat' split) <;> simp

@[simp] theorem judgePress_comp_front (k : Fin 256) (t : Option (Fin 16)) (a : Option Answer) (x : Time) (m : Marks) : (judgePress k t a x m s).comp.front = s.comp.front := by unfold judgePress; (repeat' split) <;> simp
@[simp] theorem judgePress_comp_freeze (k : Fin 256) (t : Option (Fin 16)) (a : Option Answer) (x : Time) (m : Marks) : (judgePress k t a x m s).comp.freeze = s.comp.freeze := by unfold judgePress; (repeat' split) <;> simp
@[simp] theorem judgePress_comp_curtain (k : Fin 256) (t : Option (Fin 16)) (a : Option Answer) (x : Time) (m : Marks) : (judgePress k t a x m s).comp.curtain = s.comp.curtain := by unfold judgePress; (repeat' split) <;> simp
@[simp] theorem judgePress_comp_sequences (k : Fin 256) (t : Option (Fin 16)) (a : Option Answer) (x : Time) (m : Marks) : (judgePress k t a x m s).comp.sequences = s.comp.sequences := by unfold judgePress; (repeat' split) <;> simp
@[simp] theorem judgePress_comp_steps (k : Fin 256) (t : Option (Fin 16)) (a : Option Answer) (x : Time) (m : Marks) : (judgePress k t a x m s).comp.steps = s.comp.steps := by unfold judgePress; (repeat' split) <;> simp
@[simp] theorem judgePress_comp_silent (k : Fin 256) (t : Option (Fin 16)) (a : Option Answer) (x : Time) (m : Marks) : (judgePress k t a x m s).comp.silent = s.comp.silent := by unfold judgePress; (repeat' split) <;> simp
@[simp] theorem judgePress_comp_silentTimer (k : Fin 256) (t : Option (Fin 16)) (a : Option Answer) (x : Time) (m : Marks) : (judgePress k t a x m s).comp.silentTimer = s.comp.silentTimer := by unfold judgePress; (repeat' split) <;> simp
@[simp] theorem judgePress_comp_markTimer (k : Fin 256) (t : Option (Fin 16)) (a : Option Answer) (x : Time) (m : Marks) : (judgePress k t a x m s).comp.markTimer = s.comp.markTimer := by unfold judgePress; (repeat' split) <;> simp
@[simp] theorem judgePress_comp_lastRefresh (k : Fin 256) (t : Option (Fin 16)) (a : Option Answer) (x : Time) (m : Marks) : (judgePress k t a x m s).comp.lastRefresh = s.comp.lastRefresh := by unfold judgePress; (repeat' split) <;> simp
@[simp] theorem judgePress_comp_countdownRunning (k : Fin 256) (t : Option (Fin 16)) (a : Option Answer) (x : Time) (m : Marks) : (judgePress k t a x m s).comp.countdownRunning = s.comp.countdownRunning := by unfold judgePress; (repeat' split) <;> simp

@[simp] theorem routeKey_comp_front (k : Fin 256) (t : Option (Fin 16)) (key : Byte) (x : Time) (m : Marks) : (routeKey k t key x m s).comp.front = s.comp.front := by unfold routeKey; (repeat' split) <;> simp
@[simp] theorem routeKey_comp_freeze (k : Fin 256) (t : Option (Fin 16)) (key : Byte) (x : Time) (m : Marks) : (routeKey k t key x m s).comp.freeze = s.comp.freeze := by unfold routeKey; (repeat' split) <;> simp
@[simp] theorem routeKey_comp_curtain (k : Fin 256) (t : Option (Fin 16)) (key : Byte) (x : Time) (m : Marks) : (routeKey k t key x m s).comp.curtain = s.comp.curtain := by unfold routeKey; (repeat' split) <;> simp
@[simp] theorem routeKey_comp_sequences (k : Fin 256) (t : Option (Fin 16)) (key : Byte) (x : Time) (m : Marks) : (routeKey k t key x m s).comp.sequences = s.comp.sequences := by unfold routeKey; (repeat' split) <;> simp
@[simp] theorem routeKey_comp_steps (k : Fin 256) (t : Option (Fin 16)) (key : Byte) (x : Time) (m : Marks) : (routeKey k t key x m s).comp.steps = s.comp.steps := by unfold routeKey; (repeat' split) <;> simp
@[simp] theorem routeKey_comp_silent (k : Fin 256) (t : Option (Fin 16)) (key : Byte) (x : Time) (m : Marks) : (routeKey k t key x m s).comp.silent = s.comp.silent := by unfold routeKey; (repeat' split) <;> simp
@[simp] theorem routeKey_comp_silentTimer (k : Fin 256) (t : Option (Fin 16)) (key : Byte) (x : Time) (m : Marks) : (routeKey k t key x m s).comp.silentTimer = s.comp.silentTimer := by unfold routeKey; (repeat' split) <;> simp
@[simp] theorem routeKey_comp_markTimer (k : Fin 256) (t : Option (Fin 16)) (key : Byte) (x : Time) (m : Marks) : (routeKey k t key x m s).comp.markTimer = s.comp.markTimer := by unfold routeKey; (repeat' split) <;> simp
@[simp] theorem routeKey_comp_lastRefresh (k : Fin 256) (t : Option (Fin 16)) (key : Byte) (x : Time) (m : Marks) : (routeKey k t key x m s).comp.lastRefresh = s.comp.lastRefresh := by unfold routeKey; (repeat' split) <;> simp
@[simp] theorem routeKey_comp_countdownRunning (k : Fin 256) (t : Option (Fin 16)) (key : Byte) (x : Time) (m : Marks) : (routeKey k t key x m s).comp.countdownRunning = s.comp.countdownRunning := by unfold routeKey; (repeat' split) <;> simp

@[simp] theorem routeDigits_comp_front (k : Fin 256) (t : Option (Fin 16)) (v : Nat) (x : Time) (m : Marks) : (routeDigits k t v x m s).comp.front = s.comp.front := by unfold routeDigits; (repeat' split) <;> simp
@[simp] theorem routeDigits_comp_freeze (k : Fin 256) (t : Option (Fin 16)) (v : Nat) (x : Time) (m : Marks) : (routeDigits k t v x m s).comp.freeze = s.comp.freeze := by unfold routeDigits; (repeat' split) <;> simp
@[simp] theorem routeDigits_comp_curtain (k : Fin 256) (t : Option (Fin 16)) (v : Nat) (x : Time) (m : Marks) : (routeDigits k t v x m s).comp.curtain = s.comp.curtain := by unfold routeDigits; (repeat' split) <;> simp
@[simp] theorem routeDigits_comp_sequences (k : Fin 256) (t : Option (Fin 16)) (v : Nat) (x : Time) (m : Marks) : (routeDigits k t v x m s).comp.sequences = s.comp.sequences := by unfold routeDigits; (repeat' split) <;> simp
@[simp] theorem routeDigits_comp_steps (k : Fin 256) (t : Option (Fin 16)) (v : Nat) (x : Time) (m : Marks) : (routeDigits k t v x m s).comp.steps = s.comp.steps := by unfold routeDigits; (repeat' split) <;> simp
@[simp] theorem routeDigits_comp_silent (k : Fin 256) (t : Option (Fin 16)) (v : Nat) (x : Time) (m : Marks) : (routeDigits k t v x m s).comp.silent = s.comp.silent := by unfold routeDigits; (repeat' split) <;> simp
@[simp] theorem routeDigits_comp_silentTimer (k : Fin 256) (t : Option (Fin 16)) (v : Nat) (x : Time) (m : Marks) : (routeDigits k t v x m s).comp.silentTimer = s.comp.silentTimer := by unfold routeDigits; (repeat' split) <;> simp
@[simp] theorem routeDigits_comp_markTimer (k : Fin 256) (t : Option (Fin 16)) (v : Nat) (x : Time) (m : Marks) : (routeDigits k t v x m s).comp.markTimer = s.comp.markTimer := by unfold routeDigits; (repeat' split) <;> simp
@[simp] theorem routeDigits_comp_lastRefresh (k : Fin 256) (t : Option (Fin 16)) (v : Nat) (x : Time) (m : Marks) : (routeDigits k t v x m s).comp.lastRefresh = s.comp.lastRefresh := by unfold routeDigits; (repeat' split) <;> simp
@[simp] theorem routeDigits_comp_countdownRunning (k : Fin 256) (t : Option (Fin 16)) (v : Nat) (x : Time) (m : Marks) : (routeDigits k t v x m s).comp.countdownRunning = s.comp.countdownRunning := by unfold routeDigits; (repeat' split) <;> simp

@[simp] theorem takeFrame_comp_front (f : Stamped) : (takeFrame f s).comp.front = s.comp.front := by
  unfold takeFrame
  simp [takePress]
  (repeat' split) <;> simp
@[simp] theorem takeFrame_comp_freeze (f : Stamped) : (takeFrame f s).comp.freeze = s.comp.freeze := by
  unfold takeFrame
  simp [takePress]
  (repeat' split) <;> simp
@[simp] theorem takeFrame_comp_curtain (f : Stamped) : (takeFrame f s).comp.curtain = s.comp.curtain := by
  unfold takeFrame
  simp [takePress]
  (repeat' split) <;> simp
@[simp] theorem takeFrame_comp_sequences (f : Stamped) : (takeFrame f s).comp.sequences = s.comp.sequences := by
  unfold takeFrame
  simp [takePress]
  (repeat' split) <;> simp
@[simp] theorem takeFrame_comp_steps (f : Stamped) : (takeFrame f s).comp.steps = s.comp.steps := by
  unfold takeFrame
  simp [takePress]
  (repeat' split) <;> simp
@[simp] theorem takeFrame_comp_silent (f : Stamped) : (takeFrame f s).comp.silent = s.comp.silent := by
  unfold takeFrame
  simp [takePress]
  (repeat' split) <;> simp
@[simp] theorem takeFrame_comp_silentTimer (f : Stamped) : (takeFrame f s).comp.silentTimer = s.comp.silentTimer := by
  unfold takeFrame
  simp [takePress]
  (repeat' split) <;> simp
@[simp] theorem takeFrame_comp_markTimer (f : Stamped) : (takeFrame f s).comp.markTimer = s.comp.markTimer := by
  unfold takeFrame
  simp [takePress]
  (repeat' split) <;> simp
@[simp] theorem takeFrame_comp_lastRefresh (f : Stamped) : (takeFrame f s).comp.lastRefresh = s.comp.lastRefresh := by
  unfold takeFrame
  simp [takePress]
  (repeat' split) <;> simp
@[simp] theorem takeFrame_comp_countdownRunning (f : Stamped) : (takeFrame f s).comp.countdownRunning = s.comp.countdownRunning := by
  unfold takeFrame
  simp [takePress]
  (repeat' split) <;> simp

@[simp] theorem handOff_comp_front (f : Stamped) : (handOff f s).comp.front = s.comp.front := by unfold handOff; simp
@[simp] theorem handOff_comp_freeze (f : Stamped) : (handOff f s).comp.freeze = s.comp.freeze := by unfold handOff; simp
@[simp] theorem handOff_comp_curtain (f : Stamped) : (handOff f s).comp.curtain = s.comp.curtain := by unfold handOff; simp
@[simp] theorem handOff_comp_sequences (f : Stamped) : (handOff f s).comp.sequences = s.comp.sequences := by unfold handOff; simp
@[simp] theorem handOff_comp_steps (f : Stamped) : (handOff f s).comp.steps = s.comp.steps := by unfold handOff; simp
@[simp] theorem handOff_comp_silent (f : Stamped) : (handOff f s).comp.silent = s.comp.silent := by unfold handOff; simp
@[simp] theorem handOff_comp_silentTimer (f : Stamped) : (handOff f s).comp.silentTimer = s.comp.silentTimer := by unfold handOff; simp
@[simp] theorem handOff_comp_markTimer (f : Stamped) : (handOff f s).comp.markTimer = s.comp.markTimer := by unfold handOff; simp
@[simp] theorem handOff_comp_lastRefresh (f : Stamped) : (handOff f s).comp.lastRefresh = s.comp.lastRefresh := by unfold handOff; simp
@[simp] theorem handOff_comp_countdownRunning (f : Stamped) : (handOff f s).comp.countdownRunning = s.comp.countdownRunning := by unfold handOff; simp

@[simp] theorem enterStep_comp_front (p : Playing) (n : Nat) : (enterStep p n s).comp.front = s.comp.front := by unfold enterStep; simp
@[simp] theorem enterStep_comp_freeze (p : Playing) (n : Nat) : (enterStep p n s).comp.freeze = s.comp.freeze := by unfold enterStep; simp
@[simp] theorem enterStep_comp_curtain (p : Playing) (n : Nat) : (enterStep p n s).comp.curtain = s.comp.curtain := by unfold enterStep; simp
@[simp] theorem enterStep_comp_sequences (p : Playing) (n : Nat) : (enterStep p n s).comp.sequences = s.comp.sequences := by unfold enterStep; simp
@[simp] theorem enterStep_comp_steps (p : Playing) (n : Nat) : (enterStep p n s).comp.steps = s.comp.steps := by unfold enterStep; simp
@[simp] theorem enterStep_comp_silent (p : Playing) (n : Nat) : (enterStep p n s).comp.silent = s.comp.silent := by unfold enterStep; simp
@[simp] theorem enterStep_comp_silentTimer (p : Playing) (n : Nat) : (enterStep p n s).comp.silentTimer = s.comp.silentTimer := by unfold enterStep; simp
@[simp] theorem enterStep_comp_markTimer (p : Playing) (n : Nat) : (enterStep p n s).comp.markTimer = s.comp.markTimer := by unfold enterStep; simp
@[simp] theorem enterStep_comp_lastRefresh (p : Playing) (n : Nat) : (enterStep p n s).comp.lastRefresh = s.comp.lastRefresh := by unfold enterStep; simp
@[simp] theorem enterStep_comp_countdownRunning (p : Playing) (n : Nat) : (enterStep p n s).comp.countdownRunning = s.comp.countdownRunning := by unfold enterStep; simp

@[simp] theorem playSequence_comp_front (n : Fin 16) : (playSequence n s).comp.front = s.comp.front := by unfold playSequence; simp
@[simp] theorem playSequence_comp_freeze (n : Fin 16) : (playSequence n s).comp.freeze = s.comp.freeze := by unfold playSequence; simp
@[simp] theorem playSequence_comp_curtain (n : Fin 16) : (playSequence n s).comp.curtain = s.comp.curtain := by unfold playSequence; simp
@[simp] theorem playSequence_comp_sequences (n : Fin 16) : (playSequence n s).comp.sequences = s.comp.sequences := by unfold playSequence; simp
@[simp] theorem playSequence_comp_steps (n : Fin 16) : (playSequence n s).comp.steps = s.comp.steps := by unfold playSequence; simp
@[simp] theorem playSequence_comp_silent (n : Fin 16) : (playSequence n s).comp.silent = s.comp.silent := by unfold playSequence; simp
@[simp] theorem playSequence_comp_silentTimer (n : Fin 16) : (playSequence n s).comp.silentTimer = s.comp.silentTimer := by unfold playSequence; simp
@[simp] theorem playSequence_comp_markTimer (n : Fin 16) : (playSequence n s).comp.markTimer = s.comp.markTimer := by unfold playSequence; simp
@[simp] theorem playSequence_comp_lastRefresh (n : Fin 16) : (playSequence n s).comp.lastRefresh = s.comp.lastRefresh := by unfold playSequence; simp
@[simp] theorem playSequence_comp_countdownRunning (n : Fin 16) : (playSequence n s).comp.countdownRunning = s.comp.countdownRunning := by unfold playSequence; simp

@[simp] theorem revealAction_comp_front (n : Byte) : ((revealAction n s).1).comp.front = s.comp.front := by unfold revealAction; (repeat' split) <;> simp
@[simp] theorem revealAction_comp_freeze (n : Byte) : ((revealAction n s).1).comp.freeze = s.comp.freeze := by unfold revealAction; (repeat' split) <;> simp
@[simp] theorem revealAction_comp_curtain (n : Byte) : ((revealAction n s).1).comp.curtain = s.comp.curtain := by unfold revealAction; (repeat' split) <;> simp
@[simp] theorem revealAction_comp_sequences (n : Byte) : ((revealAction n s).1).comp.sequences = s.comp.sequences := by unfold revealAction; (repeat' split) <;> simp
@[simp] theorem revealAction_comp_steps (n : Byte) : ((revealAction n s).1).comp.steps = s.comp.steps := by unfold revealAction; (repeat' split) <;> simp
@[simp] theorem revealAction_comp_silent (n : Byte) : ((revealAction n s).1).comp.silent = s.comp.silent := by unfold revealAction; (repeat' split) <;> simp
@[simp] theorem revealAction_comp_silentTimer (n : Byte) : ((revealAction n s).1).comp.silentTimer = s.comp.silentTimer := by unfold revealAction; (repeat' split) <;> simp
@[simp] theorem revealAction_comp_markTimer (n : Byte) : ((revealAction n s).1).comp.markTimer = s.comp.markTimer := by unfold revealAction; (repeat' split) <;> simp
@[simp] theorem revealAction_comp_lastRefresh (n : Byte) : ((revealAction n s).1).comp.lastRefresh = s.comp.lastRefresh := by unfold revealAction; (repeat' split) <;> simp
@[simp] theorem revealAction_comp_countdownRunning (n : Byte) : ((revealAction n s).1).comp.countdownRunning = s.comp.countdownRunning := by unfold revealAction; (repeat' split) <;> simp

@[simp] theorem revealAfterCommit_comp_front (r : Option (Fin 16)) : (revealAfterCommit r s).comp.front = s.comp.front := by unfold revealAfterCommit; (repeat' split) <;> simp
@[simp] theorem revealAfterCommit_comp_freeze (r : Option (Fin 16)) : (revealAfterCommit r s).comp.freeze = s.comp.freeze := by unfold revealAfterCommit; (repeat' split) <;> simp
@[simp] theorem revealAfterCommit_comp_curtain (r : Option (Fin 16)) : (revealAfterCommit r s).comp.curtain = s.comp.curtain := by unfold revealAfterCommit; (repeat' split) <;> simp
@[simp] theorem revealAfterCommit_comp_sequences (r : Option (Fin 16)) : (revealAfterCommit r s).comp.sequences = s.comp.sequences := by unfold revealAfterCommit; (repeat' split) <;> simp
@[simp] theorem revealAfterCommit_comp_steps (r : Option (Fin 16)) : (revealAfterCommit r s).comp.steps = s.comp.steps := by unfold revealAfterCommit; (repeat' split) <;> simp
@[simp] theorem revealAfterCommit_comp_silent (r : Option (Fin 16)) : (revealAfterCommit r s).comp.silent = s.comp.silent := by unfold revealAfterCommit; (repeat' split) <;> simp
@[simp] theorem revealAfterCommit_comp_silentTimer (r : Option (Fin 16)) : (revealAfterCommit r s).comp.silentTimer = s.comp.silentTimer := by unfold revealAfterCommit; (repeat' split) <;> simp
@[simp] theorem revealAfterCommit_comp_markTimer (r : Option (Fin 16)) : (revealAfterCommit r s).comp.markTimer = s.comp.markTimer := by unfold revealAfterCommit; (repeat' split) <;> simp
@[simp] theorem revealAfterCommit_comp_lastRefresh (r : Option (Fin 16)) : (revealAfterCommit r s).comp.lastRefresh = s.comp.lastRefresh := by unfold revealAfterCommit; (repeat' split) <;> simp
@[simp] theorem revealAfterCommit_comp_countdownRunning (r : Option (Fin 16)) : (revealAfterCommit r s).comp.countdownRunning = s.comp.countdownRunning := by unfold revealAfterCommit; (repeat' split) <;> simp

@[simp] theorem stopSequence_comp_front : ((stopSequence s).1).comp.front = s.comp.front := by unfold stopSequence; (repeat' split) <;> simp
@[simp] theorem stopSequence_comp_freeze : ((stopSequence s).1).comp.freeze = s.comp.freeze := by unfold stopSequence; (repeat' split) <;> simp
@[simp] theorem stopSequence_comp_curtain : ((stopSequence s).1).comp.curtain = s.comp.curtain := by unfold stopSequence; (repeat' split) <;> simp
@[simp] theorem stopSequence_comp_sequences : ((stopSequence s).1).comp.sequences = s.comp.sequences := by unfold stopSequence; (repeat' split) <;> simp
@[simp] theorem stopSequence_comp_steps : ((stopSequence s).1).comp.steps = s.comp.steps := by unfold stopSequence; (repeat' split) <;> simp
@[simp] theorem stopSequence_comp_silent : ((stopSequence s).1).comp.silent = s.comp.silent := by unfold stopSequence; (repeat' split) <;> simp
@[simp] theorem stopSequence_comp_silentTimer : ((stopSequence s).1).comp.silentTimer = s.comp.silentTimer := by unfold stopSequence; (repeat' split) <;> simp
@[simp] theorem stopSequence_comp_markTimer : ((stopSequence s).1).comp.markTimer = s.comp.markTimer := by unfold stopSequence; (repeat' split) <;> simp
@[simp] theorem stopSequence_comp_lastRefresh : ((stopSequence s).1).comp.lastRefresh = s.comp.lastRefresh := by unfold stopSequence; (repeat' split) <;> simp
@[simp] theorem stopSequence_comp_countdownRunning : ((stopSequence s).1).comp.countdownRunning = s.comp.countdownRunning := by unfold stopSequence; (repeat' split) <;> simp

@[simp] theorem setResting_comp_front (v : View) : (setResting v s).comp.front = s.comp.front := by unfold setResting; (repeat' split) <;> simp
@[simp] theorem setResting_comp_freeze (v : View) : (setResting v s).comp.freeze = s.comp.freeze := by unfold setResting; (repeat' split) <;> simp
@[simp] theorem setResting_comp_curtain (v : View) : (setResting v s).comp.curtain = s.comp.curtain := by unfold setResting; (repeat' split) <;> simp
@[simp] theorem setResting_comp_sequences (v : View) : (setResting v s).comp.sequences = s.comp.sequences := by unfold setResting; (repeat' split) <;> simp
@[simp] theorem setResting_comp_steps (v : View) : (setResting v s).comp.steps = s.comp.steps := by unfold setResting; (repeat' split) <;> simp
@[simp] theorem setResting_comp_silent (v : View) : (setResting v s).comp.silent = s.comp.silent := by unfold setResting; (repeat' split) <;> simp
@[simp] theorem setResting_comp_silentTimer (v : View) : (setResting v s).comp.silentTimer = s.comp.silentTimer := by unfold setResting; (repeat' split) <;> simp
@[simp] theorem setResting_comp_markTimer (v : View) : (setResting v s).comp.markTimer = s.comp.markTimer := by unfold setResting; (repeat' split) <;> simp
@[simp] theorem setResting_comp_lastRefresh (v : View) : (setResting v s).comp.lastRefresh = s.comp.lastRefresh := by unfold setResting; (repeat' split) <;> simp
@[simp] theorem setResting_comp_countdownRunning (v : View) : (setResting v s).comp.countdownRunning = s.comp.countdownRunning := by unfold setResting; (repeat' split) <;> simp

@[simp] theorem restingAction_comp_front (v : Byte) : ((restingAction v s).1).comp.front = s.comp.front := by unfold restingAction; (repeat' split) <;> simp
@[simp] theorem restingAction_comp_freeze (v : Byte) : ((restingAction v s).1).comp.freeze = s.comp.freeze := by unfold restingAction; (repeat' split) <;> simp
@[simp] theorem restingAction_comp_curtain (v : Byte) : ((restingAction v s).1).comp.curtain = s.comp.curtain := by unfold restingAction; (repeat' split) <;> simp
@[simp] theorem restingAction_comp_sequences (v : Byte) : ((restingAction v s).1).comp.sequences = s.comp.sequences := by unfold restingAction; (repeat' split) <;> simp
@[simp] theorem restingAction_comp_steps (v : Byte) : ((restingAction v s).1).comp.steps = s.comp.steps := by unfold restingAction; (repeat' split) <;> simp
@[simp] theorem restingAction_comp_silent (v : Byte) : ((restingAction v s).1).comp.silent = s.comp.silent := by unfold restingAction; (repeat' split) <;> simp
@[simp] theorem restingAction_comp_silentTimer (v : Byte) : ((restingAction v s).1).comp.silentTimer = s.comp.silentTimer := by unfold restingAction; (repeat' split) <;> simp
@[simp] theorem restingAction_comp_markTimer (v : Byte) : ((restingAction v s).1).comp.markTimer = s.comp.markTimer := by unfold restingAction; (repeat' split) <;> simp
@[simp] theorem restingAction_comp_lastRefresh (v : Byte) : ((restingAction v s).1).comp.lastRefresh = s.comp.lastRefresh := by unfold restingAction; (repeat' split) <;> simp
@[simp] theorem restingAction_comp_countdownRunning (v : Byte) : ((restingAction v s).1).comp.countdownRunning = s.comp.countdownRunning := by unfold restingAction; (repeat' split) <;> simp

@[simp] theorem freezeAction_comp_front : ((freezeAction s).1).comp.front = s.comp.front := by unfold freezeAction; simp
@[simp] theorem freezeAction_comp_curtain : ((freezeAction s).1).comp.curtain = s.comp.curtain := by unfold freezeAction; simp
@[simp] theorem freezeAction_comp_sequences : ((freezeAction s).1).comp.sequences = s.comp.sequences := by unfold freezeAction; simp
@[simp] theorem freezeAction_comp_steps : ((freezeAction s).1).comp.steps = s.comp.steps := by unfold freezeAction; simp
@[simp] theorem freezeAction_comp_silent : ((freezeAction s).1).comp.silent = s.comp.silent := by unfold freezeAction; simp
@[simp] theorem freezeAction_comp_silentTimer : ((freezeAction s).1).comp.silentTimer = s.comp.silentTimer := by unfold freezeAction; simp
@[simp] theorem freezeAction_comp_markTimer : ((freezeAction s).1).comp.markTimer = s.comp.markTimer := by unfold freezeAction; simp
@[simp] theorem freezeAction_comp_lastRefresh : ((freezeAction s).1).comp.lastRefresh = s.comp.lastRefresh := by unfold freezeAction; simp
@[simp] theorem freezeAction_comp_countdownRunning : ((freezeAction s).1).comp.countdownRunning = s.comp.countdownRunning := by unfold freezeAction; simp

@[simp] theorem thawAction_comp_front : ((thawAction s).1).comp.front = s.comp.front := by unfold thawAction; simp
@[simp] theorem thawAction_comp_curtain : ((thawAction s).1).comp.curtain = s.comp.curtain := by unfold thawAction; simp
@[simp] theorem thawAction_comp_sequences : ((thawAction s).1).comp.sequences = s.comp.sequences := by unfold thawAction; simp
@[simp] theorem thawAction_comp_steps : ((thawAction s).1).comp.steps = s.comp.steps := by unfold thawAction; simp
@[simp] theorem thawAction_comp_silent : ((thawAction s).1).comp.silent = s.comp.silent := by unfold thawAction; simp
@[simp] theorem thawAction_comp_silentTimer : ((thawAction s).1).comp.silentTimer = s.comp.silentTimer := by unfold thawAction; simp
@[simp] theorem thawAction_comp_markTimer : ((thawAction s).1).comp.markTimer = s.comp.markTimer := by unfold thawAction; simp
@[simp] theorem thawAction_comp_lastRefresh : ((thawAction s).1).comp.lastRefresh = s.comp.lastRefresh := by unfold thawAction; simp
@[simp] theorem thawAction_comp_countdownRunning : ((thawAction s).1).comp.countdownRunning = s.comp.countdownRunning := by unfold thawAction; simp

@[simp] theorem curtainOnAction_comp_front : ((curtainOnAction s).1).comp.front = s.comp.front := by unfold curtainOnAction; (repeat' split) <;> simp
@[simp] theorem curtainOnAction_comp_freeze : ((curtainOnAction s).1).comp.freeze = s.comp.freeze := by unfold curtainOnAction; (repeat' split) <;> simp
@[simp] theorem curtainOnAction_comp_sequences : ((curtainOnAction s).1).comp.sequences = s.comp.sequences := by unfold curtainOnAction; (repeat' split) <;> simp
@[simp] theorem curtainOnAction_comp_steps : ((curtainOnAction s).1).comp.steps = s.comp.steps := by unfold curtainOnAction; (repeat' split) <;> simp
@[simp] theorem curtainOnAction_comp_silent : ((curtainOnAction s).1).comp.silent = s.comp.silent := by unfold curtainOnAction; (repeat' split) <;> simp
@[simp] theorem curtainOnAction_comp_silentTimer : ((curtainOnAction s).1).comp.silentTimer = s.comp.silentTimer := by unfold curtainOnAction; (repeat' split) <;> simp
@[simp] theorem curtainOnAction_comp_markTimer : ((curtainOnAction s).1).comp.markTimer = s.comp.markTimer := by unfold curtainOnAction; (repeat' split) <;> simp
@[simp] theorem curtainOnAction_comp_lastRefresh : ((curtainOnAction s).1).comp.lastRefresh = s.comp.lastRefresh := by unfold curtainOnAction; (repeat' split) <;> simp
@[simp] theorem curtainOnAction_comp_countdownRunning : ((curtainOnAction s).1).comp.countdownRunning = s.comp.countdownRunning := by unfold curtainOnAction; (repeat' split) <;> simp

@[simp] theorem curtainOffAction_comp_front : ((curtainOffAction s).1).comp.front = s.comp.front := by unfold curtainOffAction; (repeat' split) <;> simp
@[simp] theorem curtainOffAction_comp_freeze : ((curtainOffAction s).1).comp.freeze = s.comp.freeze := by unfold curtainOffAction; (repeat' split) <;> simp
@[simp] theorem curtainOffAction_comp_sequences : ((curtainOffAction s).1).comp.sequences = s.comp.sequences := by unfold curtainOffAction; (repeat' split) <;> simp
@[simp] theorem curtainOffAction_comp_steps : ((curtainOffAction s).1).comp.steps = s.comp.steps := by unfold curtainOffAction; (repeat' split) <;> simp
@[simp] theorem curtainOffAction_comp_silent : ((curtainOffAction s).1).comp.silent = s.comp.silent := by unfold curtainOffAction; (repeat' split) <;> simp
@[simp] theorem curtainOffAction_comp_silentTimer : ((curtainOffAction s).1).comp.silentTimer = s.comp.silentTimer := by unfold curtainOffAction; (repeat' split) <;> simp
@[simp] theorem curtainOffAction_comp_markTimer : ((curtainOffAction s).1).comp.markTimer = s.comp.markTimer := by unfold curtainOffAction; (repeat' split) <;> simp
@[simp] theorem curtainOffAction_comp_lastRefresh : ((curtainOffAction s).1).comp.lastRefresh = s.comp.lastRefresh := by unfold curtainOffAction; (repeat' split) <;> simp
@[simp] theorem curtainOffAction_comp_countdownRunning : ((curtainOffAction s).1).comp.countdownRunning = s.comp.countdownRunning := by unfold curtainOffAction; (repeat' split) <;> simp

@[simp] theorem swapBuffers_comp_freeze (r : Option Byte) : (swapBuffers r s).comp.freeze = s.comp.freeze := by unfold swapBuffers; (repeat' split) <;> simp
@[simp] theorem swapBuffers_comp_curtain (r : Option Byte) : (swapBuffers r s).comp.curtain = s.comp.curtain := by unfold swapBuffers; (repeat' split) <;> simp
@[simp] theorem swapBuffers_comp_sequences (r : Option Byte) : (swapBuffers r s).comp.sequences = s.comp.sequences := by unfold swapBuffers; (repeat' split) <;> simp
@[simp] theorem swapBuffers_comp_steps (r : Option Byte) : (swapBuffers r s).comp.steps = s.comp.steps := by unfold swapBuffers; (repeat' split) <;> simp
@[simp] theorem swapBuffers_comp_silent (r : Option Byte) : (swapBuffers r s).comp.silent = s.comp.silent := by unfold swapBuffers; (repeat' split) <;> simp
@[simp] theorem swapBuffers_comp_silentTimer (r : Option Byte) : (swapBuffers r s).comp.silentTimer = s.comp.silentTimer := by unfold swapBuffers; (repeat' split) <;> simp
@[simp] theorem swapBuffers_comp_markTimer (r : Option Byte) : (swapBuffers r s).comp.markTimer = s.comp.markTimer := by unfold swapBuffers; (repeat' split) <;> simp
@[simp] theorem swapBuffers_comp_lastRefresh (r : Option Byte) : (swapBuffers r s).comp.lastRefresh = s.comp.lastRefresh := by unfold swapBuffers; (repeat' split) <;> simp
@[simp] theorem swapBuffers_comp_countdownRunning (r : Option Byte) : (swapBuffers r s).comp.countdownRunning = s.comp.countdownRunning := by unfold swapBuffers; (repeat' split) <;> simp

@[simp] theorem stepRunsOut_comp_front (p : Playing) : (stepRunsOut p s).comp.front = s.comp.front := by unfold stepRunsOut; (repeat' split) <;> simp
@[simp] theorem stepRunsOut_comp_freeze (p : Playing) : (stepRunsOut p s).comp.freeze = s.comp.freeze := by unfold stepRunsOut; (repeat' split) <;> simp
@[simp] theorem stepRunsOut_comp_curtain (p : Playing) : (stepRunsOut p s).comp.curtain = s.comp.curtain := by unfold stepRunsOut; (repeat' split) <;> simp
@[simp] theorem stepRunsOut_comp_sequences (p : Playing) : (stepRunsOut p s).comp.sequences = s.comp.sequences := by unfold stepRunsOut; (repeat' split) <;> simp
@[simp] theorem stepRunsOut_comp_steps (p : Playing) : (stepRunsOut p s).comp.steps = s.comp.steps := by unfold stepRunsOut; (repeat' split) <;> simp
@[simp] theorem stepRunsOut_comp_silent (p : Playing) : (stepRunsOut p s).comp.silent = s.comp.silent := by unfold stepRunsOut; (repeat' split) <;> simp
@[simp] theorem stepRunsOut_comp_silentTimer (p : Playing) : (stepRunsOut p s).comp.silentTimer = s.comp.silentTimer := by unfold stepRunsOut; (repeat' split) <;> simp
@[simp] theorem stepRunsOut_comp_markTimer (p : Playing) : (stepRunsOut p s).comp.markTimer = s.comp.markTimer := by unfold stepRunsOut; (repeat' split) <;> simp
@[simp] theorem stepRunsOut_comp_lastRefresh (p : Playing) : (stepRunsOut p s).comp.lastRefresh = s.comp.lastRefresh := by unfold stepRunsOut; (repeat' split) <;> simp
@[simp] theorem stepRunsOut_comp_countdownRunning (p : Playing) : (stepRunsOut p s).comp.countdownRunning = s.comp.countdownRunning := by unfold stepRunsOut; (repeat' split) <;> simp

@[simp] theorem countStep_comp_front : (countStep s).comp.front = s.comp.front := by unfold countStep; (repeat' split) <;> simp
@[simp] theorem countStep_comp_freeze : (countStep s).comp.freeze = s.comp.freeze := by unfold countStep; (repeat' split) <;> simp
@[simp] theorem countStep_comp_curtain : (countStep s).comp.curtain = s.comp.curtain := by unfold countStep; (repeat' split) <;> simp
@[simp] theorem countStep_comp_sequences : (countStep s).comp.sequences = s.comp.sequences := by unfold countStep; (repeat' split) <;> simp
@[simp] theorem countStep_comp_steps : (countStep s).comp.steps = s.comp.steps := by unfold countStep; (repeat' split) <;> simp
@[simp] theorem countStep_comp_silent : (countStep s).comp.silent = s.comp.silent := by unfold countStep; (repeat' split) <;> simp
@[simp] theorem countStep_comp_silentTimer : (countStep s).comp.silentTimer = s.comp.silentTimer := by unfold countStep; (repeat' split) <;> simp
@[simp] theorem countStep_comp_markTimer : (countStep s).comp.markTimer = s.comp.markTimer := by unfold countStep; (repeat' split) <;> simp
@[simp] theorem countStep_comp_lastRefresh : (countStep s).comp.lastRefresh = s.comp.lastRefresh := by unfold countStep; (repeat' split) <;> simp
@[simp] theorem countStep_comp_countdownRunning : (countStep s).comp.countdownRunning = s.comp.countdownRunning := by unfold countStep; (repeat' split) <;> simp

@[simp] theorem countdownRule_comp_front : (countdownRule s).comp.front = s.comp.front := by
  simp only [countdownRule]
  (repeat' split) <;> simp
@[simp] theorem countdownRule_comp_freeze : (countdownRule s).comp.freeze = s.comp.freeze := by
  simp only [countdownRule]
  (repeat' split) <;> simp
@[simp] theorem countdownRule_comp_curtain : (countdownRule s).comp.curtain = s.comp.curtain := by
  simp only [countdownRule]
  (repeat' split) <;> simp
@[simp] theorem countdownRule_comp_sequences : (countdownRule s).comp.sequences = s.comp.sequences := by
  simp only [countdownRule]
  (repeat' split) <;> simp
@[simp] theorem countdownRule_comp_steps : (countdownRule s).comp.steps = s.comp.steps := by
  simp only [countdownRule]
  (repeat' split) <;> simp
@[simp] theorem countdownRule_comp_silent : (countdownRule s).comp.silent = s.comp.silent := by
  simp only [countdownRule]
  (repeat' split) <;> simp
@[simp] theorem countdownRule_comp_silentTimer : (countdownRule s).comp.silentTimer = s.comp.silentTimer := by
  simp only [countdownRule]
  (repeat' split) <;> simp
@[simp] theorem countdownRule_comp_markTimer : (countdownRule s).comp.markTimer = s.comp.markTimer := by
  simp only [countdownRule]
  (repeat' split) <;> simp
@[simp] theorem countdownRule_comp_lastRefresh : (countdownRule s).comp.lastRefresh = s.comp.lastRefresh := by
  simp only [countdownRule]
  (repeat' split) <;> simp

@[simp] theorem markSteps_comp_freeze (r : Option Byte) : (markSteps r s).comp.freeze = s.comp.freeze := by unfold markSteps; simp
@[simp] theorem markSteps_comp_curtain (r : Option Byte) : (markSteps r s).comp.curtain = s.comp.curtain := by unfold markSteps; simp
@[simp] theorem markSteps_comp_sequences (r : Option Byte) : (markSteps r s).comp.sequences = s.comp.sequences := by unfold markSteps; simp
@[simp] theorem markSteps_comp_steps (r : Option Byte) : (markSteps r s).comp.steps = s.comp.steps := by unfold markSteps; simp
@[simp] theorem markSteps_comp_silent (r : Option Byte) : (markSteps r s).comp.silent = s.comp.silent := by unfold markSteps; simp
@[simp] theorem markSteps_comp_silentTimer (r : Option Byte) : (markSteps r s).comp.silentTimer = s.comp.silentTimer := by unfold markSteps; simp
@[simp] theorem markSteps_comp_markTimer (r : Option Byte) : (markSteps r s).comp.markTimer = s.comp.markTimer := by unfold markSteps; simp
@[simp] theorem markSteps_comp_lastRefresh (r : Option Byte) : (markSteps r s).comp.lastRefresh = s.comp.lastRefresh := by unfold markSteps; simp

@[simp] theorem markWall_comp_front (r : Byte) : (markWall r s).comp.front = s.comp.front := by unfold markWall; (repeat' split) <;> simp
@[simp] theorem markWall_comp_freeze (r : Byte) : (markWall r s).comp.freeze = s.comp.freeze := by unfold markWall; (repeat' split) <;> simp
@[simp] theorem markWall_comp_curtain (r : Byte) : (markWall r s).comp.curtain = s.comp.curtain := by unfold markWall; (repeat' split) <;> simp
@[simp] theorem markWall_comp_sequences (r : Byte) : (markWall r s).comp.sequences = s.comp.sequences := by unfold markWall; (repeat' split) <;> simp
@[simp] theorem markWall_comp_steps (r : Byte) : (markWall r s).comp.steps = s.comp.steps := by unfold markWall; (repeat' split) <;> simp
@[simp] theorem markWall_comp_countdownRunning (r : Byte) : (markWall r s).comp.countdownRunning = s.comp.countdownRunning := by unfold markWall; (repeat' split) <;> simp

@[simp] theorem takeMark_comp_freeze (r : Byte) : (takeMark r s).comp.freeze = s.comp.freeze := by unfold takeMark; simp
@[simp] theorem takeMark_comp_curtain (r : Byte) : (takeMark r s).comp.curtain = s.comp.curtain := by unfold takeMark; simp
@[simp] theorem takeMark_comp_sequences (r : Byte) : (takeMark r s).comp.sequences = s.comp.sequences := by unfold takeMark; simp
@[simp] theorem takeMark_comp_steps (r : Byte) : (takeMark r s).comp.steps = s.comp.steps := by unfold takeMark; simp

@[simp] theorem wallFallsSilent_comp_front : (wallFallsSilent s).comp.front = s.comp.front := by unfold wallFallsSilent; simp
@[simp] theorem wallFallsSilent_comp_freeze : (wallFallsSilent s).comp.freeze = s.comp.freeze := by unfold wallFallsSilent; simp
@[simp] theorem wallFallsSilent_comp_curtain : (wallFallsSilent s).comp.curtain = s.comp.curtain := by unfold wallFallsSilent; simp
@[simp] theorem wallFallsSilent_comp_sequences : (wallFallsSilent s).comp.sequences = s.comp.sequences := by unfold wallFallsSilent; simp
@[simp] theorem wallFallsSilent_comp_steps : (wallFallsSilent s).comp.steps = s.comp.steps := by unfold wallFallsSilent; simp
@[simp] theorem wallFallsSilent_comp_lastRefresh : (wallFallsSilent s).comp.lastRefresh = s.comp.lastRefresh := by unfold wallFallsSilent; simp
@[simp] theorem wallFallsSilent_comp_countdownRunning : (wallFallsSilent s).comp.countdownRunning = s.comp.countdownRunning := by unfold wallFallsSilent; simp

@[simp] theorem takeInternalMark_comp_freeze : (takeInternalMark s).comp.freeze = s.comp.freeze := by unfold takeInternalMark; simp
@[simp] theorem takeInternalMark_comp_curtain : (takeInternalMark s).comp.curtain = s.comp.curtain := by unfold takeInternalMark; simp
@[simp] theorem takeInternalMark_comp_sequences : (takeInternalMark s).comp.sequences = s.comp.sequences := by unfold takeInternalMark; simp
@[simp] theorem takeInternalMark_comp_steps : (takeInternalMark s).comp.steps = s.comp.steps := by unfold takeInternalMark; simp
@[simp] theorem takeInternalMark_comp_silent : (takeInternalMark s).comp.silent = s.comp.silent := by unfold takeInternalMark; simp
@[simp] theorem takeInternalMark_comp_silentTimer : (takeInternalMark s).comp.silentTimer = s.comp.silentTimer := by unfold takeInternalMark; simp
@[simp] theorem takeInternalMark_comp_lastRefresh : (takeInternalMark s).comp.lastRefresh = s.comp.lastRefresh := by unfold takeInternalMark; simp

@[simp] theorem endCompose_comp_front : (endCompose s).comp.front = s.comp.front := by unfold endCompose; (repeat' split) <;> simp
@[simp] theorem endCompose_comp_freeze : (endCompose s).comp.freeze = s.comp.freeze := by unfold endCompose; (repeat' split) <;> simp
@[simp] theorem endCompose_comp_curtain : (endCompose s).comp.curtain = s.comp.curtain := by unfold endCompose; (repeat' split) <;> simp
@[simp] theorem endCompose_comp_sequences : (endCompose s).comp.sequences = s.comp.sequences := by unfold endCompose; (repeat' split) <;> simp
@[simp] theorem endCompose_comp_steps : (endCompose s).comp.steps = s.comp.steps := by unfold endCompose; (repeat' split) <;> simp
@[simp] theorem endCompose_comp_silent : (endCompose s).comp.silent = s.comp.silent := by unfold endCompose; (repeat' split) <;> simp
@[simp] theorem endCompose_comp_silentTimer : (endCompose s).comp.silentTimer = s.comp.silentTimer := by unfold endCompose; (repeat' split) <;> simp
@[simp] theorem endCompose_comp_markTimer : (endCompose s).comp.markTimer = s.comp.markTimer := by unfold endCompose; (repeat' split) <;> simp
@[simp] theorem endCompose_comp_lastRefresh : (endCompose s).comp.lastRefresh = s.comp.lastRefresh := by unfold endCompose; (repeat' split) <;> simp
@[simp] theorem endCompose_comp_countdownRunning : (endCompose s).comp.countdownRunning = s.comp.countdownRunning := by unfold endCompose; (repeat' split) <;> simp

@[simp] theorem applicationStep_comp_front : (applicationStep s).comp.front = s.comp.front := by unfold applicationStep; simp
@[simp] theorem applicationStep_comp_freeze : (applicationStep s).comp.freeze = s.comp.freeze := by unfold applicationStep; simp
@[simp] theorem applicationStep_comp_curtain : (applicationStep s).comp.curtain = s.comp.curtain := by unfold applicationStep; simp
@[simp] theorem applicationStep_comp_sequences : (applicationStep s).comp.sequences = s.comp.sequences := by unfold applicationStep; simp
@[simp] theorem applicationStep_comp_steps : (applicationStep s).comp.steps = s.comp.steps := by unfold applicationStep; simp
@[simp] theorem applicationStep_comp_silent : (applicationStep s).comp.silent = s.comp.silent := by unfold applicationStep; simp
@[simp] theorem applicationStep_comp_silentTimer : (applicationStep s).comp.silentTimer = s.comp.silentTimer := by unfold applicationStep; simp
@[simp] theorem applicationStep_comp_markTimer : (applicationStep s).comp.markTimer = s.comp.markTimer := by unfold applicationStep; simp
@[simp] theorem applicationStep_comp_lastRefresh : (applicationStep s).comp.lastRefresh = s.comp.lastRefresh := by unfold applicationStep; simp
@[simp] theorem applicationStep_comp_countdownRunning : (applicationStep s).comp.countdownRunning = s.comp.countdownRunning := by unfold applicationStep; simp

@[simp] theorem publish_comp_front : (publish s).comp.front = s.comp.front := by
  simp only [publish]
  (repeat' split) <;> simp
@[simp] theorem publish_comp_freeze : (publish s).comp.freeze = s.comp.freeze := by
  simp only [publish]
  (repeat' split) <;> simp
@[simp] theorem publish_comp_curtain : (publish s).comp.curtain = s.comp.curtain := by
  simp only [publish]
  (repeat' split) <;> simp
@[simp] theorem publish_comp_sequences : (publish s).comp.sequences = s.comp.sequences := by
  simp only [publish]
  (repeat' split) <;> simp
@[simp] theorem publish_comp_steps : (publish s).comp.steps = s.comp.steps := by
  simp only [publish]
  (repeat' split) <;> simp
@[simp] theorem publish_comp_silent : (publish s).comp.silent = s.comp.silent := by
  simp only [publish]
  (repeat' split) <;> simp
@[simp] theorem publish_comp_silentTimer : (publish s).comp.silentTimer = s.comp.silentTimer := by
  simp only [publish]
  (repeat' split) <;> simp
@[simp] theorem publish_comp_markTimer : (publish s).comp.markTimer = s.comp.markTimer := by
  simp only [publish]
  (repeat' split) <;> simp
@[simp] theorem publish_comp_lastRefresh : (publish s).comp.lastRefresh = s.comp.lastRefresh := by
  simp only [publish]
  (repeat' split) <;> simp
@[simp] theorem publish_comp_countdownRunning : (publish s).comp.countdownRunning = s.comp.countdownRunning := by
  simp only [publish]
  (repeat' split) <;> simp

@[simp] theorem storeTeam_comp_front (t : Fin 16) (x : Team) : (storeTeam t x s).comp.front = s.comp.front := by
  simp only [storeTeam]
  (repeat' split) <;> simp
@[simp] theorem storeTeam_comp_freeze (t : Fin 16) (x : Team) : (storeTeam t x s).comp.freeze = s.comp.freeze := by
  simp only [storeTeam]
  (repeat' split) <;> simp
@[simp] theorem storeTeam_comp_curtain (t : Fin 16) (x : Team) : (storeTeam t x s).comp.curtain = s.comp.curtain := by
  simp only [storeTeam]
  (repeat' split) <;> simp
@[simp] theorem storeTeam_comp_sequences (t : Fin 16) (x : Team) : (storeTeam t x s).comp.sequences = s.comp.sequences := by
  simp only [storeTeam]
  (repeat' split) <;> simp
@[simp] theorem storeTeam_comp_steps (t : Fin 16) (x : Team) : (storeTeam t x s).comp.steps = s.comp.steps := by
  simp only [storeTeam]
  (repeat' split) <;> simp
@[simp] theorem storeTeam_comp_silent (t : Fin 16) (x : Team) : (storeTeam t x s).comp.silent = s.comp.silent := by
  simp only [storeTeam]
  (repeat' split) <;> simp
@[simp] theorem storeTeam_comp_silentTimer (t : Fin 16) (x : Team) : (storeTeam t x s).comp.silentTimer = s.comp.silentTimer := by
  simp only [storeTeam]
  (repeat' split) <;> simp
@[simp] theorem storeTeam_comp_markTimer (t : Fin 16) (x : Team) : (storeTeam t x s).comp.markTimer = s.comp.markTimer := by
  simp only [storeTeam]
  (repeat' split) <;> simp
@[simp] theorem storeTeam_comp_lastRefresh (t : Fin 16) (x : Team) : (storeTeam t x s).comp.lastRefresh = s.comp.lastRefresh := by
  simp only [storeTeam]
  (repeat' split) <;> simp
@[simp] theorem storeTeam_comp_countdownRunning (t : Fin 16) (x : Team) : (storeTeam t x s).comp.countdownRunning = s.comp.countdownRunning := by
  simp only [storeTeam]
  (repeat' split) <;> simp

@[simp] theorem writeTeam_comp_front (t : Fin 16) (r : List Byte) : ((writeTeam t r s).1).comp.front = s.comp.front := by unfold writeTeam; (repeat' split) <;> simp
@[simp] theorem writeTeam_comp_freeze (t : Fin 16) (r : List Byte) : ((writeTeam t r s).1).comp.freeze = s.comp.freeze := by unfold writeTeam; (repeat' split) <;> simp
@[simp] theorem writeTeam_comp_curtain (t : Fin 16) (r : List Byte) : ((writeTeam t r s).1).comp.curtain = s.comp.curtain := by unfold writeTeam; (repeat' split) <;> simp
@[simp] theorem writeTeam_comp_sequences (t : Fin 16) (r : List Byte) : ((writeTeam t r s).1).comp.sequences = s.comp.sequences := by unfold writeTeam; (repeat' split) <;> simp
@[simp] theorem writeTeam_comp_steps (t : Fin 16) (r : List Byte) : ((writeTeam t r s).1).comp.steps = s.comp.steps := by unfold writeTeam; (repeat' split) <;> simp
@[simp] theorem writeTeam_comp_silent (t : Fin 16) (r : List Byte) : ((writeTeam t r s).1).comp.silent = s.comp.silent := by unfold writeTeam; (repeat' split) <;> simp
@[simp] theorem writeTeam_comp_silentTimer (t : Fin 16) (r : List Byte) : ((writeTeam t r s).1).comp.silentTimer = s.comp.silentTimer := by unfold writeTeam; (repeat' split) <;> simp
@[simp] theorem writeTeam_comp_markTimer (t : Fin 16) (r : List Byte) : ((writeTeam t r s).1).comp.markTimer = s.comp.markTimer := by unfold writeTeam; (repeat' split) <;> simp
@[simp] theorem writeTeam_comp_lastRefresh (t : Fin 16) (r : List Byte) : ((writeTeam t r s).1).comp.lastRefresh = s.comp.lastRefresh := by unfold writeTeam; (repeat' split) <;> simp
@[simp] theorem writeTeam_comp_countdownRunning (t : Fin 16) (r : List Byte) : ((writeTeam t r s).1).comp.countdownRunning = s.comp.countdownRunning := by unfold writeTeam; (repeat' split) <;> simp

@[simp] theorem writeSequence_comp_front (i : Fin 16) (r : List Byte) : ((writeSequence i r s).1).comp.front = s.comp.front := by
  simp only [writeSequence]
  (repeat' split) <;> simp
@[simp] theorem writeSequence_comp_freeze (i : Fin 16) (r : List Byte) : ((writeSequence i r s).1).comp.freeze = s.comp.freeze := by
  simp only [writeSequence]
  (repeat' split) <;> simp
@[simp] theorem writeSequence_comp_curtain (i : Fin 16) (r : List Byte) : ((writeSequence i r s).1).comp.curtain = s.comp.curtain := by
  simp only [writeSequence]
  (repeat' split) <;> simp
@[simp] theorem writeSequence_comp_steps (i : Fin 16) (r : List Byte) : ((writeSequence i r s).1).comp.steps = s.comp.steps := by
  simp only [writeSequence]
  (repeat' split) <;> simp
@[simp] theorem writeSequence_comp_silent (i : Fin 16) (r : List Byte) : ((writeSequence i r s).1).comp.silent = s.comp.silent := by
  simp only [writeSequence]
  (repeat' split) <;> simp
@[simp] theorem writeSequence_comp_silentTimer (i : Fin 16) (r : List Byte) : ((writeSequence i r s).1).comp.silentTimer = s.comp.silentTimer := by
  simp only [writeSequence]
  (repeat' split) <;> simp
@[simp] theorem writeSequence_comp_markTimer (i : Fin 16) (r : List Byte) : ((writeSequence i r s).1).comp.markTimer = s.comp.markTimer := by
  simp only [writeSequence]
  (repeat' split) <;> simp
@[simp] theorem writeSequence_comp_lastRefresh (i : Fin 16) (r : List Byte) : ((writeSequence i r s).1).comp.lastRefresh = s.comp.lastRefresh := by
  simp only [writeSequence]
  (repeat' split) <;> simp
@[simp] theorem writeSequence_comp_countdownRunning (i : Fin 16) (r : List Byte) : ((writeSequence i r s).1).comp.countdownRunning = s.comp.countdownRunning := by
  simp only [writeSequence]
  (repeat' split) <;> simp

@[simp] theorem writeStep_comp_front (i : Fin 64) (r : List Byte) : ((writeStep i r s).1).comp.front = s.comp.front := by unfold writeStep; (repeat' split) <;> simp
@[simp] theorem writeStep_comp_freeze (i : Fin 64) (r : List Byte) : ((writeStep i r s).1).comp.freeze = s.comp.freeze := by unfold writeStep; (repeat' split) <;> simp
@[simp] theorem writeStep_comp_curtain (i : Fin 64) (r : List Byte) : ((writeStep i r s).1).comp.curtain = s.comp.curtain := by unfold writeStep; (repeat' split) <;> simp
@[simp] theorem writeStep_comp_sequences (i : Fin 64) (r : List Byte) : ((writeStep i r s).1).comp.sequences = s.comp.sequences := by unfold writeStep; (repeat' split) <;> simp
@[simp] theorem writeStep_comp_silent (i : Fin 64) (r : List Byte) : ((writeStep i r s).1).comp.silent = s.comp.silent := by unfold writeStep; (repeat' split) <;> simp
@[simp] theorem writeStep_comp_silentTimer (i : Fin 64) (r : List Byte) : ((writeStep i r s).1).comp.silentTimer = s.comp.silentTimer := by unfold writeStep; (repeat' split) <;> simp
@[simp] theorem writeStep_comp_markTimer (i : Fin 64) (r : List Byte) : ((writeStep i r s).1).comp.markTimer = s.comp.markTimer := by unfold writeStep; (repeat' split) <;> simp
@[simp] theorem writeStep_comp_lastRefresh (i : Fin 64) (r : List Byte) : ((writeStep i r s).1).comp.lastRefresh = s.comp.lastRefresh := by unfold writeStep; (repeat' split) <;> simp
@[simp] theorem writeStep_comp_countdownRunning (i : Fin 64) (r : List Byte) : ((writeStep i r s).1).comp.countdownRunning = s.comp.countdownRunning := by unfold writeStep; (repeat' split) <;> simp

@[simp] theorem storeConfig_comp_front (n : Config) : (storeConfig n s).comp.front = s.comp.front := by unfold storeConfig; simp
@[simp] theorem storeConfig_comp_freeze (n : Config) : (storeConfig n s).comp.freeze = s.comp.freeze := by unfold storeConfig; simp
@[simp] theorem storeConfig_comp_curtain (n : Config) : (storeConfig n s).comp.curtain = s.comp.curtain := by unfold storeConfig; simp
@[simp] theorem storeConfig_comp_sequences (n : Config) : (storeConfig n s).comp.sequences = s.comp.sequences := by unfold storeConfig; simp
@[simp] theorem storeConfig_comp_steps (n : Config) : (storeConfig n s).comp.steps = s.comp.steps := by unfold storeConfig; simp
@[simp] theorem storeConfig_comp_silent (n : Config) : (storeConfig n s).comp.silent = s.comp.silent := by unfold storeConfig; simp
@[simp] theorem storeConfig_comp_silentTimer (n : Config) : (storeConfig n s).comp.silentTimer = s.comp.silentTimer := by unfold storeConfig; simp
@[simp] theorem storeConfig_comp_markTimer (n : Config) : (storeConfig n s).comp.markTimer = s.comp.markTimer := by unfold storeConfig; simp
@[simp] theorem storeConfig_comp_lastRefresh (n : Config) : (storeConfig n s).comp.lastRefresh = s.comp.lastRefresh := by unfold storeConfig; simp
@[simp] theorem storeConfig_comp_countdownRunning (n : Config) : (storeConfig n s).comp.countdownRunning = s.comp.countdownRunning := by unfold storeConfig; simp

@[simp] theorem writeConfigRecord_comp_front (r : List Byte) : ((writeConfigRecord r s).1).comp.front = s.comp.front := by unfold writeConfigRecord; (repeat' split) <;> simp
@[simp] theorem writeConfigRecord_comp_freeze (r : List Byte) : ((writeConfigRecord r s).1).comp.freeze = s.comp.freeze := by unfold writeConfigRecord; (repeat' split) <;> simp
@[simp] theorem writeConfigRecord_comp_curtain (r : List Byte) : ((writeConfigRecord r s).1).comp.curtain = s.comp.curtain := by unfold writeConfigRecord; (repeat' split) <;> simp
@[simp] theorem writeConfigRecord_comp_sequences (r : List Byte) : ((writeConfigRecord r s).1).comp.sequences = s.comp.sequences := by unfold writeConfigRecord; (repeat' split) <;> simp
@[simp] theorem writeConfigRecord_comp_steps (r : List Byte) : ((writeConfigRecord r s).1).comp.steps = s.comp.steps := by unfold writeConfigRecord; (repeat' split) <;> simp
@[simp] theorem writeConfigRecord_comp_silent (r : List Byte) : ((writeConfigRecord r s).1).comp.silent = s.comp.silent := by unfold writeConfigRecord; (repeat' split) <;> simp
@[simp] theorem writeConfigRecord_comp_silentTimer (r : List Byte) : ((writeConfigRecord r s).1).comp.silentTimer = s.comp.silentTimer := by unfold writeConfigRecord; (repeat' split) <;> simp
@[simp] theorem writeConfigRecord_comp_markTimer (r : List Byte) : ((writeConfigRecord r s).1).comp.markTimer = s.comp.markTimer := by unfold writeConfigRecord; (repeat' split) <;> simp
@[simp] theorem writeConfigRecord_comp_lastRefresh (r : List Byte) : ((writeConfigRecord r s).1).comp.lastRefresh = s.comp.lastRefresh := by unfold writeConfigRecord; (repeat' split) <;> simp
@[simp] theorem writeConfigRecord_comp_countdownRunning (r : List Byte) : ((writeConfigRecord r s).1).comp.countdownRunning = s.comp.countdownRunning := by unfold writeConfigRecord; (repeat' split) <;> simp

@[simp] theorem writeRecord_comp_front (t : Table) (i : Nat) (r : List Byte) : ((writeRecord t i r s).1).comp.front = s.comp.front := by
  unfold writeRecord onIndex
  (repeat' split) <;> simp
@[simp] theorem writeRecord_comp_freeze (t : Table) (i : Nat) (r : List Byte) : ((writeRecord t i r s).1).comp.freeze = s.comp.freeze := by
  unfold writeRecord onIndex
  (repeat' split) <;> simp
@[simp] theorem writeRecord_comp_curtain (t : Table) (i : Nat) (r : List Byte) : ((writeRecord t i r s).1).comp.curtain = s.comp.curtain := by
  unfold writeRecord onIndex
  (repeat' split) <;> simp
@[simp] theorem writeRecord_comp_silent (t : Table) (i : Nat) (r : List Byte) : ((writeRecord t i r s).1).comp.silent = s.comp.silent := by
  unfold writeRecord onIndex
  (repeat' split) <;> simp
@[simp] theorem writeRecord_comp_silentTimer (t : Table) (i : Nat) (r : List Byte) : ((writeRecord t i r s).1).comp.silentTimer = s.comp.silentTimer := by
  unfold writeRecord onIndex
  (repeat' split) <;> simp
@[simp] theorem writeRecord_comp_markTimer (t : Table) (i : Nat) (r : List Byte) : ((writeRecord t i r s).1).comp.markTimer = s.comp.markTimer := by
  unfold writeRecord onIndex
  (repeat' split) <;> simp
@[simp] theorem writeRecord_comp_lastRefresh (t : Table) (i : Nat) (r : List Byte) : ((writeRecord t i r s).1).comp.lastRefresh = s.comp.lastRefresh := by
  unfold writeRecord onIndex
  (repeat' split) <;> simp
@[simp] theorem writeRecord_comp_countdownRunning (t : Table) (i : Nat) (r : List Byte) : ((writeRecord t i r s).1).comp.countdownRunning = s.comp.countdownRunning := by
  unfold writeRecord onIndex
  (repeat' split) <;> simp

end Sys2Proof.Machine
end

