-- ==== Sys2Proof/Laws/HubFrames.lean ====
section
/-! SUPPORT. The parts of the Hub Agent that an operation leaves unchanged where it changes another part: one simp lemma for each. -/

namespace Sys2Proof.Machine

variable (s : State)

@[simp] theorem enqueueNotice_hub_agent (n : Notice) : (enqueueNotice n s).hub.agent = s.hub.agent := by unfold enqueueNotice; (repeat' split) <;> simp
@[simp] theorem enqueueNotice_hub_requests (n : Notice) : (enqueueNotice n s).hub.requests = s.hub.requests := by unfold enqueueNotice; (repeat' split) <;> simp
@[simp] theorem enqueueNotice_hub_tallyEvents (n : Notice) : (enqueueNotice n s).hub.tallyEvents = s.hub.tallyEvents := by unfold enqueueNotice; (repeat' split) <;> simp
@[simp] theorem enqueueNotice_hub_tallyTimer (n : Notice) : (enqueueNotice n s).hub.tallyTimer = s.hub.tallyTimer := by unfold enqueueNotice; (repeat' split) <;> simp
@[simp] theorem enqueueNotice_hub_seatChanges (n : Notice) : (enqueueNotice n s).hub.seatChanges = s.hub.seatChanges := by unfold enqueueNotice; (repeat' split) <;> simp
@[simp] theorem enqueueNotice_hub_seatTimer (n : Notice) : (enqueueNotice n s).hub.seatTimer = s.hub.seatTimer := by unfold enqueueNotice; (repeat' split) <;> simp
@[simp] theorem enqueueNotice_hub_config (n : Notice) : (enqueueNotice n s).hub.config = s.hub.config := by unfold enqueueNotice; (repeat' split) <;> simp

@[simp] theorem raiseNotice_hub_agent (b : NoticeBody) : (raiseNotice b s).hub.agent = s.hub.agent := by unfold raiseNotice; (repeat' split) <;> simp
@[simp] theorem raiseNotice_hub_requests (b : NoticeBody) : (raiseNotice b s).hub.requests = s.hub.requests := by unfold raiseNotice; (repeat' split) <;> simp
@[simp] theorem raiseNotice_hub_tallyEvents (b : NoticeBody) : (raiseNotice b s).hub.tallyEvents = s.hub.tallyEvents := by unfold raiseNotice; (repeat' split) <;> simp
@[simp] theorem raiseNotice_hub_tallyTimer (b : NoticeBody) : (raiseNotice b s).hub.tallyTimer = s.hub.tallyTimer := by unfold raiseNotice; (repeat' split) <;> simp
@[simp] theorem raiseNotice_hub_seatChanges (b : NoticeBody) : (raiseNotice b s).hub.seatChanges = s.hub.seatChanges := by unfold raiseNotice; (repeat' split) <;> simp
@[simp] theorem raiseNotice_hub_seatTimer (b : NoticeBody) : (raiseNotice b s).hub.seatTimer = s.hub.seatTimer := by unfold raiseNotice; (repeat' split) <;> simp
@[simp] theorem raiseNotice_hub_config (b : NoticeBody) : (raiseNotice b s).hub.config = s.hub.config := by unfold raiseNotice; (repeat' split) <;> simp

@[simp] theorem buildTally_hub_agent : (buildTally s).hub.agent = s.hub.agent := by unfold buildTally; simp
@[simp] theorem buildTally_hub_requests : (buildTally s).hub.requests = s.hub.requests := by unfold buildTally; simp
@[simp] theorem buildTally_hub_seatChanges : (buildTally s).hub.seatChanges = s.hub.seatChanges := by unfold buildTally; simp
@[simp] theorem buildTally_hub_seatTimer : (buildTally s).hub.seatTimer = s.hub.seatTimer := by unfold buildTally; simp
@[simp] theorem buildTally_hub_config : (buildTally s).hub.config = s.hub.config := by unfold buildTally; simp

@[simp] theorem raiseTally_hub_agent : (raiseTally s).hub.agent = s.hub.agent := by unfold raiseTally; (repeat' split) <;> simp
@[simp] theorem raiseTally_hub_requests : (raiseTally s).hub.requests = s.hub.requests := by unfold raiseTally; (repeat' split) <;> simp
@[simp] theorem raiseTally_hub_seatChanges : (raiseTally s).hub.seatChanges = s.hub.seatChanges := by unfold raiseTally; (repeat' split) <;> simp
@[simp] theorem raiseTally_hub_seatTimer : (raiseTally s).hub.seatTimer = s.hub.seatTimer := by unfold raiseTally; (repeat' split) <;> simp
@[simp] theorem raiseTally_hub_config : (raiseTally s).hub.config = s.hub.config := by unfold raiseTally; (repeat' split) <;> simp

@[simp] theorem buildSeat_hub_agent : (buildSeat s).hub.agent = s.hub.agent := by unfold buildSeat; simp
@[simp] theorem buildSeat_hub_requests : (buildSeat s).hub.requests = s.hub.requests := by unfold buildSeat; simp
@[simp] theorem buildSeat_hub_tallyEvents : (buildSeat s).hub.tallyEvents = s.hub.tallyEvents := by unfold buildSeat; simp
@[simp] theorem buildSeat_hub_tallyTimer : (buildSeat s).hub.tallyTimer = s.hub.tallyTimer := by unfold buildSeat; simp
@[simp] theorem buildSeat_hub_config : (buildSeat s).hub.config = s.hub.config := by unfold buildSeat; simp

@[simp] theorem raiseSeat_hub_agent (k : Fin 256) (c : Causes) : (raiseSeat k c s).hub.agent = s.hub.agent := by
  simp only [raiseSeat]
  (repeat' split) <;> simp
@[simp] theorem raiseSeat_hub_requests (k : Fin 256) (c : Causes) : (raiseSeat k c s).hub.requests = s.hub.requests := by
  simp only [raiseSeat]
  (repeat' split) <;> simp
@[simp] theorem raiseSeat_hub_tallyEvents (k : Fin 256) (c : Causes) : (raiseSeat k c s).hub.tallyEvents = s.hub.tallyEvents := by
  simp only [raiseSeat]
  (repeat' split) <;> simp
@[simp] theorem raiseSeat_hub_tallyTimer (k : Fin 256) (c : Causes) : (raiseSeat k c s).hub.tallyTimer = s.hub.tallyTimer := by
  simp only [raiseSeat]
  (repeat' split) <;> simp
@[simp] theorem raiseSeat_hub_config (k : Fin 256) (c : Causes) : (raiseSeat k c s).hub.config = s.hub.config := by
  simp only [raiseSeat]
  (repeat' split) <;> simp

@[simp] theorem consoleChoose_hub_agent : (consoleChoose s).hub.agent = s.hub.agent := by unfold consoleChoose; (repeat' split) <;> simp
@[simp] theorem consoleChoose_hub_requests : (consoleChoose s).hub.requests = s.hub.requests := by unfold consoleChoose; (repeat' split) <;> simp
@[simp] theorem consoleChoose_hub_noticeLost : (consoleChoose s).hub.noticeLost = s.hub.noticeLost := by unfold consoleChoose; (repeat' split) <;> simp
@[simp] theorem consoleChoose_hub_tallyEvents : (consoleChoose s).hub.tallyEvents = s.hub.tallyEvents := by unfold consoleChoose; (repeat' split) <;> simp
@[simp] theorem consoleChoose_hub_tallyTimer : (consoleChoose s).hub.tallyTimer = s.hub.tallyTimer := by unfold consoleChoose; (repeat' split) <;> simp
@[simp] theorem consoleChoose_hub_seatChanges : (consoleChoose s).hub.seatChanges = s.hub.seatChanges := by unfold consoleChoose; (repeat' split) <;> simp
@[simp] theorem consoleChoose_hub_seatTimer : (consoleChoose s).hub.seatTimer = s.hub.seatTimer := by unfold consoleChoose; (repeat' split) <;> simp
@[simp] theorem consoleChoose_hub_config : (consoleChoose s).hub.config = s.hub.config := by unfold consoleChoose; (repeat' split) <;> simp

@[simp] theorem settleLinks_hub_agent : (settleLinks s).hub.agent = s.hub.agent := by unfold settleLinks; simp
@[simp] theorem settleLinks_hub_requests : (settleLinks s).hub.requests = s.hub.requests := by unfold settleLinks; simp
@[simp] theorem settleLinks_hub_noticeLost : (settleLinks s).hub.noticeLost = s.hub.noticeLost := by unfold settleLinks; simp
@[simp] theorem settleLinks_hub_tallyEvents : (settleLinks s).hub.tallyEvents = s.hub.tallyEvents := by unfold settleLinks; simp
@[simp] theorem settleLinks_hub_tallyTimer : (settleLinks s).hub.tallyTimer = s.hub.tallyTimer := by unfold settleLinks; simp
@[simp] theorem settleLinks_hub_seatChanges : (settleLinks s).hub.seatChanges = s.hub.seatChanges := by unfold settleLinks; simp
@[simp] theorem settleLinks_hub_seatTimer : (settleLinks s).hub.seatTimer = s.hub.seatTimer := by unfold settleLinks; simp
@[simp] theorem settleLinks_hub_config : (settleLinks s).hub.config = s.hub.config := by unfold settleLinks; simp

@[simp] theorem nextRequest_hub_notices : (nextRequest s).hub.notices = s.hub.notices := by unfold nextRequest; (repeat' split) <;> simp
@[simp] theorem nextRequest_hub_noticeLost : (nextRequest s).hub.noticeLost = s.hub.noticeLost := by unfold nextRequest; (repeat' split) <;> simp
@[simp] theorem nextRequest_hub_tallyEvents : (nextRequest s).hub.tallyEvents = s.hub.tallyEvents := by unfold nextRequest; (repeat' split) <;> simp
@[simp] theorem nextRequest_hub_tallyTimer : (nextRequest s).hub.tallyTimer = s.hub.tallyTimer := by unfold nextRequest; (repeat' split) <;> simp
@[simp] theorem nextRequest_hub_seatChanges : (nextRequest s).hub.seatChanges = s.hub.seatChanges := by unfold nextRequest; (repeat' split) <;> simp
@[simp] theorem nextRequest_hub_seatTimer : (nextRequest s).hub.seatTimer = s.hub.seatTimer := by unfold nextRequest; (repeat' split) <;> simp
@[simp] theorem nextRequest_hub_config : (nextRequest s).hub.config = s.hub.config := by unfold nextRequest; (repeat' split) <;> simp

@[simp] theorem setPresence_hub_agent (l : Bool) (k : Fin 256) (x : Seat) : (setPresence l k x s).hub.agent = s.hub.agent := by unfold setPresence; simp
@[simp] theorem setPresence_hub_requests (l : Bool) (k : Fin 256) (x : Seat) : (setPresence l k x s).hub.requests = s.hub.requests := by unfold setPresence; simp
@[simp] theorem setPresence_hub_tallyEvents (l : Bool) (k : Fin 256) (x : Seat) : (setPresence l k x s).hub.tallyEvents = s.hub.tallyEvents := by unfold setPresence; simp
@[simp] theorem setPresence_hub_tallyTimer (l : Bool) (k : Fin 256) (x : Seat) : (setPresence l k x s).hub.tallyTimer = s.hub.tallyTimer := by unfold setPresence; simp
@[simp] theorem setPresence_hub_config (l : Bool) (k : Fin 256) (x : Seat) : (setPresence l k x s).hub.config = s.hub.config := by unfold setPresence; simp

@[simp] theorem reportCheck_hub_agent (a r : Bool) (k : Fin 256) : (reportCheck a r k s).hub.agent = s.hub.agent := by
  simp only [reportCheck]
  (repeat' split) <;> simp
@[simp] theorem reportCheck_hub_requests (a r : Bool) (k : Fin 256) : (reportCheck a r k s).hub.requests = s.hub.requests := by
  simp only [reportCheck]
  (repeat' split) <;> simp
@[simp] theorem reportCheck_hub_tallyEvents (a r : Bool) (k : Fin 256) : (reportCheck a r k s).hub.tallyEvents = s.hub.tallyEvents := by
  simp only [reportCheck]
  (repeat' split) <;> simp
@[simp] theorem reportCheck_hub_tallyTimer (a r : Bool) (k : Fin 256) : (reportCheck a r k s).hub.tallyTimer = s.hub.tallyTimer := by
  simp only [reportCheck]
  (repeat' split) <;> simp
@[simp] theorem reportCheck_hub_config (a r : Bool) (k : Fin 256) : (reportCheck a r k s).hub.config = s.hub.config := by
  simp only [reportCheck]
  (repeat' split) <;> simp

@[simp] theorem silencePort_hub_agent (p : Fin 4) : (silencePort p s).hub.agent = s.hub.agent := by unfold silencePort; exact foldl_keeps _ (fun s : State => s.hub.agent) (by intros; simp) _ _
@[simp] theorem silencePort_hub_requests (p : Fin 4) : (silencePort p s).hub.requests = s.hub.requests := by unfold silencePort; exact foldl_keeps _ (fun s : State => s.hub.requests) (by intros; simp) _ _
@[simp] theorem silencePort_hub_tallyEvents (p : Fin 4) : (silencePort p s).hub.tallyEvents = s.hub.tallyEvents := by unfold silencePort; exact foldl_keeps _ (fun s : State => s.hub.tallyEvents) (by intros; simp) _ _
@[simp] theorem silencePort_hub_tallyTimer (p : Fin 4) : (silencePort p s).hub.tallyTimer = s.hub.tallyTimer := by unfold silencePort; exact foldl_keeps _ (fun s : State => s.hub.tallyTimer) (by intros; simp) _ _
@[simp] theorem silencePort_hub_config (p : Fin 4) : (silencePort p s).hub.config = s.hub.config := by unfold silencePort; exact foldl_keeps _ (fun s : State => s.hub.config) (by intros; simp) _ _

@[simp] theorem absentPort_hub_agent (l : Bool) (p : Fin 4) : (absentPort l p s).hub.agent = s.hub.agent := by unfold absentPort; exact foldl_keeps _ (fun s : State => s.hub.agent) (by intros; simp) _ _
@[simp] theorem absentPort_hub_requests (l : Bool) (p : Fin 4) : (absentPort l p s).hub.requests = s.hub.requests := by unfold absentPort; exact foldl_keeps _ (fun s : State => s.hub.requests) (by intros; simp) _ _
@[simp] theorem absentPort_hub_tallyEvents (l : Bool) (p : Fin 4) : (absentPort l p s).hub.tallyEvents = s.hub.tallyEvents := by unfold absentPort; exact foldl_keeps _ (fun s : State => s.hub.tallyEvents) (by intros; simp) _ _
@[simp] theorem absentPort_hub_tallyTimer (l : Bool) (p : Fin 4) : (absentPort l p s).hub.tallyTimer = s.hub.tallyTimer := by unfold absentPort; exact foldl_keeps _ (fun s : State => s.hub.tallyTimer) (by intros; simp) _ _
@[simp] theorem absentPort_hub_config (l : Bool) (p : Fin 4) : (absentPort l p s).hub.config = s.hub.config := by unfold absentPort; exact foldl_keeps _ (fun s : State => s.hub.config) (by intros; simp) _ _

@[simp] theorem applyPendingSeat_hub_agent (l : Bool) (k : Fin 256) : (applyPendingSeat l k s).hub.agent = s.hub.agent := by unfold applyPendingSeat; (repeat' split) <;> simp
@[simp] theorem applyPendingSeat_hub_requests (l : Bool) (k : Fin 256) : (applyPendingSeat l k s).hub.requests = s.hub.requests := by unfold applyPendingSeat; (repeat' split) <;> simp
@[simp] theorem applyPendingSeat_hub_tallyEvents (l : Bool) (k : Fin 256) : (applyPendingSeat l k s).hub.tallyEvents = s.hub.tallyEvents := by unfold applyPendingSeat; (repeat' split) <;> simp
@[simp] theorem applyPendingSeat_hub_tallyTimer (l : Bool) (k : Fin 256) : (applyPendingSeat l k s).hub.tallyTimer = s.hub.tallyTimer := by unfold applyPendingSeat; (repeat' split) <;> simp
@[simp] theorem applyPendingSeat_hub_config (l : Bool) (k : Fin 256) : (applyPendingSeat l k s).hub.config = s.hub.config := by unfold applyPendingSeat; (repeat' split) <;> simp

@[simp] theorem applyPending_hub_agent (l : Bool) : (applyPending l s).hub.agent = s.hub.agent := by unfold applyPending; exact foldl_keeps _ (fun s : State => s.hub.agent) (by intros; simp) _ _
@[simp] theorem applyPending_hub_requests (l : Bool) : (applyPending l s).hub.requests = s.hub.requests := by unfold applyPending; exact foldl_keeps _ (fun s : State => s.hub.requests) (by intros; simp) _ _
@[simp] theorem applyPending_hub_tallyEvents (l : Bool) : (applyPending l s).hub.tallyEvents = s.hub.tallyEvents := by unfold applyPending; exact foldl_keeps _ (fun s : State => s.hub.tallyEvents) (by intros; simp) _ _
@[simp] theorem applyPending_hub_tallyTimer (l : Bool) : (applyPending l s).hub.tallyTimer = s.hub.tallyTimer := by unfold applyPending; exact foldl_keeps _ (fun s : State => s.hub.tallyTimer) (by intros; simp) _ _
@[simp] theorem applyPending_hub_config (l : Bool) : (applyPending l s).hub.config = s.hub.config := by unfold applyPending; exact foldl_keeps _ (fun s : State => s.hub.config) (by intros; simp) _ _

@[simp] theorem moveRound_hub_agent (x : RoundState) (w : Bool) : (moveRound x w s).hub.agent = s.hub.agent := by unfold moveRound; simp
@[simp] theorem moveRound_hub_requests (x : RoundState) (w : Bool) : (moveRound x w s).hub.requests = s.hub.requests := by unfold moveRound; simp
@[simp] theorem moveRound_hub_tallyEvents (x : RoundState) (w : Bool) : (moveRound x w s).hub.tallyEvents = s.hub.tallyEvents := by unfold moveRound; simp
@[simp] theorem moveRound_hub_tallyTimer (x : RoundState) (w : Bool) : (moveRound x w s).hub.tallyTimer = s.hub.tallyTimer := by unfold moveRound; simp
@[simp] theorem moveRound_hub_seatChanges (x : RoundState) (w : Bool) : (moveRound x w s).hub.seatChanges = s.hub.seatChanges := by unfold moveRound; simp
@[simp] theorem moveRound_hub_seatTimer (x : RoundState) (w : Bool) : (moveRound x w s).hub.seatTimer = s.hub.seatTimer := by unfold moveRound; simp
@[simp] theorem moveRound_hub_config (x : RoundState) (w : Bool) : (moveRound x w s).hub.config = s.hub.config := by unfold moveRound; simp

@[simp] theorem enterCommitting_hub_agent (w : Bool) : (enterCommitting w s).hub.agent = s.hub.agent := by unfold enterCommitting; simp
@[simp] theorem enterCommitting_hub_requests (w : Bool) : (enterCommitting w s).hub.requests = s.hub.requests := by unfold enterCommitting; simp
@[simp] theorem enterCommitting_hub_tallyEvents (w : Bool) : (enterCommitting w s).hub.tallyEvents = s.hub.tallyEvents := by unfold enterCommitting; simp
@[simp] theorem enterCommitting_hub_tallyTimer (w : Bool) : (enterCommitting w s).hub.tallyTimer = s.hub.tallyTimer := by unfold enterCommitting; simp
@[simp] theorem enterCommitting_hub_seatChanges (w : Bool) : (enterCommitting w s).hub.seatChanges = s.hub.seatChanges := by unfold enterCommitting; simp
@[simp] theorem enterCommitting_hub_seatTimer (w : Bool) : (enterCommitting w s).hub.seatTimer = s.hub.seatTimer := by unfold enterCommitting; simp
@[simp] theorem enterCommitting_hub_config (w : Bool) : (enterCommitting w s).hub.config = s.hub.config := by unfold enterCommitting; simp

@[simp] theorem endQuestion_hub_agent : (endQuestion s).hub.agent = s.hub.agent := by
  simp only [endQuestion]
  (repeat' split) <;> simp
@[simp] theorem endQuestion_hub_requests : (endQuestion s).hub.requests = s.hub.requests := by
  simp only [endQuestion]
  (repeat' split) <;> simp
@[simp] theorem endQuestion_hub_tallyEvents : (endQuestion s).hub.tallyEvents = s.hub.tallyEvents := by
  simp only [endQuestion]
  (repeat' split) <;> simp
@[simp] theorem endQuestion_hub_tallyTimer : (endQuestion s).hub.tallyTimer = s.hub.tallyTimer := by
  simp only [endQuestion]
  (repeat' split) <;> simp
@[simp] theorem endQuestion_hub_seatChanges : (endQuestion s).hub.seatChanges = s.hub.seatChanges := by
  simp only [endQuestion]
  (repeat' split) <;> simp
@[simp] theorem endQuestion_hub_seatTimer : (endQuestion s).hub.seatTimer = s.hub.seatTimer := by
  simp only [endQuestion]
  (repeat' split) <;> simp
@[simp] theorem endQuestion_hub_config : (endQuestion s).hub.config = s.hub.config := by
  simp only [endQuestion]
  (repeat' split) <;> simp

@[simp] theorem floorGranted_hub_agent : (floorGranted s).hub.agent = s.hub.agent := by unfold floorGranted; (repeat' split) <;> simp
@[simp] theorem floorGranted_hub_requests : (floorGranted s).hub.requests = s.hub.requests := by unfold floorGranted; (repeat' split) <;> simp
@[simp] theorem floorGranted_hub_tallyEvents : (floorGranted s).hub.tallyEvents = s.hub.tallyEvents := by unfold floorGranted; (repeat' split) <;> simp
@[simp] theorem floorGranted_hub_tallyTimer : (floorGranted s).hub.tallyTimer = s.hub.tallyTimer := by unfold floorGranted; (repeat' split) <;> simp
@[simp] theorem floorGranted_hub_seatChanges : (floorGranted s).hub.seatChanges = s.hub.seatChanges := by unfold floorGranted; (repeat' split) <;> simp
@[simp] theorem floorGranted_hub_seatTimer : (floorGranted s).hub.seatTimer = s.hub.seatTimer := by unfold floorGranted; (repeat' split) <;> simp
@[simp] theorem floorGranted_hub_config : (floorGranted s).hub.config = s.hub.config := by unfold floorGranted; (repeat' split) <;> simp

@[simp] theorem grantFloor_hub_agent (e : BuzzEntry) : (grantFloor e s).hub.agent = s.hub.agent := by unfold grantFloor; simp
@[simp] theorem grantFloor_hub_requests (e : BuzzEntry) : (grantFloor e s).hub.requests = s.hub.requests := by unfold grantFloor; simp
@[simp] theorem grantFloor_hub_tallyEvents (e : BuzzEntry) : (grantFloor e s).hub.tallyEvents = s.hub.tallyEvents := by unfold grantFloor; simp
@[simp] theorem grantFloor_hub_tallyTimer (e : BuzzEntry) : (grantFloor e s).hub.tallyTimer = s.hub.tallyTimer := by unfold grantFloor; simp
@[simp] theorem grantFloor_hub_seatChanges (e : BuzzEntry) : (grantFloor e s).hub.seatChanges = s.hub.seatChanges := by unfold grantFloor; simp
@[simp] theorem grantFloor_hub_seatTimer (e : BuzzEntry) : (grantFloor e s).hub.seatTimer = s.hub.seatTimer := by unfold grantFloor; simp
@[simp] theorem grantFloor_hub_config (e : BuzzEntry) : (grantFloor e s).hub.config = s.hub.config := by unfold grantFloor; simp

@[simp] theorem grantTest_hub_agent : (grantTest s).hub.agent = s.hub.agent := by unfold grantTest; (repeat' split) <;> simp
@[simp] theorem grantTest_hub_requests : (grantTest s).hub.requests = s.hub.requests := by unfold grantTest; (repeat' split) <;> simp
@[simp] theorem grantTest_hub_tallyEvents : (grantTest s).hub.tallyEvents = s.hub.tallyEvents := by unfold grantTest; (repeat' split) <;> simp
@[simp] theorem grantTest_hub_tallyTimer : (grantTest s).hub.tallyTimer = s.hub.tallyTimer := by unfold grantTest; (repeat' split) <;> simp
@[simp] theorem grantTest_hub_seatChanges : (grantTest s).hub.seatChanges = s.hub.seatChanges := by unfold grantTest; (repeat' split) <;> simp
@[simp] theorem grantTest_hub_seatTimer : (grantTest s).hub.seatTimer = s.hub.seatTimer := by unfold grantTest; (repeat' split) <;> simp
@[simp] theorem grantTest_hub_config : (grantTest s).hub.config = s.hub.config := by unfold grantTest; (repeat' split) <;> simp

@[simp] theorem settleExpires_hub_agent : (settleExpires s).hub.agent = s.hub.agent := by
  simp only [settleExpires]
  (repeat' split) <;> simp
@[simp] theorem settleExpires_hub_requests : (settleExpires s).hub.requests = s.hub.requests := by
  simp only [settleExpires]
  (repeat' split) <;> simp
@[simp] theorem settleExpires_hub_tallyEvents : (settleExpires s).hub.tallyEvents = s.hub.tallyEvents := by
  simp only [settleExpires]
  (repeat' split) <;> simp
@[simp] theorem settleExpires_hub_tallyTimer : (settleExpires s).hub.tallyTimer = s.hub.tallyTimer := by
  simp only [settleExpires]
  (repeat' split) <;> simp
@[simp] theorem settleExpires_hub_seatChanges : (settleExpires s).hub.seatChanges = s.hub.seatChanges := by
  simp only [settleExpires]
  (repeat' split) <;> simp
@[simp] theorem settleExpires_hub_seatTimer : (settleExpires s).hub.seatTimer = s.hub.seatTimer := by
  simp only [settleExpires]
  (repeat' split) <;> simp
@[simp] theorem settleExpires_hub_config : (settleExpires s).hub.config = s.hub.config := by
  simp only [settleExpires]
  (repeat' split) <;> simp

@[simp] theorem closeAnswering_hub_agent : (closeAnswering s).hub.agent = s.hub.agent := by
  simp only [closeAnswering]
  (repeat' split) <;> simp
@[simp] theorem closeAnswering_hub_requests : (closeAnswering s).hub.requests = s.hub.requests := by
  simp only [closeAnswering]
  (repeat' split) <;> simp
@[simp] theorem closeAnswering_hub_tallyEvents : (closeAnswering s).hub.tallyEvents = s.hub.tallyEvents := by
  simp only [closeAnswering]
  (repeat' split) <;> simp
@[simp] theorem closeAnswering_hub_tallyTimer : (closeAnswering s).hub.tallyTimer = s.hub.tallyTimer := by
  simp only [closeAnswering]
  (repeat' split) <;> simp
@[simp] theorem closeAnswering_hub_seatChanges : (closeAnswering s).hub.seatChanges = s.hub.seatChanges := by
  simp only [closeAnswering]
  (repeat' split) <;> simp
@[simp] theorem closeAnswering_hub_seatTimer : (closeAnswering s).hub.seatTimer = s.hub.seatTimer := by
  simp only [closeAnswering]
  (repeat' split) <;> simp
@[simp] theorem closeAnswering_hub_config : (closeAnswering s).hub.config = s.hub.config := by
  simp only [closeAnswering]
  (repeat' split) <;> simp

@[simp] theorem closeAction_hub_agent : ((closeAction s).1).hub.agent = s.hub.agent := by unfold closeAction; (repeat' split) <;> simp
@[simp] theorem closeAction_hub_requests : ((closeAction s).1).hub.requests = s.hub.requests := by unfold closeAction; (repeat' split) <;> simp
@[simp] theorem closeAction_hub_tallyEvents : ((closeAction s).1).hub.tallyEvents = s.hub.tallyEvents := by unfold closeAction; (repeat' split) <;> simp
@[simp] theorem closeAction_hub_tallyTimer : ((closeAction s).1).hub.tallyTimer = s.hub.tallyTimer := by unfold closeAction; (repeat' split) <;> simp
@[simp] theorem closeAction_hub_seatChanges : ((closeAction s).1).hub.seatChanges = s.hub.seatChanges := by unfold closeAction; (repeat' split) <;> simp
@[simp] theorem closeAction_hub_seatTimer : ((closeAction s).1).hub.seatTimer = s.hub.seatTimer := by unfold closeAction; (repeat' split) <;> simp
@[simp] theorem closeAction_hub_config : ((closeAction s).1).hub.config = s.hub.config := by unfold closeAction; (repeat' split) <;> simp

@[simp] theorem commitAction_hub_agent : ((commitAction s).1).hub.agent = s.hub.agent := by unfold commitAction; (repeat' split) <;> simp
@[simp] theorem commitAction_hub_requests : ((commitAction s).1).hub.requests = s.hub.requests := by unfold commitAction; (repeat' split) <;> simp
@[simp] theorem commitAction_hub_tallyEvents : ((commitAction s).1).hub.tallyEvents = s.hub.tallyEvents := by unfold commitAction; (repeat' split) <;> simp
@[simp] theorem commitAction_hub_tallyTimer : ((commitAction s).1).hub.tallyTimer = s.hub.tallyTimer := by unfold commitAction; (repeat' split) <;> simp
@[simp] theorem commitAction_hub_seatChanges : ((commitAction s).1).hub.seatChanges = s.hub.seatChanges := by unfold commitAction; (repeat' split) <;> simp
@[simp] theorem commitAction_hub_seatTimer : ((commitAction s).1).hub.seatTimer = s.hub.seatTimer := by unfold commitAction; (repeat' split) <;> simp
@[simp] theorem commitAction_hub_config : ((commitAction s).1).hub.config = s.hub.config := by unfold commitAction; (repeat' split) <;> simp

@[simp] theorem cancelQuestion_hub_agent : (cancelQuestion s).hub.agent = s.hub.agent := by unfold cancelQuestion; simp
@[simp] theorem cancelQuestion_hub_requests : (cancelQuestion s).hub.requests = s.hub.requests := by unfold cancelQuestion; simp
@[simp] theorem cancelQuestion_hub_tallyEvents : (cancelQuestion s).hub.tallyEvents = s.hub.tallyEvents := by unfold cancelQuestion; simp
@[simp] theorem cancelQuestion_hub_tallyTimer : (cancelQuestion s).hub.tallyTimer = s.hub.tallyTimer := by unfold cancelQuestion; simp
@[simp] theorem cancelQuestion_hub_config : (cancelQuestion s).hub.config = s.hub.config := by unfold cancelQuestion; simp

@[simp] theorem cancelAction_hub_agent : ((cancelAction s).1).hub.agent = s.hub.agent := by unfold cancelAction; (repeat' split) <;> simp
@[simp] theorem cancelAction_hub_requests : ((cancelAction s).1).hub.requests = s.hub.requests := by unfold cancelAction; (repeat' split) <;> simp
@[simp] theorem cancelAction_hub_tallyEvents : ((cancelAction s).1).hub.tallyEvents = s.hub.tallyEvents := by unfold cancelAction; (repeat' split) <;> simp
@[simp] theorem cancelAction_hub_tallyTimer : ((cancelAction s).1).hub.tallyTimer = s.hub.tallyTimer := by unfold cancelAction; (repeat' split) <;> simp
@[simp] theorem cancelAction_hub_config : ((cancelAction s).1).hub.config = s.hub.config := by unfold cancelAction; (repeat' split) <;> simp

@[simp] theorem clearResponses_hub_agent (q : Fin 128) : (clearResponses q s).hub.agent = s.hub.agent := by unfold clearResponses; (repeat' split) <;> simp
@[simp] theorem clearResponses_hub_requests (q : Fin 128) : (clearResponses q s).hub.requests = s.hub.requests := by unfold clearResponses; (repeat' split) <;> simp
@[simp] theorem clearResponses_hub_seatChanges (q : Fin 128) : (clearResponses q s).hub.seatChanges = s.hub.seatChanges := by unfold clearResponses; (repeat' split) <;> simp
@[simp] theorem clearResponses_hub_seatTimer (q : Fin 128) : (clearResponses q s).hub.seatTimer = s.hub.seatTimer := by unfold clearResponses; (repeat' split) <;> simp
@[simp] theorem clearResponses_hub_config (q : Fin 128) : (clearResponses q s).hub.config = s.hub.config := by unfold clearResponses; (repeat' split) <;> simp

@[simp] theorem openQuestion_hub_agent (q : Fin 128) : (openQuestion q s).hub.agent = s.hub.agent := by unfold openQuestion; simp
@[simp] theorem openQuestion_hub_requests (q : Fin 128) : (openQuestion q s).hub.requests = s.hub.requests := by unfold openQuestion; simp
@[simp] theorem openQuestion_hub_seatChanges (q : Fin 128) : (openQuestion q s).hub.seatChanges = s.hub.seatChanges := by unfold openQuestion; simp
@[simp] theorem openQuestion_hub_seatTimer (q : Fin 128) : (openQuestion q s).hub.seatTimer = s.hub.seatTimer := by unfold openQuestion; simp
@[simp] theorem openQuestion_hub_config (q : Fin 128) : (openQuestion q s).hub.config = s.hub.config := by unfold openQuestion; simp

@[simp] theorem openChosen_hub_agent (q : Option (Fin 128)) : ((openChosen q s).1).hub.agent = s.hub.agent := by unfold openChosen; (repeat' split) <;> simp
@[simp] theorem openChosen_hub_requests (q : Option (Fin 128)) : ((openChosen q s).1).hub.requests = s.hub.requests := by unfold openChosen; (repeat' split) <;> simp
@[simp] theorem openChosen_hub_seatChanges (q : Option (Fin 128)) : ((openChosen q s).1).hub.seatChanges = s.hub.seatChanges := by unfold openChosen; (repeat' split) <;> simp
@[simp] theorem openChosen_hub_seatTimer (q : Option (Fin 128)) : ((openChosen q s).1).hub.seatTimer = s.hub.seatTimer := by unfold openChosen; (repeat' split) <;> simp
@[simp] theorem openChosen_hub_config (q : Option (Fin 128)) : ((openChosen q s).1).hub.config = s.hub.config := by unfold openChosen; (repeat' split) <;> simp

@[simp] theorem openAction_hub_agent (q : Byte) : ((openAction q s).1).hub.agent = s.hub.agent := by unfold openAction; simp
@[simp] theorem openAction_hub_requests (q : Byte) : ((openAction q s).1).hub.requests = s.hub.requests := by unfold openAction; simp
@[simp] theorem openAction_hub_seatChanges (q : Byte) : ((openAction q s).1).hub.seatChanges = s.hub.seatChanges := by unfold openAction; simp
@[simp] theorem openAction_hub_seatTimer (q : Byte) : ((openAction q s).1).hub.seatTimer = s.hub.seatTimer := by unfold openAction; simp
@[simp] theorem openAction_hub_config (q : Byte) : ((openAction q s).1).hub.config = s.hub.config := by unfold openAction; simp

@[simp] theorem nextAction_hub_agent : ((nextAction s).1).hub.agent = s.hub.agent := by unfold nextAction; simp
@[simp] theorem nextAction_hub_requests : ((nextAction s).1).hub.requests = s.hub.requests := by unfold nextAction; simp
@[simp] theorem nextAction_hub_seatChanges : ((nextAction s).1).hub.seatChanges = s.hub.seatChanges := by unfold nextAction; simp
@[simp] theorem nextAction_hub_seatTimer : ((nextAction s).1).hub.seatTimer = s.hub.seatTimer := by unfold nextAction; simp
@[simp] theorem nextAction_hub_config : ((nextAction s).1).hub.config = s.hub.config := by unfold nextAction; simp

@[simp] theorem takePendingOpen_hub_agent : (takePendingOpen s).hub.agent = s.hub.agent := by
  simp only [takePendingOpen]
  (repeat' split) <;> simp
@[simp] theorem takePendingOpen_hub_requests : (takePendingOpen s).hub.requests = s.hub.requests := by
  simp only [takePendingOpen]
  (repeat' split) <;> simp
@[simp] theorem takePendingOpen_hub_seatChanges : (takePendingOpen s).hub.seatChanges = s.hub.seatChanges := by
  simp only [takePendingOpen]
  (repeat' split) <;> simp
@[simp] theorem takePendingOpen_hub_seatTimer : (takePendingOpen s).hub.seatTimer = s.hub.seatTimer := by
  simp only [takePendingOpen]
  (repeat' split) <;> simp
@[simp] theorem takePendingOpen_hub_config : (takePendingOpen s).hub.config = s.hub.config := by
  simp only [takePendingOpen]
  (repeat' split) <;> simp

@[simp] theorem roundAfterCommit_hub_agent : (roundAfterCommit s).hub.agent = s.hub.agent := by unfold roundAfterCommit; simp
@[simp] theorem roundAfterCommit_hub_requests : (roundAfterCommit s).hub.requests = s.hub.requests := by unfold roundAfterCommit; simp
@[simp] theorem roundAfterCommit_hub_config : (roundAfterCommit s).hub.config = s.hub.config := by unfold roundAfterCommit; simp

@[simp] theorem floorOpenAgain_hub_agent : (floorOpenAgain s).hub.agent = s.hub.agent := by unfold floorOpenAgain; (repeat' split) <;> simp
@[simp] theorem floorOpenAgain_hub_requests : (floorOpenAgain s).hub.requests = s.hub.requests := by unfold floorOpenAgain; (repeat' split) <;> simp
@[simp] theorem floorOpenAgain_hub_tallyEvents : (floorOpenAgain s).hub.tallyEvents = s.hub.tallyEvents := by unfold floorOpenAgain; (repeat' split) <;> simp
@[simp] theorem floorOpenAgain_hub_tallyTimer : (floorOpenAgain s).hub.tallyTimer = s.hub.tallyTimer := by unfold floorOpenAgain; (repeat' split) <;> simp
@[simp] theorem floorOpenAgain_hub_seatChanges : (floorOpenAgain s).hub.seatChanges = s.hub.seatChanges := by unfold floorOpenAgain; (repeat' split) <;> simp
@[simp] theorem floorOpenAgain_hub_seatTimer : (floorOpenAgain s).hub.seatTimer = s.hub.seatTimer := by unfold floorOpenAgain; (repeat' split) <;> simp
@[simp] theorem floorOpenAgain_hub_config : (floorOpenAgain s).hub.config = s.hub.config := by unfold floorOpenAgain; (repeat' split) <;> simp

@[simp] theorem releaseWrong_hub_agent (n : Nat) : (releaseWrong n s).hub.agent = s.hub.agent := by unfold releaseWrong; (repeat' split) <;> simp
@[simp] theorem releaseWrong_hub_requests (n : Nat) : (releaseWrong n s).hub.requests = s.hub.requests := by unfold releaseWrong; (repeat' split) <;> simp
@[simp] theorem releaseWrong_hub_tallyEvents (n : Nat) : (releaseWrong n s).hub.tallyEvents = s.hub.tallyEvents := by unfold releaseWrong; (repeat' split) <;> simp
@[simp] theorem releaseWrong_hub_tallyTimer (n : Nat) : (releaseWrong n s).hub.tallyTimer = s.hub.tallyTimer := by unfold releaseWrong; (repeat' split) <;> simp
@[simp] theorem releaseWrong_hub_seatChanges (n : Nat) : (releaseWrong n s).hub.seatChanges = s.hub.seatChanges := by unfold releaseWrong; (repeat' split) <;> simp
@[simp] theorem releaseWrong_hub_seatTimer (n : Nat) : (releaseWrong n s).hub.seatTimer = s.hub.seatTimer := by unfold releaseWrong; (repeat' split) <;> simp
@[simp] theorem releaseWrong_hub_config (n : Nat) : (releaseWrong n s).hub.config = s.hub.config := by unfold releaseWrong; (repeat' split) <;> simp

@[simp] theorem recordVerdict_hub_agent (v : Verdict) (e : BuzzEntry) (r : List BuzzEntry) : (recordVerdict v e r s).hub.agent = s.hub.agent := by unfold recordVerdict; simp
@[simp] theorem recordVerdict_hub_requests (v : Verdict) (e : BuzzEntry) (r : List BuzzEntry) : (recordVerdict v e r s).hub.requests = s.hub.requests := by unfold recordVerdict; simp
@[simp] theorem recordVerdict_hub_tallyEvents (v : Verdict) (e : BuzzEntry) (r : List BuzzEntry) : (recordVerdict v e r s).hub.tallyEvents = s.hub.tallyEvents := by unfold recordVerdict; simp
@[simp] theorem recordVerdict_hub_tallyTimer (v : Verdict) (e : BuzzEntry) (r : List BuzzEntry) : (recordVerdict v e r s).hub.tallyTimer = s.hub.tallyTimer := by unfold recordVerdict; simp
@[simp] theorem recordVerdict_hub_seatChanges (v : Verdict) (e : BuzzEntry) (r : List BuzzEntry) : (recordVerdict v e r s).hub.seatChanges = s.hub.seatChanges := by unfold recordVerdict; simp
@[simp] theorem recordVerdict_hub_seatTimer (v : Verdict) (e : BuzzEntry) (r : List BuzzEntry) : (recordVerdict v e r s).hub.seatTimer = s.hub.seatTimer := by unfold recordVerdict; simp
@[simp] theorem recordVerdict_hub_config (v : Verdict) (e : BuzzEntry) (r : List BuzzEntry) : (recordVerdict v e r s).hub.config = s.hub.config := by unfold recordVerdict; simp

@[simp] theorem judgeHolder_hub_agent (v : Verdict) (e : BuzzEntry) (r : List BuzzEntry) : (judgeHolder v e r s).hub.agent = s.hub.agent := by unfold judgeHolder; (repeat' split) <;> simp
@[simp] theorem judgeHolder_hub_requests (v : Verdict) (e : BuzzEntry) (r : List BuzzEntry) : (judgeHolder v e r s).hub.requests = s.hub.requests := by unfold judgeHolder; (repeat' split) <;> simp
@[simp] theorem judgeHolder_hub_tallyEvents (v : Verdict) (e : BuzzEntry) (r : List BuzzEntry) : (judgeHolder v e r s).hub.tallyEvents = s.hub.tallyEvents := by unfold judgeHolder; (repeat' split) <;> simp
@[simp] theorem judgeHolder_hub_tallyTimer (v : Verdict) (e : BuzzEntry) (r : List BuzzEntry) : (judgeHolder v e r s).hub.tallyTimer = s.hub.tallyTimer := by unfold judgeHolder; (repeat' split) <;> simp
@[simp] theorem judgeHolder_hub_seatChanges (v : Verdict) (e : BuzzEntry) (r : List BuzzEntry) : (judgeHolder v e r s).hub.seatChanges = s.hub.seatChanges := by unfold judgeHolder; (repeat' split) <;> simp
@[simp] theorem judgeHolder_hub_seatTimer (v : Verdict) (e : BuzzEntry) (r : List BuzzEntry) : (judgeHolder v e r s).hub.seatTimer = s.hub.seatTimer := by unfold judgeHolder; (repeat' split) <;> simp
@[simp] theorem judgeHolder_hub_config (v : Verdict) (e : BuzzEntry) (r : List BuzzEntry) : (judgeHolder v e r s).hub.config = s.hub.config := by unfold judgeHolder; (repeat' split) <;> simp

@[simp] theorem judgeAction_hub_agent (t v : Byte) : ((judgeAction t v s).1).hub.agent = s.hub.agent := by unfold judgeAction; (repeat' split) <;> simp
@[simp] theorem judgeAction_hub_requests (t v : Byte) : ((judgeAction t v s).1).hub.requests = s.hub.requests := by unfold judgeAction; (repeat' split) <;> simp
@[simp] theorem judgeAction_hub_tallyEvents (t v : Byte) : ((judgeAction t v s).1).hub.tallyEvents = s.hub.tallyEvents := by unfold judgeAction; (repeat' split) <;> simp
@[simp] theorem judgeAction_hub_tallyTimer (t v : Byte) : ((judgeAction t v s).1).hub.tallyTimer = s.hub.tallyTimer := by unfold judgeAction; (repeat' split) <;> simp
@[simp] theorem judgeAction_hub_seatChanges (t v : Byte) : ((judgeAction t v s).1).hub.seatChanges = s.hub.seatChanges := by unfold judgeAction; (repeat' split) <;> simp
@[simp] theorem judgeAction_hub_seatTimer (t v : Byte) : ((judgeAction t v s).1).hub.seatTimer = s.hub.seatTimer := by unfold judgeAction; (repeat' split) <;> simp
@[simp] theorem judgeAction_hub_config (t v : Byte) : ((judgeAction t v s).1).hub.config = s.hub.config := by unfold judgeAction; (repeat' split) <;> simp

@[simp] theorem answerTimeout_hub_agent : (answerTimeout s).hub.agent = s.hub.agent := by unfold answerTimeout; (repeat' split) <;> simp
@[simp] theorem answerTimeout_hub_requests : (answerTimeout s).hub.requests = s.hub.requests := by unfold answerTimeout; (repeat' split) <;> simp
@[simp] theorem answerTimeout_hub_tallyEvents : (answerTimeout s).hub.tallyEvents = s.hub.tallyEvents := by unfold answerTimeout; (repeat' split) <;> simp
@[simp] theorem answerTimeout_hub_tallyTimer : (answerTimeout s).hub.tallyTimer = s.hub.tallyTimer := by unfold answerTimeout; (repeat' split) <;> simp
@[simp] theorem answerTimeout_hub_seatChanges : (answerTimeout s).hub.seatChanges = s.hub.seatChanges := by unfold answerTimeout; (repeat' split) <;> simp
@[simp] theorem answerTimeout_hub_seatTimer : (answerTimeout s).hub.seatTimer = s.hub.seatTimer := by unfold answerTimeout; (repeat' split) <;> simp
@[simp] theorem answerTimeout_hub_config : (answerTimeout s).hub.config = s.hub.config := by unfold answerTimeout; (repeat' split) <;> simp

@[simp] theorem insertEntry_hub_agent (k : Fin 256) (t : Fin 16) (x : Time) (m : Marks) : (insertEntry k t x m s).hub.agent = s.hub.agent := by
  simp only [insertEntry]
  (repeat' split) <;> simp
@[simp] theorem insertEntry_hub_requests (k : Fin 256) (t : Fin 16) (x : Time) (m : Marks) : (insertEntry k t x m s).hub.requests = s.hub.requests := by
  simp only [insertEntry]
  (repeat' split) <;> simp
@[simp] theorem insertEntry_hub_tallyEvents (k : Fin 256) (t : Fin 16) (x : Time) (m : Marks) : (insertEntry k t x m s).hub.tallyEvents = s.hub.tallyEvents := by
  simp only [insertEntry]
  (repeat' split) <;> simp
@[simp] theorem insertEntry_hub_tallyTimer (k : Fin 256) (t : Fin 16) (x : Time) (m : Marks) : (insertEntry k t x m s).hub.tallyTimer = s.hub.tallyTimer := by
  simp only [insertEntry]
  (repeat' split) <;> simp
@[simp] theorem insertEntry_hub_seatChanges (k : Fin 256) (t : Fin 16) (x : Time) (m : Marks) : (insertEntry k t x m s).hub.seatChanges = s.hub.seatChanges := by
  simp only [insertEntry]
  (repeat' split) <;> simp
@[simp] theorem insertEntry_hub_seatTimer (k : Fin 256) (t : Fin 16) (x : Time) (m : Marks) : (insertEntry k t x m s).hub.seatTimer = s.hub.seatTimer := by
  simp only [insertEntry]
  (repeat' split) <;> simp
@[simp] theorem insertEntry_hub_config (k : Fin 256) (t : Fin 16) (x : Time) (m : Marks) : (insertEntry k t x m s).hub.config = s.hub.config := by
  simp only [insertEntry]
  (repeat' split) <;> simp

@[simp] theorem falseStart_hub_agent (k : Fin 256) (t : Fin 16) (x : Time) (m : Marks) : (falseStart k t x m s).hub.agent = s.hub.agent := by unfold falseStart; simp
@[simp] theorem falseStart_hub_requests (k : Fin 256) (t : Fin 16) (x : Time) (m : Marks) : (falseStart k t x m s).hub.requests = s.hub.requests := by unfold falseStart; simp
@[simp] theorem falseStart_hub_tallyEvents (k : Fin 256) (t : Fin 16) (x : Time) (m : Marks) : (falseStart k t x m s).hub.tallyEvents = s.hub.tallyEvents := by unfold falseStart; simp
@[simp] theorem falseStart_hub_tallyTimer (k : Fin 256) (t : Fin 16) (x : Time) (m : Marks) : (falseStart k t x m s).hub.tallyTimer = s.hub.tallyTimer := by unfold falseStart; simp
@[simp] theorem falseStart_hub_seatChanges (k : Fin 256) (t : Fin 16) (x : Time) (m : Marks) : (falseStart k t x m s).hub.seatChanges = s.hub.seatChanges := by unfold falseStart; simp
@[simp] theorem falseStart_hub_seatTimer (k : Fin 256) (t : Fin 16) (x : Time) (m : Marks) : (falseStart k t x m s).hub.seatTimer = s.hub.seatTimer := by unfold falseStart; simp
@[simp] theorem falseStart_hub_config (k : Fin 256) (t : Fin 16) (x : Time) (m : Marks) : (falseStart k t x m s).hub.config = s.hub.config := by unfold falseStart; simp

@[simp] theorem takeBuzz_hub_agent (k : Fin 256) (t : Option (Fin 16)) (x : Time) (m : Marks) : (takeBuzz k t x m s).hub.agent = s.hub.agent := by unfold takeBuzz; (repeat' split) <;> simp
@[simp] theorem takeBuzz_hub_requests (k : Fin 256) (t : Option (Fin 16)) (x : Time) (m : Marks) : (takeBuzz k t x m s).hub.requests = s.hub.requests := by unfold takeBuzz; (repeat' split) <;> simp
@[simp] theorem takeBuzz_hub_tallyEvents (k : Fin 256) (t : Option (Fin 16)) (x : Time) (m : Marks) : (takeBuzz k t x m s).hub.tallyEvents = s.hub.tallyEvents := by unfold takeBuzz; (repeat' split) <;> simp
@[simp] theorem takeBuzz_hub_tallyTimer (k : Fin 256) (t : Option (Fin 16)) (x : Time) (m : Marks) : (takeBuzz k t x m s).hub.tallyTimer = s.hub.tallyTimer := by unfold takeBuzz; (repeat' split) <;> simp
@[simp] theorem takeBuzz_hub_seatChanges (k : Fin 256) (t : Option (Fin 16)) (x : Time) (m : Marks) : (takeBuzz k t x m s).hub.seatChanges = s.hub.seatChanges := by unfold takeBuzz; (repeat' split) <;> simp
@[simp] theorem takeBuzz_hub_seatTimer (k : Fin 256) (t : Option (Fin 16)) (x : Time) (m : Marks) : (takeBuzz k t x m s).hub.seatTimer = s.hub.seatTimer := by unfold takeBuzz; (repeat' split) <;> simp
@[simp] theorem takeBuzz_hub_config (k : Fin 256) (t : Option (Fin 16)) (x : Time) (m : Marks) : (takeBuzz k t x m s).hub.config = s.hub.config := by unfold takeBuzz; (repeat' split) <;> simp

@[simp] theorem raiseAnswer_hub_agent (k : Fin 256) (t : Fin 16) (a : Answer) (x : Time) (m : Marks) : (raiseAnswer k t a x m s).hub.agent = s.hub.agent := by unfold raiseAnswer; (repeat' split) <;> simp
@[simp] theorem raiseAnswer_hub_requests (k : Fin 256) (t : Fin 16) (a : Answer) (x : Time) (m : Marks) : (raiseAnswer k t a x m s).hub.requests = s.hub.requests := by unfold raiseAnswer; (repeat' split) <;> simp
@[simp] theorem raiseAnswer_hub_tallyEvents (k : Fin 256) (t : Fin 16) (a : Answer) (x : Time) (m : Marks) : (raiseAnswer k t a x m s).hub.tallyEvents = s.hub.tallyEvents := by unfold raiseAnswer; (repeat' split) <;> simp
@[simp] theorem raiseAnswer_hub_tallyTimer (k : Fin 256) (t : Fin 16) (a : Answer) (x : Time) (m : Marks) : (raiseAnswer k t a x m s).hub.tallyTimer = s.hub.tallyTimer := by unfold raiseAnswer; (repeat' split) <;> simp
@[simp] theorem raiseAnswer_hub_seatChanges (k : Fin 256) (t : Fin 16) (a : Answer) (x : Time) (m : Marks) : (raiseAnswer k t a x m s).hub.seatChanges = s.hub.seatChanges := by unfold raiseAnswer; (repeat' split) <;> simp
@[simp] theorem raiseAnswer_hub_seatTimer (k : Fin 256) (t : Fin 16) (a : Answer) (x : Time) (m : Marks) : (raiseAnswer k t a x m s).hub.seatTimer = s.hub.seatTimer := by unfold raiseAnswer; (repeat' split) <;> simp
@[simp] theorem raiseAnswer_hub_config (k : Fin 256) (t : Fin 16) (a : Answer) (x : Time) (m : Marks) : (raiseAnswer k t a x m s).hub.config = s.hub.config := by unfold raiseAnswer; (repeat' split) <;> simp

@[simp] theorem answerTaken_hub_agent (k : Fin 256) (t : Fin 16) (a : Answer) (x : Time) (m : Marks) : (answerTaken k t a x m s).hub.agent = s.hub.agent := by unfold answerTaken; simp
@[simp] theorem answerTaken_hub_requests (k : Fin 256) (t : Fin 16) (a : Answer) (x : Time) (m : Marks) : (answerTaken k t a x m s).hub.requests = s.hub.requests := by unfold answerTaken; simp
@[simp] theorem answerTaken_hub_seatChanges (k : Fin 256) (t : Fin 16) (a : Answer) (x : Time) (m : Marks) : (answerTaken k t a x m s).hub.seatChanges = s.hub.seatChanges := by unfold answerTaken; simp
@[simp] theorem answerTaken_hub_seatTimer (k : Fin 256) (t : Fin 16) (a : Answer) (x : Time) (m : Marks) : (answerTaken k t a x m s).hub.seatTimer = s.hub.seatTimer := by unfold answerTaken; simp
@[simp] theorem answerTaken_hub_config (k : Fin 256) (t : Fin 16) (a : Answer) (x : Time) (m : Marks) : (answerTaken k t a x m s).hub.config = s.hub.config := by unfold answerTaken; simp

@[simp] theorem firstAnswer_hub_agent (k : Fin 256) (t : Fin 16) (a : Answer) (x : Time) (m : Marks) : (firstAnswer k t a x m s).hub.agent = s.hub.agent := by unfold firstAnswer; simp
@[simp] theorem firstAnswer_hub_requests (k : Fin 256) (t : Fin 16) (a : Answer) (x : Time) (m : Marks) : (firstAnswer k t a x m s).hub.requests = s.hub.requests := by unfold firstAnswer; simp
@[simp] theorem firstAnswer_hub_seatChanges (k : Fin 256) (t : Fin 16) (a : Answer) (x : Time) (m : Marks) : (firstAnswer k t a x m s).hub.seatChanges = s.hub.seatChanges := by unfold firstAnswer; simp
@[simp] theorem firstAnswer_hub_seatTimer (k : Fin 256) (t : Fin 16) (a : Answer) (x : Time) (m : Marks) : (firstAnswer k t a x m s).hub.seatTimer = s.hub.seatTimer := by unfold firstAnswer; simp
@[simp] theorem firstAnswer_hub_config (k : Fin 256) (t : Fin 16) (a : Answer) (x : Time) (m : Marks) : (firstAnswer k t a x m s).hub.config = s.hub.config := by unfold firstAnswer; simp

@[simp] theorem acceptedChange_hub_agent (k : Fin 256) (t : Fin 16) (o a : Answer) (x : Time) (m : Marks) : (acceptedChange k t o a x m s).hub.agent = s.hub.agent := by unfold acceptedChange; simp
@[simp] theorem acceptedChange_hub_requests (k : Fin 256) (t : Fin 16) (o a : Answer) (x : Time) (m : Marks) : (acceptedChange k t o a x m s).hub.requests = s.hub.requests := by unfold acceptedChange; simp
@[simp] theorem acceptedChange_hub_seatChanges (k : Fin 256) (t : Fin 16) (o a : Answer) (x : Time) (m : Marks) : (acceptedChange k t o a x m s).hub.seatChanges = s.hub.seatChanges := by unfold acceptedChange; simp
@[simp] theorem acceptedChange_hub_seatTimer (k : Fin 256) (t : Fin 16) (o a : Answer) (x : Time) (m : Marks) : (acceptedChange k t o a x m s).hub.seatTimer = s.hub.seatTimer := by unfold acceptedChange; simp
@[simp] theorem acceptedChange_hub_config (k : Fin 256) (t : Fin 16) (o a : Answer) (x : Time) (m : Marks) : (acceptedChange k t o a x m s).hub.config = s.hub.config := by unfold acceptedChange; simp

@[simp] theorem takeAnswer_hub_agent (k : Fin 256) (t : Fin 16) (a : Answer) (x : Time) (m : Marks) : (takeAnswer k t a x m s).hub.agent = s.hub.agent := by unfold takeAnswer; (repeat' split) <;> simp
@[simp] theorem takeAnswer_hub_requests (k : Fin 256) (t : Fin 16) (a : Answer) (x : Time) (m : Marks) : (takeAnswer k t a x m s).hub.requests = s.hub.requests := by unfold takeAnswer; (repeat' split) <;> simp
@[simp] theorem takeAnswer_hub_seatChanges (k : Fin 256) (t : Fin 16) (a : Answer) (x : Time) (m : Marks) : (takeAnswer k t a x m s).hub.seatChanges = s.hub.seatChanges := by unfold takeAnswer; (repeat' split) <;> simp
@[simp] theorem takeAnswer_hub_seatTimer (k : Fin 256) (t : Fin 16) (a : Answer) (x : Time) (m : Marks) : (takeAnswer k t a x m s).hub.seatTimer = s.hub.seatTimer := by unfold takeAnswer; (repeat' split) <;> simp
@[simp] theorem takeAnswer_hub_config (k : Fin 256) (t : Fin 16) (a : Answer) (x : Time) (m : Marks) : (takeAnswer k t a x m s).hub.config = s.hub.config := by unfold takeAnswer; (repeat' split) <;> simp

@[simp] theorem judgePress_hub_agent (k : Fin 256) (t : Option (Fin 16)) (a : Option Answer) (x : Time) (m : Marks) : (judgePress k t a x m s).hub.agent = s.hub.agent := by unfold judgePress; (repeat' split) <;> simp
@[simp] theorem judgePress_hub_requests (k : Fin 256) (t : Option (Fin 16)) (a : Option Answer) (x : Time) (m : Marks) : (judgePress k t a x m s).hub.requests = s.hub.requests := by unfold judgePress; (repeat' split) <;> simp
@[simp] theorem judgePress_hub_seatChanges (k : Fin 256) (t : Option (Fin 16)) (a : Option Answer) (x : Time) (m : Marks) : (judgePress k t a x m s).hub.seatChanges = s.hub.seatChanges := by unfold judgePress; (repeat' split) <;> simp
@[simp] theorem judgePress_hub_seatTimer (k : Fin 256) (t : Option (Fin 16)) (a : Option Answer) (x : Time) (m : Marks) : (judgePress k t a x m s).hub.seatTimer = s.hub.seatTimer := by unfold judgePress; (repeat' split) <;> simp
@[simp] theorem judgePress_hub_config (k : Fin 256) (t : Option (Fin 16)) (a : Option Answer) (x : Time) (m : Marks) : (judgePress k t a x m s).hub.config = s.hub.config := by unfold judgePress; (repeat' split) <;> simp

@[simp] theorem takeHelp_hub_agent (k : Fin 256) (t : Option (Fin 16)) (x : Time) (m : Marks) : (takeHelp k t x m s).hub.agent = s.hub.agent := by unfold takeHelp; simp
@[simp] theorem takeHelp_hub_requests (k : Fin 256) (t : Option (Fin 16)) (x : Time) (m : Marks) : (takeHelp k t x m s).hub.requests = s.hub.requests := by unfold takeHelp; simp
@[simp] theorem takeHelp_hub_tallyEvents (k : Fin 256) (t : Option (Fin 16)) (x : Time) (m : Marks) : (takeHelp k t x m s).hub.tallyEvents = s.hub.tallyEvents := by unfold takeHelp; simp
@[simp] theorem takeHelp_hub_tallyTimer (k : Fin 256) (t : Option (Fin 16)) (x : Time) (m : Marks) : (takeHelp k t x m s).hub.tallyTimer = s.hub.tallyTimer := by unfold takeHelp; simp
@[simp] theorem takeHelp_hub_seatChanges (k : Fin 256) (t : Option (Fin 16)) (x : Time) (m : Marks) : (takeHelp k t x m s).hub.seatChanges = s.hub.seatChanges := by unfold takeHelp; simp
@[simp] theorem takeHelp_hub_seatTimer (k : Fin 256) (t : Option (Fin 16)) (x : Time) (m : Marks) : (takeHelp k t x m s).hub.seatTimer = s.hub.seatTimer := by unfold takeHelp; simp
@[simp] theorem takeHelp_hub_config (k : Fin 256) (t : Option (Fin 16)) (x : Time) (m : Marks) : (takeHelp k t x m s).hub.config = s.hub.config := by unfold takeHelp; simp

@[simp] theorem routeKey_hub_agent (k : Fin 256) (t : Option (Fin 16)) (key : Byte) (x : Time) (m : Marks) : (routeKey k t key x m s).hub.agent = s.hub.agent := by unfold routeKey; (repeat' split) <;> simp
@[simp] theorem routeKey_hub_requests (k : Fin 256) (t : Option (Fin 16)) (key : Byte) (x : Time) (m : Marks) : (routeKey k t key x m s).hub.requests = s.hub.requests := by unfold routeKey; (repeat' split) <;> simp
@[simp] theorem routeKey_hub_seatChanges (k : Fin 256) (t : Option (Fin 16)) (key : Byte) (x : Time) (m : Marks) : (routeKey k t key x m s).hub.seatChanges = s.hub.seatChanges := by unfold routeKey; (repeat' split) <;> simp
@[simp] theorem routeKey_hub_seatTimer (k : Fin 256) (t : Option (Fin 16)) (key : Byte) (x : Time) (m : Marks) : (routeKey k t key x m s).hub.seatTimer = s.hub.seatTimer := by unfold routeKey; (repeat' split) <;> simp
@[simp] theorem routeKey_hub_config (k : Fin 256) (t : Option (Fin 16)) (key : Byte) (x : Time) (m : Marks) : (routeKey k t key x m s).hub.config = s.hub.config := by unfold routeKey; (repeat' split) <;> simp

@[simp] theorem routeDigits_hub_agent (k : Fin 256) (t : Option (Fin 16)) (v : Nat) (x : Time) (m : Marks) : (routeDigits k t v x m s).hub.agent = s.hub.agent := by unfold routeDigits; (repeat' split) <;> simp
@[simp] theorem routeDigits_hub_requests (k : Fin 256) (t : Option (Fin 16)) (v : Nat) (x : Time) (m : Marks) : (routeDigits k t v x m s).hub.requests = s.hub.requests := by unfold routeDigits; (repeat' split) <;> simp
@[simp] theorem routeDigits_hub_seatChanges (k : Fin 256) (t : Option (Fin 16)) (v : Nat) (x : Time) (m : Marks) : (routeDigits k t v x m s).hub.seatChanges = s.hub.seatChanges := by unfold routeDigits; (repeat' split) <;> simp
@[simp] theorem routeDigits_hub_seatTimer (k : Fin 256) (t : Option (Fin 16)) (v : Nat) (x : Time) (m : Marks) : (routeDigits k t v x m s).hub.seatTimer = s.hub.seatTimer := by unfold routeDigits; (repeat' split) <;> simp
@[simp] theorem routeDigits_hub_config (k : Fin 256) (t : Option (Fin 16)) (v : Nat) (x : Time) (m : Marks) : (routeDigits k t v x m s).hub.config = s.hub.config := by unfold routeDigits; (repeat' split) <;> simp

@[simp] theorem takeHello_hub_agent (k : Fin 256) (c : Byte) (b : Bool) : (takeHello k c b s).hub.agent = s.hub.agent := by unfold takeHello; simp
@[simp] theorem takeHello_hub_requests (k : Fin 256) (c : Byte) (b : Bool) : (takeHello k c b s).hub.requests = s.hub.requests := by unfold takeHello; simp
@[simp] theorem takeHello_hub_tallyEvents (k : Fin 256) (c : Byte) (b : Bool) : (takeHello k c b s).hub.tallyEvents = s.hub.tallyEvents := by unfold takeHello; simp
@[simp] theorem takeHello_hub_tallyTimer (k : Fin 256) (c : Byte) (b : Bool) : (takeHello k c b s).hub.tallyTimer = s.hub.tallyTimer := by unfold takeHello; simp
@[simp] theorem takeHello_hub_config (k : Fin 256) (c : Byte) (b : Bool) : (takeHello k c b s).hub.config = s.hub.config := by unfold takeHello; simp

@[simp] theorem takeFrame_hub_agent (f : Stamped) : (takeFrame f s).hub.agent = s.hub.agent := by
  unfold takeFrame
  simp [takePress]
  (repeat' split) <;> simp
@[simp] theorem takeFrame_hub_requests (f : Stamped) : (takeFrame f s).hub.requests = s.hub.requests := by
  unfold takeFrame
  simp [takePress]
  (repeat' split) <;> simp
@[simp] theorem takeFrame_hub_config (f : Stamped) : (takeFrame f s).hub.config = s.hub.config := by
  unfold takeFrame
  simp [takePress]
  (repeat' split) <;> simp

@[simp] theorem handOff_hub_agent (f : Stamped) : (handOff f s).hub.agent = s.hub.agent := by unfold handOff; simp
@[simp] theorem handOff_hub_requests (f : Stamped) : (handOff f s).hub.requests = s.hub.requests := by unfold handOff; simp
@[simp] theorem handOff_hub_config (f : Stamped) : (handOff f s).hub.config = s.hub.config := by unfold handOff; simp

@[simp] theorem stopPort_hub_agent (l : Bool) (p : Fin 4) : (stopPort l p s).hub.agent = s.hub.agent := by unfold stopPort; simp
@[simp] theorem stopPort_hub_requests (l : Bool) (p : Fin 4) : (stopPort l p s).hub.requests = s.hub.requests := by unfold stopPort; simp
@[simp] theorem stopPort_hub_tallyEvents (l : Bool) (p : Fin 4) : (stopPort l p s).hub.tallyEvents = s.hub.tallyEvents := by unfold stopPort; simp
@[simp] theorem stopPort_hub_tallyTimer (l : Bool) (p : Fin 4) : (stopPort l p s).hub.tallyTimer = s.hub.tallyTimer := by unfold stopPort; simp
@[simp] theorem stopPort_hub_config (l : Bool) (p : Fin 4) : (stopPort l p s).hub.config = s.hub.config := by unfold stopPort; simp

@[simp] theorem reportChecks_hub_agent (p : Fin 4) (w : Sweep) : (reportChecks p w s).hub.agent = s.hub.agent := by unfold reportChecks; exact foldl_keeps _ (fun s : State => s.hub.agent) (by intros; simp) _ _
@[simp] theorem reportChecks_hub_requests (p : Fin 4) (w : Sweep) : (reportChecks p w s).hub.requests = s.hub.requests := by unfold reportChecks; exact foldl_keeps _ (fun s : State => s.hub.requests) (by intros; simp) _ _
@[simp] theorem reportChecks_hub_tallyEvents (p : Fin 4) (w : Sweep) : (reportChecks p w s).hub.tallyEvents = s.hub.tallyEvents := by unfold reportChecks; exact foldl_keeps _ (fun s : State => s.hub.tallyEvents) (by intros; simp) _ _
@[simp] theorem reportChecks_hub_tallyTimer (p : Fin 4) (w : Sweep) : (reportChecks p w s).hub.tallyTimer = s.hub.tallyTimer := by unfold reportChecks; exact foldl_keeps _ (fun s : State => s.hub.tallyTimer) (by intros; simp) _ _
@[simp] theorem reportChecks_hub_config (p : Fin 4) (w : Sweep) : (reportChecks p w s).hub.config = s.hub.config := by unfold reportChecks; exact foldl_keeps _ (fun s : State => s.hub.config) (by intros; simp) _ _

@[simp] theorem finishRoll_hub_agent (p : Fin 4) (w : Sweep) : (finishRoll p w s).hub.agent = s.hub.agent := by unfold finishRoll; (repeat' split) <;> simp
@[simp] theorem finishRoll_hub_requests (p : Fin 4) (w : Sweep) : (finishRoll p w s).hub.requests = s.hub.requests := by unfold finishRoll; (repeat' split) <;> simp
@[simp] theorem finishRoll_hub_tallyEvents (p : Fin 4) (w : Sweep) : (finishRoll p w s).hub.tallyEvents = s.hub.tallyEvents := by unfold finishRoll; (repeat' split) <;> simp
@[simp] theorem finishRoll_hub_tallyTimer (p : Fin 4) (w : Sweep) : (finishRoll p w s).hub.tallyTimer = s.hub.tallyTimer := by unfold finishRoll; (repeat' split) <;> simp
@[simp] theorem finishRoll_hub_seatChanges (p : Fin 4) (w : Sweep) : (finishRoll p w s).hub.seatChanges = s.hub.seatChanges := by unfold finishRoll; (repeat' split) <;> simp
@[simp] theorem finishRoll_hub_seatTimer (p : Fin 4) (w : Sweep) : (finishRoll p w s).hub.seatTimer = s.hub.seatTimer := by unfold finishRoll; (repeat' split) <;> simp
@[simp] theorem finishRoll_hub_config (p : Fin 4) (w : Sweep) : (finishRoll p w s).hub.config = s.hub.config := by unfold finishRoll; (repeat' split) <;> simp

@[simp] theorem endSweep_hub_agent (p : Fin 4) (w : Sweep) : (endSweep p w s).hub.agent = s.hub.agent := by unfold endSweep; simp
@[simp] theorem endSweep_hub_requests (p : Fin 4) (w : Sweep) : (endSweep p w s).hub.requests = s.hub.requests := by unfold endSweep; simp
@[simp] theorem endSweep_hub_tallyEvents (p : Fin 4) (w : Sweep) : (endSweep p w s).hub.tallyEvents = s.hub.tallyEvents := by unfold endSweep; simp
@[simp] theorem endSweep_hub_tallyTimer (p : Fin 4) (w : Sweep) : (endSweep p w s).hub.tallyTimer = s.hub.tallyTimer := by unfold endSweep; simp
@[simp] theorem endSweep_hub_config (p : Fin 4) (w : Sweep) : (endSweep p w s).hub.config = s.hub.config := by unfold endSweep; simp

@[simp] theorem beginBreak_hub_agent (p : Fin 4) (i : Bool) : (beginBreak p i s).hub.agent = s.hub.agent := by unfold beginBreak; simp
@[simp] theorem beginBreak_hub_requests (p : Fin 4) (i : Bool) : (beginBreak p i s).hub.requests = s.hub.requests := by unfold beginBreak; simp
@[simp] theorem beginBreak_hub_tallyEvents (p : Fin 4) (i : Bool) : (beginBreak p i s).hub.tallyEvents = s.hub.tallyEvents := by unfold beginBreak; simp
@[simp] theorem beginBreak_hub_tallyTimer (p : Fin 4) (i : Bool) : (beginBreak p i s).hub.tallyTimer = s.hub.tallyTimer := by unfold beginBreak; simp
@[simp] theorem beginBreak_hub_config (p : Fin 4) (i : Bool) : (beginBreak p i s).hub.config = s.hub.config := by unfold beginBreak; simp

@[simp] theorem endBreak_hub_agent (p : Fin 4) : (endBreak p s).hub.agent = s.hub.agent := by unfold endBreak; simp
@[simp] theorem endBreak_hub_requests (p : Fin 4) : (endBreak p s).hub.requests = s.hub.requests := by unfold endBreak; simp
@[simp] theorem endBreak_hub_tallyEvents (p : Fin 4) : (endBreak p s).hub.tallyEvents = s.hub.tallyEvents := by unfold endBreak; simp
@[simp] theorem endBreak_hub_tallyTimer (p : Fin 4) : (endBreak p s).hub.tallyTimer = s.hub.tallyTimer := by unfold endBreak; simp
@[simp] theorem endBreak_hub_seatChanges (p : Fin 4) : (endBreak p s).hub.seatChanges = s.hub.seatChanges := by unfold endBreak; simp
@[simp] theorem endBreak_hub_seatTimer (p : Fin 4) : (endBreak p s).hub.seatTimer = s.hub.seatTimer := by unfold endBreak; simp
@[simp] theorem endBreak_hub_config (p : Fin 4) : (endBreak p s).hub.config = s.hub.config := by unfold endBreak; simp

@[simp] theorem setResting_hub_agent (v : View) : (setResting v s).hub.agent = s.hub.agent := by unfold setResting; (repeat' split) <;> simp
@[simp] theorem setResting_hub_requests (v : View) : (setResting v s).hub.requests = s.hub.requests := by unfold setResting; (repeat' split) <;> simp
@[simp] theorem setResting_hub_notices (v : View) : (setResting v s).hub.notices = s.hub.notices := by unfold setResting; (repeat' split) <;> simp
@[simp] theorem setResting_hub_noticeLost (v : View) : (setResting v s).hub.noticeLost = s.hub.noticeLost := by unfold setResting; (repeat' split) <;> simp
@[simp] theorem setResting_hub_tallyEvents (v : View) : (setResting v s).hub.tallyEvents = s.hub.tallyEvents := by unfold setResting; (repeat' split) <;> simp
@[simp] theorem setResting_hub_tallyTimer (v : View) : (setResting v s).hub.tallyTimer = s.hub.tallyTimer := by unfold setResting; (repeat' split) <;> simp
@[simp] theorem setResting_hub_seatChanges (v : View) : (setResting v s).hub.seatChanges = s.hub.seatChanges := by unfold setResting; (repeat' split) <;> simp
@[simp] theorem setResting_hub_seatTimer (v : View) : (setResting v s).hub.seatTimer = s.hub.seatTimer := by unfold setResting; (repeat' split) <;> simp

@[simp] theorem restingAction_hub_agent (v : Byte) : ((restingAction v s).1).hub.agent = s.hub.agent := by unfold restingAction; (repeat' split) <;> simp
@[simp] theorem restingAction_hub_requests (v : Byte) : ((restingAction v s).1).hub.requests = s.hub.requests := by unfold restingAction; (repeat' split) <;> simp
@[simp] theorem restingAction_hub_notices (v : Byte) : ((restingAction v s).1).hub.notices = s.hub.notices := by unfold restingAction; (repeat' split) <;> simp
@[simp] theorem restingAction_hub_noticeLost (v : Byte) : ((restingAction v s).1).hub.noticeLost = s.hub.noticeLost := by unfold restingAction; (repeat' split) <;> simp
@[simp] theorem restingAction_hub_tallyEvents (v : Byte) : ((restingAction v s).1).hub.tallyEvents = s.hub.tallyEvents := by unfold restingAction; (repeat' split) <;> simp
@[simp] theorem restingAction_hub_tallyTimer (v : Byte) : ((restingAction v s).1).hub.tallyTimer = s.hub.tallyTimer := by unfold restingAction; (repeat' split) <;> simp
@[simp] theorem restingAction_hub_seatChanges (v : Byte) : ((restingAction v s).1).hub.seatChanges = s.hub.seatChanges := by unfold restingAction; (repeat' split) <;> simp
@[simp] theorem restingAction_hub_seatTimer (v : Byte) : ((restingAction v s).1).hub.seatTimer = s.hub.seatTimer := by unfold restingAction; (repeat' split) <;> simp

@[simp] theorem stepRunsOut_hub_agent (p : Playing) : (stepRunsOut p s).hub.agent = s.hub.agent := by unfold stepRunsOut; (repeat' split) <;> simp
@[simp] theorem stepRunsOut_hub_requests (p : Playing) : (stepRunsOut p s).hub.requests = s.hub.requests := by unfold stepRunsOut; (repeat' split) <;> simp
@[simp] theorem stepRunsOut_hub_tallyEvents (p : Playing) : (stepRunsOut p s).hub.tallyEvents = s.hub.tallyEvents := by unfold stepRunsOut; (repeat' split) <;> simp
@[simp] theorem stepRunsOut_hub_tallyTimer (p : Playing) : (stepRunsOut p s).hub.tallyTimer = s.hub.tallyTimer := by unfold stepRunsOut; (repeat' split) <;> simp
@[simp] theorem stepRunsOut_hub_seatChanges (p : Playing) : (stepRunsOut p s).hub.seatChanges = s.hub.seatChanges := by unfold stepRunsOut; (repeat' split) <;> simp
@[simp] theorem stepRunsOut_hub_seatTimer (p : Playing) : (stepRunsOut p s).hub.seatTimer = s.hub.seatTimer := by unfold stepRunsOut; (repeat' split) <;> simp
@[simp] theorem stepRunsOut_hub_config (p : Playing) : (stepRunsOut p s).hub.config = s.hub.config := by unfold stepRunsOut; (repeat' split) <;> simp

@[simp] theorem countStep_hub_agent : (countStep s).hub.agent = s.hub.agent := by unfold countStep; (repeat' split) <;> simp
@[simp] theorem countStep_hub_requests : (countStep s).hub.requests = s.hub.requests := by unfold countStep; (repeat' split) <;> simp
@[simp] theorem countStep_hub_tallyEvents : (countStep s).hub.tallyEvents = s.hub.tallyEvents := by unfold countStep; (repeat' split) <;> simp
@[simp] theorem countStep_hub_tallyTimer : (countStep s).hub.tallyTimer = s.hub.tallyTimer := by unfold countStep; (repeat' split) <;> simp
@[simp] theorem countStep_hub_seatChanges : (countStep s).hub.seatChanges = s.hub.seatChanges := by unfold countStep; (repeat' split) <;> simp
@[simp] theorem countStep_hub_seatTimer : (countStep s).hub.seatTimer = s.hub.seatTimer := by unfold countStep; (repeat' split) <;> simp
@[simp] theorem countStep_hub_config : (countStep s).hub.config = s.hub.config := by unfold countStep; (repeat' split) <;> simp

@[simp] theorem markSteps_hub_agent (r : Option Byte) : (markSteps r s).hub.agent = s.hub.agent := by unfold markSteps; simp
@[simp] theorem markSteps_hub_requests (r : Option Byte) : (markSteps r s).hub.requests = s.hub.requests := by unfold markSteps; simp
@[simp] theorem markSteps_hub_tallyEvents (r : Option Byte) : (markSteps r s).hub.tallyEvents = s.hub.tallyEvents := by unfold markSteps; simp
@[simp] theorem markSteps_hub_tallyTimer (r : Option Byte) : (markSteps r s).hub.tallyTimer = s.hub.tallyTimer := by unfold markSteps; simp
@[simp] theorem markSteps_hub_seatChanges (r : Option Byte) : (markSteps r s).hub.seatChanges = s.hub.seatChanges := by unfold markSteps; simp
@[simp] theorem markSteps_hub_seatTimer (r : Option Byte) : (markSteps r s).hub.seatTimer = s.hub.seatTimer := by unfold markSteps; simp
@[simp] theorem markSteps_hub_config (r : Option Byte) : (markSteps r s).hub.config = s.hub.config := by unfold markSteps; simp

@[simp] theorem markWall_hub_agent (r : Byte) : (markWall r s).hub.agent = s.hub.agent := by unfold markWall; (repeat' split) <;> simp
@[simp] theorem markWall_hub_requests (r : Byte) : (markWall r s).hub.requests = s.hub.requests := by unfold markWall; (repeat' split) <;> simp
@[simp] theorem markWall_hub_tallyEvents (r : Byte) : (markWall r s).hub.tallyEvents = s.hub.tallyEvents := by unfold markWall; (repeat' split) <;> simp
@[simp] theorem markWall_hub_tallyTimer (r : Byte) : (markWall r s).hub.tallyTimer = s.hub.tallyTimer := by unfold markWall; (repeat' split) <;> simp
@[simp] theorem markWall_hub_seatChanges (r : Byte) : (markWall r s).hub.seatChanges = s.hub.seatChanges := by unfold markWall; (repeat' split) <;> simp
@[simp] theorem markWall_hub_seatTimer (r : Byte) : (markWall r s).hub.seatTimer = s.hub.seatTimer := by unfold markWall; (repeat' split) <;> simp
@[simp] theorem markWall_hub_config (r : Byte) : (markWall r s).hub.config = s.hub.config := by unfold markWall; (repeat' split) <;> simp

@[simp] theorem takeMark_hub_agent (r : Byte) : (takeMark r s).hub.agent = s.hub.agent := by unfold takeMark; simp
@[simp] theorem takeMark_hub_requests (r : Byte) : (takeMark r s).hub.requests = s.hub.requests := by unfold takeMark; simp
@[simp] theorem takeMark_hub_tallyEvents (r : Byte) : (takeMark r s).hub.tallyEvents = s.hub.tallyEvents := by unfold takeMark; simp
@[simp] theorem takeMark_hub_tallyTimer (r : Byte) : (takeMark r s).hub.tallyTimer = s.hub.tallyTimer := by unfold takeMark; simp
@[simp] theorem takeMark_hub_seatChanges (r : Byte) : (takeMark r s).hub.seatChanges = s.hub.seatChanges := by unfold takeMark; simp
@[simp] theorem takeMark_hub_seatTimer (r : Byte) : (takeMark r s).hub.seatTimer = s.hub.seatTimer := by unfold takeMark; simp
@[simp] theorem takeMark_hub_config (r : Byte) : (takeMark r s).hub.config = s.hub.config := by unfold takeMark; simp

@[simp] theorem wallFallsSilent_hub_agent : (wallFallsSilent s).hub.agent = s.hub.agent := by unfold wallFallsSilent; simp
@[simp] theorem wallFallsSilent_hub_requests : (wallFallsSilent s).hub.requests = s.hub.requests := by unfold wallFallsSilent; simp
@[simp] theorem wallFallsSilent_hub_tallyEvents : (wallFallsSilent s).hub.tallyEvents = s.hub.tallyEvents := by unfold wallFallsSilent; simp
@[simp] theorem wallFallsSilent_hub_tallyTimer : (wallFallsSilent s).hub.tallyTimer = s.hub.tallyTimer := by unfold wallFallsSilent; simp
@[simp] theorem wallFallsSilent_hub_seatChanges : (wallFallsSilent s).hub.seatChanges = s.hub.seatChanges := by unfold wallFallsSilent; simp
@[simp] theorem wallFallsSilent_hub_seatTimer : (wallFallsSilent s).hub.seatTimer = s.hub.seatTimer := by unfold wallFallsSilent; simp
@[simp] theorem wallFallsSilent_hub_config : (wallFallsSilent s).hub.config = s.hub.config := by unfold wallFallsSilent; simp

@[simp] theorem takeInternalMark_hub_agent : (takeInternalMark s).hub.agent = s.hub.agent := by unfold takeInternalMark; simp
@[simp] theorem takeInternalMark_hub_requests : (takeInternalMark s).hub.requests = s.hub.requests := by unfold takeInternalMark; simp
@[simp] theorem takeInternalMark_hub_tallyEvents : (takeInternalMark s).hub.tallyEvents = s.hub.tallyEvents := by unfold takeInternalMark; simp
@[simp] theorem takeInternalMark_hub_tallyTimer : (takeInternalMark s).hub.tallyTimer = s.hub.tallyTimer := by unfold takeInternalMark; simp
@[simp] theorem takeInternalMark_hub_seatChanges : (takeInternalMark s).hub.seatChanges = s.hub.seatChanges := by unfold takeInternalMark; simp
@[simp] theorem takeInternalMark_hub_seatTimer : (takeInternalMark s).hub.seatTimer = s.hub.seatTimer := by unfold takeInternalMark; simp
@[simp] theorem takeInternalMark_hub_config : (takeInternalMark s).hub.config = s.hub.config := by unfold takeInternalMark; simp

@[simp] theorem applicationStep_hub_agent : (applicationStep s).hub.agent = s.hub.agent := by unfold applicationStep; simp
@[simp] theorem applicationStep_hub_requests : (applicationStep s).hub.requests = s.hub.requests := by unfold applicationStep; simp
@[simp] theorem applicationStep_hub_config : (applicationStep s).hub.config = s.hub.config := by unfold applicationStep; simp

@[simp] theorem revoke_hub_agent : (revoke s).hub.agent = s.hub.agent := by unfold revoke; simp
@[simp] theorem revoke_hub_requests : (revoke s).hub.requests = s.hub.requests := by unfold revoke; simp
@[simp] theorem revoke_hub_tallyEvents : (revoke s).hub.tallyEvents = s.hub.tallyEvents := by unfold revoke; simp
@[simp] theorem revoke_hub_tallyTimer : (revoke s).hub.tallyTimer = s.hub.tallyTimer := by unfold revoke; simp
@[simp] theorem revoke_hub_seatChanges : (revoke s).hub.seatChanges = s.hub.seatChanges := by unfold revoke; simp
@[simp] theorem revoke_hub_seatTimer : (revoke s).hub.seatTimer = s.hub.seatTimer := by unfold revoke; simp
@[simp] theorem revoke_hub_config : (revoke s).hub.config = s.hub.config := by unfold revoke; simp

@[simp] theorem revokeAction_hub_agent : ((revokeAction s).1).hub.agent = s.hub.agent := by unfold revokeAction; (repeat' split) <;> simp
@[simp] theorem revokeAction_hub_requests : ((revokeAction s).1).hub.requests = s.hub.requests := by unfold revokeAction; (repeat' split) <;> simp
@[simp] theorem revokeAction_hub_tallyEvents : ((revokeAction s).1).hub.tallyEvents = s.hub.tallyEvents := by unfold revokeAction; (repeat' split) <;> simp
@[simp] theorem revokeAction_hub_tallyTimer : ((revokeAction s).1).hub.tallyTimer = s.hub.tallyTimer := by unfold revokeAction; (repeat' split) <;> simp
@[simp] theorem revokeAction_hub_seatChanges : ((revokeAction s).1).hub.seatChanges = s.hub.seatChanges := by unfold revokeAction; (repeat' split) <;> simp
@[simp] theorem revokeAction_hub_seatTimer : ((revokeAction s).1).hub.seatTimer = s.hub.seatTimer := by unfold revokeAction; (repeat' split) <;> simp
@[simp] theorem revokeAction_hub_config : ((revokeAction s).1).hub.config = s.hub.config := by unfold revokeAction; (repeat' split) <;> simp

@[simp] theorem adjustAction_hub_agent (t : Byte) (d : Int) : ((adjustAction t d s).1).hub.agent = s.hub.agent := by unfold adjustAction; (repeat' split) <;> simp
@[simp] theorem adjustAction_hub_requests (t : Byte) (d : Int) : ((adjustAction t d s).1).hub.requests = s.hub.requests := by unfold adjustAction; (repeat' split) <;> simp
@[simp] theorem adjustAction_hub_tallyEvents (t : Byte) (d : Int) : ((adjustAction t d s).1).hub.tallyEvents = s.hub.tallyEvents := by unfold adjustAction; (repeat' split) <;> simp
@[simp] theorem adjustAction_hub_tallyTimer (t : Byte) (d : Int) : ((adjustAction t d s).1).hub.tallyTimer = s.hub.tallyTimer := by unfold adjustAction; (repeat' split) <;> simp
@[simp] theorem adjustAction_hub_seatChanges (t : Byte) (d : Int) : ((adjustAction t d s).1).hub.seatChanges = s.hub.seatChanges := by unfold adjustAction; (repeat' split) <;> simp
@[simp] theorem adjustAction_hub_seatTimer (t : Byte) (d : Int) : ((adjustAction t d s).1).hub.seatTimer = s.hub.seatTimer := by unfold adjustAction; (repeat' split) <;> simp
@[simp] theorem adjustAction_hub_config (t : Byte) (d : Int) : ((adjustAction t d s).1).hub.config = s.hub.config := by unfold adjustAction; (repeat' split) <;> simp

@[simp] theorem clearScoresAction_hub_agent : ((clearScoresAction s).1).hub.agent = s.hub.agent := by unfold clearScoresAction; (repeat' split) <;> simp
@[simp] theorem clearScoresAction_hub_requests : ((clearScoresAction s).1).hub.requests = s.hub.requests := by unfold clearScoresAction; (repeat' split) <;> simp
@[simp] theorem clearScoresAction_hub_tallyEvents : ((clearScoresAction s).1).hub.tallyEvents = s.hub.tallyEvents := by unfold clearScoresAction; (repeat' split) <;> simp
@[simp] theorem clearScoresAction_hub_tallyTimer : ((clearScoresAction s).1).hub.tallyTimer = s.hub.tallyTimer := by unfold clearScoresAction; (repeat' split) <;> simp
@[simp] theorem clearScoresAction_hub_seatChanges : ((clearScoresAction s).1).hub.seatChanges = s.hub.seatChanges := by unfold clearScoresAction; (repeat' split) <;> simp
@[simp] theorem clearScoresAction_hub_seatTimer : ((clearScoresAction s).1).hub.seatTimer = s.hub.seatTimer := by unfold clearScoresAction; (repeat' split) <;> simp
@[simp] theorem clearScoresAction_hub_config : ((clearScoresAction s).1).hub.config = s.hub.config := by unfold clearScoresAction; (repeat' split) <;> simp

@[simp] theorem assignTeam_hub_agent (k : Fin 256) (t : Option (Fin 16)) : (assignTeam k t s).hub.agent = s.hub.agent := by
  simp only [assignTeam]
  (repeat' split) <;> simp
@[simp] theorem assignTeam_hub_requests (k : Fin 256) (t : Option (Fin 16)) : (assignTeam k t s).hub.requests = s.hub.requests := by
  simp only [assignTeam]
  (repeat' split) <;> simp
@[simp] theorem assignTeam_hub_tallyEvents (k : Fin 256) (t : Option (Fin 16)) : (assignTeam k t s).hub.tallyEvents = s.hub.tallyEvents := by
  simp only [assignTeam]
  (repeat' split) <;> simp
@[simp] theorem assignTeam_hub_tallyTimer (k : Fin 256) (t : Option (Fin 16)) : (assignTeam k t s).hub.tallyTimer = s.hub.tallyTimer := by
  simp only [assignTeam]
  (repeat' split) <;> simp
@[simp] theorem assignTeam_hub_config (k : Fin 256) (t : Option (Fin 16)) : (assignTeam k t s).hub.config = s.hub.config := by
  simp only [assignTeam]
  (repeat' split) <;> simp

@[simp] theorem writeSeat_hub_agent (k : Fin 256) (r : List Byte) : ((writeSeat k r s).1).hub.agent = s.hub.agent := by unfold writeSeat; (repeat' split) <;> simp
@[simp] theorem writeSeat_hub_requests (k : Fin 256) (r : List Byte) : ((writeSeat k r s).1).hub.requests = s.hub.requests := by unfold writeSeat; (repeat' split) <;> simp
@[simp] theorem writeSeat_hub_tallyEvents (k : Fin 256) (r : List Byte) : ((writeSeat k r s).1).hub.tallyEvents = s.hub.tallyEvents := by unfold writeSeat; (repeat' split) <;> simp
@[simp] theorem writeSeat_hub_tallyTimer (k : Fin 256) (r : List Byte) : ((writeSeat k r s).1).hub.tallyTimer = s.hub.tallyTimer := by unfold writeSeat; (repeat' split) <;> simp
@[simp] theorem writeSeat_hub_config (k : Fin 256) (r : List Byte) : ((writeSeat k r s).1).hub.config = s.hub.config := by unfold writeSeat; (repeat' split) <;> simp

@[simp] theorem dropCoalescing_hub_agent (o n : Config) : (dropCoalescing o n s).hub.agent = s.hub.agent := by unfold dropCoalescing; (repeat' split) <;> simp
@[simp] theorem dropCoalescing_hub_requests (o n : Config) : (dropCoalescing o n s).hub.requests = s.hub.requests := by unfold dropCoalescing; (repeat' split) <;> simp
@[simp] theorem dropCoalescing_hub_notices (o n : Config) : (dropCoalescing o n s).hub.notices = s.hub.notices := by unfold dropCoalescing; (repeat' split) <;> simp
@[simp] theorem dropCoalescing_hub_noticeLost (o n : Config) : (dropCoalescing o n s).hub.noticeLost = s.hub.noticeLost := by unfold dropCoalescing; (repeat' split) <;> simp
@[simp] theorem dropCoalescing_hub_config (o n : Config) : (dropCoalescing o n s).hub.config = s.hub.config := by unfold dropCoalescing; (repeat' split) <;> simp

@[simp] theorem storeConfig_hub_agent (n : Config) : (storeConfig n s).hub.agent = s.hub.agent := by unfold storeConfig; simp
@[simp] theorem storeConfig_hub_requests (n : Config) : (storeConfig n s).hub.requests = s.hub.requests := by unfold storeConfig; simp
@[simp] theorem storeConfig_hub_notices (n : Config) : (storeConfig n s).hub.notices = s.hub.notices := by unfold storeConfig; simp
@[simp] theorem storeConfig_hub_noticeLost (n : Config) : (storeConfig n s).hub.noticeLost = s.hub.noticeLost := by unfold storeConfig; simp

@[simp] theorem writeConfigRecord_hub_agent (r : List Byte) : ((writeConfigRecord r s).1).hub.agent = s.hub.agent := by unfold writeConfigRecord; (repeat' split) <;> simp
@[simp] theorem writeConfigRecord_hub_requests (r : List Byte) : ((writeConfigRecord r s).1).hub.requests = s.hub.requests := by unfold writeConfigRecord; (repeat' split) <;> simp
@[simp] theorem writeConfigRecord_hub_notices (r : List Byte) : ((writeConfigRecord r s).1).hub.notices = s.hub.notices := by unfold writeConfigRecord; (repeat' split) <;> simp
@[simp] theorem writeConfigRecord_hub_noticeLost (r : List Byte) : ((writeConfigRecord r s).1).hub.noticeLost = s.hub.noticeLost := by unfold writeConfigRecord; (repeat' split) <;> simp

@[simp] theorem writeRecord_hub_agent (t : Table) (i : Nat) (r : List Byte) : ((writeRecord t i r s).1).hub.agent = s.hub.agent := by
  unfold writeRecord onIndex
  (repeat' split) <;> simp
@[simp] theorem writeRecord_hub_requests (t : Table) (i : Nat) (r : List Byte) : ((writeRecord t i r s).1).hub.requests = s.hub.requests := by
  unfold writeRecord onIndex
  (repeat' split) <;> simp

end Sys2Proof.Machine
end

