-- ==== Sys2Proof/Laws/Requests.lean ====
section
/-! SUPPORT. What the shared operations of the requests, the notices, the composes and the ranking passes can do: one lemma
for each, which later proofs cite instead of unfolding the operation. -/

namespace Sys2Proof.Machine

/-! ## The end of a decode -/

theorem decodeEnds_iff (payload : List Byte) (s : State) : decodeEnds payload s = true ↔ Decoding payload s := by
  unfold decodeEnds Decoding tickPassed
  cases s.hub.agent <;> simp

/-- An execution of a request that fits, while no load runs. -/
theorem executeRequest_executing {payload : List Byte} {s : State} (execute : State → Executed)
    (h : Executing payload s) (fits : payloadFits payload = true) :
    executeRequest payload execute s =
      .next (settleLinks (nextRequest (placeReply payload (execute s).status (execute s).body (execute s).state))) := by
  simp [executeRequest, (decodeEnds_iff payload s).mpr h.1, checkedExecution, h.2, fits, finish]

/-- Any request but STATUS is answered BUSY while a load runs. -/
theorem executeRequest_loading {payload : List Byte} {s : State} (execute : State → Executed)
    (h : Decoding payload s) (run : s.loader.running = true) (kind : u8 payload 1 ≠ 6) :
    executeRequest payload execute s =
      .next (settleLinks (nextRequest (placeReply payload .busy (openBody payload s) (s.withFree (s.free + 1))))) := by
  simp [executeRequest, (decodeEnds_iff payload s).mpr h, checkedExecution, run, kind, finish, notExecuted]

/-- A request whose decode does not end now does nothing. -/
theorem executeRequest_idle {payload : List Byte} {s : State} (execute : State → Executed) (h : ¬ Decoding payload s) :
    executeRequest payload execute s = .next s := by
  simp [executeRequest, (not_iff_not.mpr (decodeEnds_iff payload s)).mpr h]

/-- An action's execution and REPLY. -/
theorem runAction_executing {payload : List Byte} {s : State} (act : State → State × Status)
    (h : Executing payload s) (fits : payloadFits payload = true) :
    runAction payload act s =
      .next (settleLinks (nextRequest (placeReply payload (act s).2 [] (act s).1))) := by
  rw [runAction, executeRequest_executing _ h fits]; rfl

@[simp] theorem placeReply_link (payload : List Byte) (st : Status) (body : List Byte) (s : State) :
    (placeReply payload st body s).link =
      { s.link with replies := s.link.replies ++ [[payload.getD 0 0, payload.getD 1 0, st.code] ++ body] } := rfl

@[simp] theorem nextRequest_hub (s : State) :
    (nextRequest s).hub =
      { s.hub with
        agent := (match s.hub.requests with | r :: _ => .decoding r s.now | [] => .idle)
        requests := s.hub.requests.tail } := by
  unfold nextRequest
  cases h : s.hub.requests <;> simp [h]

theorem takesNext_iff (s u : State) :
    TakesNext s u ↔ u.hub.agent = (match s.hub.requests with | r :: _ => Agent.decoding r s.now | [] => .idle)
      ∧ u.hub.requests = s.hub.requests.tail := by
  unfold TakesNext; cases s.hub.requests <;> simp

/-! ## Notices -/

/-- The Hub Agent after a notice is built (R170). -/
def Hub.enqueued (n : Notice) (h : Hub) : Hub :=
  match noticeMatched n h.notices with
  | some queue => { h with notices := queue }
  | none =>
    if h.notices.length < 8 then { h with notices := h.notices ++ [n] } else { h with noticeLost := true }

theorem enqueueNotice_hub (n : Notice) (s : State) : (enqueueNotice n s).hub = s.hub.enqueued n := by
  unfold enqueueNotice Hub.enqueued
  cases h : noticeMatched n s.hub.notices with
  | some q => simp
  | none => simp only []; split <;> simp

/-- R170: what building a notice does to the queue depends on the queue alone. -/
theorem enqueueNotice_queue (n : Notice) {s t : State} (h : s.hub.notices = t.hub.notices)
    (h' : s.hub.noticeLost = t.hub.noticeLost) :
    (enqueueNotice n s).hub.notices = (enqueueNotice n t).hub.notices
      ∧ (enqueueNotice n s).hub.noticeLost = (enqueueNotice n t).hub.noticeLost := by
  unfold enqueueNotice
  rw [h]
  cases noticeMatched n t.hub.notices with
  | some q => exact ⟨rfl, h'⟩
  | none => simp only []; split <;> simp [h, h']

/-- The Hub Agent after a SEAT event (R169), from the seat's record and the show time. -/
theorem raiseSeat_hub (k : Fin 256) (c : Causes) (s : State) :
    (raiseSeat k c s).hub =
      if (s.hub.config.enabled.getLsbD 3 && c.any) = true then
        let x := s.seats[k]
        let changes := mergeChange ⟨k, c, x.presence, x.team, x.cls, x.battery, s.now⟩ s.hub.seatChanges
        if 16 ≤ changes.length ∨ s.hub.config.seatWait = 0 then
          ({ s.hub with seatChanges := [], seatTimer := none } : Hub).enqueued ⟨.seats changes, s.now⟩
        else { s.hub with
          seatChanges := changes
          seatTimer := if s.hub.seatChanges = [] then some (after s.now (s.hub.config.seatWait * 80))
            else s.hub.seatTimer }
      else s.hub := by
  unfold raiseSeat kindEnabled
  simp only [NoticeKind.code]
  split
  · split
    · rw [buildSeat, enqueueNotice_hub]; rfl
    · rfl
  · rfl

/-- The Notice Queue after a notice event (R167, R170), from the configuration, the event's notice and the queue. -/
def queueAfter (c : Config) (n : Notice) (q : List Notice) : List Notice :=
  if c.enabled.getLsbD n.body.kind.code then
    match noticeMatched n q with
    | some q' => q'
    | none => if q.length < 8 then q ++ [n] else q
  else q

/-- NOTICE_LOST after a notice event (R170). -/
def lostAfter (c : Config) (n : Notice) (q : List Notice) (lost : Bool) : Bool :=
  if c.enabled.getLsbD n.body.kind.code then
    match noticeMatched n q with
    | some _ => lost
    | none => if q.length < 8 then lost else true
  else lost

@[simp] theorem raiseNotice_notices (b : NoticeBody) (s : State) :
    (raiseNotice b s).hub.notices = queueAfter s.hub.config ⟨b, s.now⟩ s.hub.notices := by
  unfold raiseNotice enqueueNotice kindEnabled queueAfter
  split
  · cases noticeMatched ⟨b, s.now⟩ s.hub.notices with
    | some x => simp
    | none => simp only []; split <;> simp
  · rfl

@[simp] theorem raiseNotice_noticeLost (b : NoticeBody) (s : State) :
    (raiseNotice b s).hub.noticeLost = lostAfter s.hub.config ⟨b, s.now⟩ s.hub.notices s.hub.noticeLost := by
  unfold raiseNotice enqueueNotice kindEnabled lostAfter
  split
  · cases noticeMatched ⟨b, s.now⟩ s.hub.notices with
    | some x => simp
    | none => simp only []; split <;> simp
  · rfl

@[simp] theorem noticesRaised_nil (s u : State) :
    NoticesRaised [] s u ↔ u.hub.notices = s.hub.notices ∧ u.hub.noticeLost = s.hub.noticeLost := Iff.rfl

@[simp] theorem noticesRaised_cons (b : NoticeBody) (bs : List NoticeBody) (s u : State) :
    NoticesRaised (b :: bs) s u ↔ NoticesRaised bs (raiseNotice b s) u := Iff.rfl

/-- What a notice event does to the queue (R167, R170) when no queued notice takes it: nothing when its kind is not enabled,
and otherwise it is appended, or lost. -/
theorem raiseNotice_queue (b : NoticeBody) (s : State) (h : noticeMatched ⟨b, s.now⟩ s.hub.notices = none) :
    raiseNotice b s =
      if kindEnabled b.kind s then
        if s.hub.notices.length < 8 then s.withHub { s.hub with notices := s.hub.notices ++ [⟨b, s.now⟩] }
        else s.withHub { s.hub with noticeLost := true }
      else s := by
  unfold raiseNotice enqueueNotice
  rw [h]

/-! ## Ranking passes and composes -/

/-- The ranked list depends on the roster and the scores alone. -/
theorem rankedStandings_congr {s t : State} (h : s.teams = t.teams) (h' : s.score.table = t.score.table) :
    rankedStandings s = rankedStandings t := by
  simp [rankedStandings, activeStandings, h, h']

@[simp] theorem triggerRanking_sorter (s : State) :
    (triggerRanking s).sorter =
      if s.sorter.running then { s.sorter with rerank := true }
      else { s.sorter with working := rankedStandings s, running := true, start := s.now } := by
  unfold triggerRanking startRanking; split <;> simp

/-- A trigger on a state that has the roster, scores, sorter and time of the final one. -/
theorem triggered_of (t : State) {s u : State} (hs : u.sorter = (triggerRanking t).sorter) (h : t.sorter = s.sorter)
    (n : t.now = s.now) (ht : u.teams = t.teams) (hc : u.score.table = t.score.table) : Triggered s u := by
  unfold Triggered
  rw [hs, triggerRanking_sorter, h, n, rankedStandings_congr ht hc]
  split <;> rfl

/-- The composed view depends on these blocks alone. -/
theorem composedView_congr {s t : State} (hn : s.now = t.now) (hp : s.comp.player = t.comp.player)
    (hc : s.hub.config = t.hub.config) (hq : s.questions = t.questions) (ht : s.teams = t.teams)
    (hr : s.round = t.round) (ha : s.resp = t.resp) (hb : s.buzz = t.buzz)
    (hl : s.sorter.published = t.sorter.published) : composedView s = composedView t := by
  simp only [composedView, shownStep, hn, hp, hc]
  have e : ∀ v c, viewExtra s v c = viewExtra t v c := by
    intro v c
    cases v <;> simp [viewExtra, holderTeam, countdownFigure, windowRemaining, hn, hq, hr, ha, hb]
  have w : ∀ v hl' inv c, viewRows s v hl' inv c = viewRows t v hl' inv c := by
    intro v hl' inv c
    have hg : headerQuestion s = headerQuestion t := by simp only [headerQuestion, ha, hq]
    have hh : histogramRows s = histogramRows t := by
      simp only [histogramRows, histogramRows.rows, hg, ha]
    cases v <;> simp [viewRows, teamRow, hh, ht, hb, hl]
  cases t.comp.player <;> simp [e, w]

/-- Of the Round Record a view shows the current question and the window alone (R127). -/
theorem composedView_round (s : State) {r : Round} (hc : r.current = s.round.current) (hw : r.window = s.round.window) :
    composedView (s.withRound r) = composedView s := by
  have e : ∀ v c, viewExtra (s.withRound r) v c = viewExtra s v c := by
    intro v c
    cases v <;> simp [viewExtra, holderTeam, countdownFigure, windowRemaining, hc, hw]
    rfl
  have w : ∀ v a b c, viewRows (s.withRound r) v a b c = viewRows s v a b c := by
    intro v a b c
    cases v <;> rfl
  simp [composedView, shownStep, e, w]

/-- What a change of data for the current view does to the Composer. -/
@[simp] theorem reportChange_comp (counts : View → Bool) (s : State) :
    (reportChange counts s).comp =
      if counts (currentView s) = false then s.comp
      else if s.comp.backState = .composing then { s.comp with recompose := true }
      else { s.comp with back := composedView s, backState := .composing, composeStart := s.now } := by
  unfold reportChange recompose startCompose
  cases counts (currentView s) <;> cases s.comp.backState <;> simp

@[simp] theorem recompose_comp (s : State) :
    (Machine.recompose s).comp =
      if s.comp.backState = .composing then { s.comp with recompose := true }
      else { s.comp with back := composedView s, backState := .composing, composeStart := s.now } := by
  unfold Machine.recompose startCompose
  cases s.comp.backState <;> simp

end Sys2Proof.Machine
end

