-- ==== Sys2Proof/Laws/Seats.lean ====
section
/-! SUPPORT. What the shared operations of the Seat Directory and of the Feedback Queues can do: one lemma for each, which later
proofs cite instead of unfolding the operation. -/

namespace Sys2Proof.Machine

/-! ## Vectors and numbers -/

theorem vector_set_get {α : Type} {n : Nat} (v : Vector α n) (i j : Fin n) (x : α) :
    (v.set i x)[j] = if j = i then x else v[j] := by
  by_cases h : j = i
  · subst h; simp
  · have : (i : Nat) ≠ (j : Nat) := fun e => h (Fin.ext e.symm)
    simp [h, Vector.getElem_set_ne, this]

/-! Each reading of one port or seat comes in two spellings: with an index of type Fin, for rewriting, and with its value, the
spelling that simp puts such a reading into. -/

theorem setPort_get (s : State) (p o : Fin 4) (x : Port) :
    (s.setPort p x).ports[o] = if o = p then x else s.ports[o] := vector_set_get _ _ _ _

@[simp] theorem setPort_get_val (s : State) (p o : Fin 4) (x : Port) :
    (s.setPort p x).ports[o.val] = if o = p then x else s.ports[o.val] := vector_set_get _ _ _ _

theorem setSeat_get (s : State) (k j : Fin 256) (x : Seat) :
    (s.setSeat k x).seats[j] = if j = k then x else s.seats[j] := vector_set_get _ _ _ _

@[simp] theorem setSeat_get_val (s : State) (k j : Fin 256) (x : Seat) :
    (s.setSeat k x).seats[j.val] = if j = k then x else s.seats[j.val] := vector_set_get _ _ _ _

theorem mapSeats_get (s : State) (f : Fin 256 → Seat → Seat) (k : Fin 256) :
    (s.mapSeats f).seats[k] = f k s.seats[k] := by simp [State.mapSeats]

@[simp] theorem mapSeats_get_val (s : State) (f : Fin 256 → Seat → Seat) (k : Fin 256) :
    (s.mapSeats f).seats[k.val] = f k s.seats[k.val] := mapSeats_get s f k

@[simp] theorem portOf_seatOf (p : Fin 4) (pos : Fin 64) : portOf (seatOf p pos) = p := by
  ext; simp only [portOf, seatOf]; omega

@[simp] theorem posOf_seatOf (p : Fin 4) (pos : Fin 64) : posOf (seatOf p pos) = pos := by
  ext; simp only [posOf, seatOf]; omega

theorem seatOf_portOf (k : Fin 256) : seatOf (portOf k) (posOf k) = k := by
  ext; simp only [portOf, posOf, seatOf]; omega

theorem seatOf_injective {p : Fin 4} {a b : Fin 64} (h : seatOf p a = seatOf p b) : a = b := by
  have := congrArg posOf h; simpa using this

theorem mem_portSeats {p : Fin 4} {k : Fin 256} : k ∈ portSeats p ↔ portOf k = p := by
  simp only [portSeats, List.mem_map, List.mem_finRange, true_and]
  constructor
  · rintro ⟨a, rfl⟩; simp
  · rintro rfl; exact ⟨posOf k, seatOf_portOf k⟩

theorem portSeats_nodup (p : Fin 4) : (portSeats p).Nodup :=
  (List.nodup_finRange 64).map fun _ _ h => seatOf_injective h

/-! ## Feedback Queues -/

theorem emptyFeedback_seat (p : Fin 4) (s : State) (k : Fin 256) :
    (emptyFeedback p s).seats[k] =
      { s.seats[k] with queued := s.seats[k].queued && !decide (portOf k = p ∧ posOf k ∈ s.ports[p].feedback) } := by
  simp only [emptyFeedback, setPort_seats, mapSeats_get]
  by_cases h : portOf k = p ∧ posOf k ∈ s.ports[p].feedback
  · simp only [if_pos h, decide_eq_true h]; simp
  · simp only [if_neg h, decide_eq_false h]; simp

theorem emptyFeedback_port (p o : Fin 4) (s : State) :
    (emptyFeedback p s).ports[o] = if o = p then { s.ports[p] with feedback := [] } else s.ports[o] := by
  simp only [emptyFeedback, setPort_get, mapSeats_ports]

theorem startLampSweep_port (p o : Fin 4) (s : State) :
    (startLampSweep p s).ports[o] =
      if o = p then { s.ports[p] with feedback := [], lampNext := some 0 } else s.ports[o] := by
  by_cases h : o = p <;> simp only [startLampSweep, setPort_get, emptyFeedback_port, h, if_true, if_false]

theorem startLampSweep_seat (p : Fin 4) (s : State) (k : Fin 256) :
    (startLampSweep p s).seats[k] =
      { s.seats[k] with queued := s.seats[k].queued && !decide (portOf k = p ∧ posOf k ∈ s.ports[p].feedback) } := by
  simp only [startLampSweep, setPort_seats, emptyFeedback_seat]

/-- R51: what a request to queue a position does. -/
theorem queueFeedback_asked (k : Fin 256) (s : State) : FeedbackAsked k s (queueFeedback k s) := by
  refine ⟨?_, ?_, ?_⟩
  · intro b hb; cases b <;> simp [Block.same] at hb ⊢
  · intro o ho
    unfold queueFeedback
    simp only []
    split
    · rfl
    · split
      · rfl
      · split
        · rfl
        · split
          · rw [setPort_get, if_neg ho, setSeat_ports]
          · rw [startLampSweep_port, if_neg ho]
  · by_cases h1 : s.ports[portOf k].state = .sweeping
    · by_cases h2 : s.ports[portOf k].cfg.positions ≤ (posOf k).val
      · rw [if_pos (Or.inr (Or.inl h2))]; simp only [queueFeedback, ne_eq, h1, not_true_eq_false, if_false, if_pos h2, and_self]
      · by_cases h3 : posOf k ∈ s.ports[portOf k].feedback
        · rw [if_pos (Or.inr (Or.inr h3))]; simp only [queueFeedback, ne_eq, h1, not_true_eq_false, if_false, if_neg h2, if_pos h3, and_self]
        · rw [if_neg (by rintro (h | h | h) <;> contradiction)]
          by_cases h4 : s.ports[portOf k].feedback.length < 16
          · rw [if_pos h4]
            simp only [queueFeedback, ne_eq, h1, not_true_eq_false, if_false, if_neg h2, if_neg h3, if_pos h4]
            exact ⟨by simp only [setPort_get, if_true], by intro j; simp only [setPort_seats, setSeat_get]⟩
          · rw [if_neg h4]
            simp only [queueFeedback, ne_eq, h1, not_true_eq_false, if_false, if_neg h2, if_neg h3, if_neg h4]
            refine ⟨by simp only [startLampSweep_port, if_true, h1], fun j => ?_⟩
            rw [startLampSweep_seat]
            by_cases h : portOf j = portOf k ∧ posOf j ∈ s.ports[portOf k].feedback
            · simp only [if_pos h, decide_eq_true h]; simp
            · simp only [if_neg h, decide_eq_false h]; simp
    · rw [if_pos (Or.inl h1)]; simp only [queueFeedback, ne_eq, h1, not_false_eq_true, if_true, and_self]

/-- A request to queue a position changes queued flags alone of the seats. -/
theorem queueFeedback_seat (k : Fin 256) (s : State) (j : Fin 256) :
    (queueFeedback k s).seats[j] = { s.seats[j] with queued := (queueFeedback k s).seats[j].queued } := by
  have h := (queueFeedback_asked k s).2.2
  revert h
  simp only []
  split
  · rintro ⟨h, -⟩; rw [h]
  · split
    · rintro ⟨-, h⟩; rw [h j]; split
      · rename_i e; subst e; rfl
      · rfl
    · rintro ⟨-, h⟩; rw [h j]; split <;> rfl

/-- R39: what a single-seat lamp request does. -/
theorem requestLamp_shown (k : Fin 256) (lamp : Lamp) (s : State) : LampShown k lamp s (requestLamp k lamp s) := by
  unfold LampShown requestLamp
  by_cases h : s.seats[k].lamp = lamp
  · simp only [if_pos h, and_self]
  · rw [if_neg h, if_neg h]
    refine ⟨_, _, ?_, ?_, queueFeedback_asked k (s.setSeat k { s.seats[k] with lamp := lamp }), rfl, rfl⟩
    · intro j; rw [setSeat_get]
    · intro b hb; cases b <;> simp [Block.same] at hb ⊢

/-- A lamp request seen from two states with the same seats and ports. -/
theorem LampShown.congr {k : Fin 256} {lamp : Lamp} {s s' u u' : State} (h : LampShown k lamp s u)
    (hs : s'.seats = s.seats) (hp : s'.ports = s.ports) (hu : u'.seats = u.seats) (hq : u'.ports = u.ports) :
    LampShown k lamp s' u' := by
  unfold LampShown at h ⊢
  rw [hs, hp, hu, hq]
  split
  · rename_i hl; rw [if_pos hl] at h; exact h
  · rename_i hl; rw [if_neg hl] at h
    obtain ⟨a, b, h1, h2, h3, h4, h5⟩ := h
    refine ⟨(s'.withSeats a.seats), (s'.withSeats b.seats).withPorts b.ports, ?_, ?_, ?_, ?_, ?_⟩
    · intro j; simpa using h1 j
    · intro x hx; cases x <;> simp [Block.same] at hx ⊢
    · have hap : a.ports = s.ports := h2 .ports (by simp)
      obtain ⟨f1, f2, f3⟩ := h3
      refine ⟨?_, ?_, ?_⟩
      · intro x hx; cases x <;> simp [Block.same] at hx ⊢
      · intro o ho; have := f2 o ho; rw [hap] at this; simpa [hp] using this
      · rw [hap] at f3; simpa [hp] using f3
    · simpa using h4
    · simpa using h5

/-- R39: lamps asked for the seats of a list that pass a test, one after the other. -/
theorem requestLamps_shown (lamp : Fin 256 → Lamp) (asked : Fin 256 → Bool) (l : List (Fin 256)) (s : State) :
    LampsShown ((l.filter asked).map fun k => (k, lamp k)) s
      (l.foldl (fun s k => if asked k then requestLamp k (lamp k) s else s) s) := by
  induction l generalizing s with
  | nil => exact ⟨rfl, rfl⟩
  | cons k l ih =>
    simp only [List.foldl_cons, List.filter_cons]
    by_cases h : asked k = true
    · rw [if_pos h, if_pos h]
      refine ⟨_, requestLamp_shown k (lamp k) s, ?_, ih _⟩
      intro b hb; cases b <;> simp [Block.same] at hb ⊢
    · rw [if_neg h, if_neg h]; exact ih s

/-- Lamps asked for, seen from another state with the same seats and ports. -/
theorem LampsShown.congr : ∀ {l : List (Fin 256 × Lamp)} {s s' u : State}, s.seats = s'.seats → s.ports = s'.ports →
    LampsShown l s u → ∃ u', LampsShown l s' u' ∧ u'.seats = u.seats ∧ u'.ports = u.ports
  | [], _, s', _, h, h', e => ⟨s', ⟨rfl, rfl⟩, by rw [← h]; exact e.1.symm, by rw [← h']; exact e.2.symm⟩
  | (k, x) :: l, s, s', u, h, h', ⟨a, h1, h2, h3⟩ => by
    obtain ⟨u', g, g1, g2⟩ := LampsShown.congr (l := l) (s := a) (s' := (s'.withSeats a.seats).withPorts a.ports) rfl rfl h3
    refine ⟨u', ⟨(s'.withSeats a.seats).withPorts a.ports, h1.congr h.symm h'.symm rfl rfl, ?_, g⟩, g1, g2⟩
    intro b hb; cases b <;> simp [Block.same] at hb ⊢

theorem SeatEvent.congr {k : Fin 256} {c : Causes} {s s' u u' : State} (h : SeatEvent k c s u)
    (hh : s'.hub = s.hub) (hn : s'.now = s.now) (hu : u'.seats = u.seats)
    (h1 : u'.hub.seatChanges = u.hub.seatChanges) (h2 : u'.hub.seatTimer = u.hub.seatTimer)
    (h3 : u'.hub.notices = u.hub.notices) (h4 : u'.hub.noticeLost = u.hub.noticeLost) : SeatEvent k c s' u' := by
  have e : (raiseSeat k c (s'.withSeats u'.seats)).hub = (raiseSeat k c (s.withSeats u.seats)).hub := by
    rw [raiseSeat_hub, raiseSeat_hub]
    simp only [withSeats_hub, withSeats_now, withSeats_seats, hh, hn, hu]
    rfl
  unfold SeatEvent at h ⊢
  simp only [e, h1, h2, h3, h4]
  exact h

/-! ## Folds over the seats -/

/-- A fold that changes only the seat it is at, each by a function of that seat's own record, changes each listed seat so. -/
theorem foldl_seats {β : Type} (step : State → β → State) (seat : β → Fin 256) (f : β → Seat → Seat)
    (h : ∀ s b, ∀ j : Fin 256, (step s b).seats[j] = if j = seat b then f b s.seats[seat b] else s.seats[j]) (l : List β)
    (hl : (l.map seat).Nodup) (s : State) (j : Fin 256) :
    (∀ b ∈ l, seat b = j → (l.foldl step s).seats[j] = f b s.seats[j])
      ∧ ((∀ b ∈ l, seat b ≠ j) → (l.foldl step s).seats[j] = s.seats[j]) := by
  induction l generalizing s with
  | nil => simp
  | cons b l ih =>
    rw [List.map_cons, List.nodup_cons] at hl
    rw [List.foldl_cons]
    obtain ⟨i1, i2⟩ := ih hl.2 (step s b)
    constructor
    · intro c hc e
      rcases List.mem_cons.mp hc with rfl | hc
      · subst e
        rw [i2 (fun d hd e' => hl.1 (by rw [← e']; exact List.mem_map_of_mem hd)), h, if_pos rfl]
      · rw [i1 c hc e, h, if_neg]
        intro e'; exact hl.1 (by rw [← e', ← e]; exact List.mem_map_of_mem hc)
    · intro hn
      rw [i2 (fun d hd => hn d (List.mem_cons_of_mem _ hd)), h, if_neg]
      intro e; exact hn b List.mem_cons_self e.symm

theorem setPresence_seat (loud : Bool) (k : Fin 256) (x : Seat) (s : State) (j : Fin 256) :
    (setPresence loud k x s).seats[j] = if j = k then x else s.seats[j] := by
  simp only [setPresence, raiseSeat_seats, setSeat_get]

/-- An event without a cause is none. -/
@[simp] theorem raiseSeat_none (k : Fin 256) (s : State) : raiseSeat k Causes.none s = s := by
  simp [raiseSeat, Causes.any, Causes.none]

/-- A presence that does not change raises no event. -/
theorem setPresence_same (loud : Bool) (k : Fin 256) (x : Seat) (s : State) (h : x.presence = s.seats[k].presence) :
    setPresence loud k x s = s.setSeat k x := by
  simp [setPresence, raiseSeat, Causes.any, Causes.none, h]

/-- R36: the seats of a stopped port. -/
theorem absentPort_seat (loud : Bool) (p : Fin 4) (s : State) (k : Fin 256) :
    (absentPort loud p s).seats[k] =
      if portOf k = p then { s.seats[k] with presence := .absent, missed := 0, battery := false } else s.seats[k] := by
  have h := foldl_seats
    (fun s k => setPresence loud k { s.seats[k] with presence := .absent, missed := 0, battery := false } s) id
    (fun _ x => { x with presence := .absent, missed := 0, battery := false })
    (fun s b j => by rw [setPresence_seat]; rfl) (portSeats p) (by simpa using portSeats_nodup p) s k
  unfold absentPort
  by_cases hk : portOf k = p
  · rw [if_pos hk]; exact h.1 k (mem_portSeats.mpr hk) rfl
  · rw [if_neg hk]; exact h.2 (fun b hb e => hk (by rw [← e]; exact mem_portSeats.mp hb))

/-- R36: the seats of a port in break. -/
theorem silencePort_seat (p : Fin 4) (s : State) (k : Fin 256) :
    (silencePort p s).seats[k] =
      if portOf k = p ∧ (posOf k).val < s.ports[p].cfg.positions then { s.seats[k] with presence := .silent }
      else s.seats[k] := by
  have h := foldl_seats (fun s k => setPresence true k { s.seats[k] with presence := .silent } s) id
    (fun _ x => { x with presence := .silent }) (fun s b j => by rw [setPresence_seat]; rfl)
    ((portSeats p).filter fun k => (posOf k).val < s.ports[p].cfg.positions)
    (by simpa using (portSeats_nodup p).filter _) s k
  unfold silencePort
  by_cases hk : portOf k = p ∧ (posOf k).val < s.ports[p].cfg.positions
  · rw [if_pos hk]
    exact h.1 k (List.mem_filter.mpr ⟨mem_portSeats.mpr hk.1, by simpa using hk.2⟩) rfl
  · rw [if_neg hk]
    refine h.2 (fun b hb e => hk ?_)
    have hb := List.mem_filter.mp hb
    rw [← e]; exact ⟨mem_portSeats.mp hb.1, by simpa using hb.2⟩

theorem applyPendingSeat_seat (loud : Bool) (k : Fin 256) (s : State) (j : Fin 256) :
    (applyPendingSeat loud k s).seats[j] =
      if j = k then { s.seats[k] with team := s.seats[k].pending.getD s.seats[k].team, pending := none }
      else s.seats[j] := by
  unfold applyPendingSeat
  split
  · rename_i h
    split
    · rename_i e
      rw [h]
      subst e
      cases hs : s.seats[j]
      rw [hs] at h
      simp only at h
      rw [h]; rfl
    · rfl
  · rename_i t h
    rw [raiseSeat_seats, setSeat_get, h]
    rfl

/-- R29: the seats once the pending teams are applied. -/
theorem applyPending_seat (loud : Bool) (s : State) (k : Fin 256) :
    (applyPending loud s).seats[k] =
      { s.seats[k] with team := s.seats[k].pending.getD s.seats[k].team, pending := none } :=
  (foldl_seats (fun s k => applyPendingSeat loud k s) id
    (fun _ x => { x with team := x.pending.getD x.team, pending := none })
    (fun s b j => by rw [applyPendingSeat_seat]; rfl) (List.finRange 256) (by simpa using List.nodup_finRange 256) s k).1 k
    (List.mem_finRange k) rfl

/-- With no pending team nothing happens. -/
theorem applyPending_none (loud : Bool) (s : State) (h : ∀ k : Fin 256, s.seats[k].pending = none) :
    applyPending loud s = s := by
  unfold applyPending
  have e : ∀ k, applyPendingSeat loud k s = s := by intro k; unfold applyPendingSeat; rw [h k]
  have : ∀ l : List (Fin 256), l.foldl (fun s k => applyPendingSeat loud k s) s = s := by
    intro l; induction l with
    | nil => rfl
    | cons a l ih => rw [List.foldl_cons, e, ih]
  exact this _

theorem lampsOff_seat (keep : Lamp → Bool) (s : State) (k : Fin 256) :
    (lampsOff keep s).seats[k] = if keep s.seats[k].lamp then s.seats[k] else { s.seats[k] with lamp := .off } := by
  simp only [lampsOff, mapSeats_get]

end Sys2Proof.Machine
end

