-- ==== Sys2Proof/Laws/Ports.lean ====
section
/-! SUPPORT. What the shared operations of the Row Port Controllers can do: one lemma for each, which later proofs cite instead of
unfolding the operation. -/

namespace Sys2Proof.Machine

/-! ## Beacons -/

theorem sum_foldl (l : List Byte) (b : Byte) : l.foldl (· + ·) b = b + l.sum := by
  induction l generalizing b with
  | nil => simp
  | cons a l ih => rw [List.foldl_cons, ih, List.sum_cons, BitVec.add_assoc]

/-- R176: the check byte of a beacon makes the sum of its bytes after the start mark 0. -/
theorem Beacon.bytes_sum (b : Beacon) : (b.bytes.drop 1).sum = 0 := by
  simp [Beacon.bytes, sum_foldl]

/-- R49: a beacon has 33 bytes. -/
theorem Beacon.bytes_length (b : Beacon) : b.bytes.length = 33 := by
  have h : ∀ f : Nat → List Byte, (∀ i, (f i).length = 3) → ((List.range 6).map f).flatten.length = 18 := by
    intro f hf
    have e : List.length ∘ f = fun _ => 3 := funext hf
    rw [List.length_flatten, List.map_map, e]; rfl
  simp only [Beacon.bytes, Beacon.fields, List.length_cons, List.length_append, Summary.bytes, List.length_nil,
    List.length_map, List.length_range]
  rw [h]
  intro i; split <;> rfl

theorem position_val {n : Nat} (h : n < 64) : (position n).val = n := Nat.mod_eq_of_lt h

theorem Port.checks_val (p : Port) (h1 : 1 ≤ p.cfg.positions) (h2 : p.cfg.positions ≤ 64) :
    p.checks.map Fin.val = (List.range p.checkCount).map fun i => (p.pointer + i) % p.cfg.positions := by
  unfold Port.checks
  rw [List.map_map]
  apply List.map_congr_left
  intro i _
  exact position_val (Nat.lt_of_lt_of_le (Nat.mod_lt _ (by omega)) h2)

theorem Port.lampPositions_val (p : Port) (h2 : p.cfg.positions ≤ 64) :
    p.lampPositions.map Fin.val =
      match p.lampNext with | some m => (List.range (min 6 (p.cfg.positions - m))).map fun i => m + i | none => [] := by
  unfold Port.lampPositions
  cases p.lampNext with
  | none => rfl
  | some m =>
    simp only [List.map_map]
    apply List.map_congr_left
    intro i hi
    have := List.mem_range.mp hi
    exact position_val (by omega)

theorem Port.queueRoom_eq (p : Port) : p.queueRoom = if p.lampAfter = none then 6 - p.lampPositions.length else 0 := by
  unfold Port.queueRoom; cases p.lampAfter <;> simp

theorem Port.afterBeacon_eq (p : Port) (b : Beacon) (now : Time) :
    p.afterBeacon b now = { p with
      lastSequence := b.sequence
      sweepTimer := some (after now (p.cfg.period * 8))
      sweep := some ⟨b, b.bytes, now, [], [], false, p.sweep.isNone⟩
      feedback := p.feedback.drop p.queueRoom
      lampNext := p.lampAfter
      checkPointer := (p.pointer + p.checkCount) % p.cfg.positions
      roll := p.roll.map fun m => m - 1 } := by
  unfold Port.afterBeacon
  congr 1
  cases p.roll with
  | none => rfl
  | some m => cases m <;> rfl

/-- R48 to R53, R63: a sweep starts. The state t differs from s in what the caller has already done to port p, and in queued
flags. -/
theorem startSweep_sent (p : Fin 4) (s t : State) (h1 : 1 ≤ t.ports[p].cfg.positions) (h2 : t.ports[p].cfg.positions ≤ 64)
    (hn : t.now = s.now) (hr : t.round = s.round) (hq : t.questions = s.questions) (hs : t.stamper = s.stamper)
    (ho : ∀ o : Fin 4, o ≠ p → t.ports[o] = s.ports[o])
    (hk : ∀ k : Fin 256, t.seats[k].lastPress = s.seats[k].lastPress ∧ t.seats[k].lamp = s.seats[k].lamp) :
    BeaconSent p t.ports[p] s (startSweep p t) := by
  have seat : ∀ pos, feedbackEntry p t pos = ⟨pos, s.seats[seatOf p pos].lastPress, s.seats[seatOf p pos].lamp⟩ := by
    intro pos; simp only [feedbackEntry, hk]
  have room : t.ports[p].queueRoom =
      (if (match t.ports[p].lampNext with
          | some m => if t.ports[p].cfg.positions ≤ m + 6 then none else some (m + 6) | none => none) = none then
        6 - (match t.ports[p].lampNext with
          | some m => (List.range (min 6 (t.ports[p].cfg.positions - m))).map fun i => m + i | none => []).length
      else 0) := by
    have := congrArg List.length (t.ports[p].lampPositions_val h2)
    rw [List.length_map] at this
    rw [Port.queueRoom_eq, this]; rfl
  unfold BeaconSent
  refine ⟨builtBeacon p t, rfl, ?_, rfl, t.ports[p].checks_val h1 h2, ?_, ?_, Beacon.bytes_length _, rfl,
    Beacon.bytes_sum _, ?_, ?_, ?_, ?_, ?_⟩
  · simp only [builtBeacon, roundSummary, hr, hq]
  · have e : (fun e : Feedback => e.position.val) ∘ feedbackEntry p t = Fin.val := rfl
    simp only [builtBeacon, List.map_map, e, List.map_append, room, List.map_take]
    rw [t.ports[p].lampPositions_val h2] <;> rfl
  · intro e he
    obtain ⟨pos, -, rfl⟩ := List.mem_map.mp he
    rw [seat]; exact ⟨rfl, rfl⟩
  · simp only [startSweep, withStamper_ports, setPort_get, if_true, mapSeats_ports, mapSeats_now, Port.afterBeacon_eq, room,
      after, hn]
    rfl
  · intro o h
    simp only [startSweep, withStamper_ports, setPort_get, if_neg h, mapSeats_ports, ho o h]
  · simp [startSweep, hs]
  · simp [startSweep, hs]
  · intro o i
    simp only [startSweep, withStamper_stamper, setPort_now, mapSeats_now, setPort_stamper, mapSeats_stamper, hs, hn]
    have g := vector_set_get s.stamper.history p o (s.stamper.history[p].set (builtBeacon p t).sequence (some s.now))
    by_cases h : o = p
    · rw [if_pos h] at g
      refine (congrArg (fun v : Vector (Option Time) 16 => v[i]) g).trans ?_
      refine (vector_set_get s.stamper.history[p] (builtBeacon p t).sequence i (some s.now)).trans ?_
      subst h; simp [builtBeacon]
    · rw [if_neg h] at g
      refine (congrArg (fun v : Vector (Option Time) 16 => v[i]) g).trans ?_
      rw [if_neg (by rintro ⟨h', -⟩; exact h h')]

/-- R51, R52: the positions a beacon took from the queue are no longer queued. -/
theorem startSweep_seat (p : Fin 4) (s : State) (k : Fin 256) :
    (startSweep p s).seats[k] =
      { s.seats[k] with
        queued := s.seats[k].queued && !decide (portOf k = p ∧ posOf k ∈ s.ports[p].feedback.take s.ports[p].queueRoom) } := by
  simp only [startSweep, withStamper_seats, setPort_seats, mapSeats_get]
  by_cases h : portOf k = p ∧ posOf k ∈ s.ports[p].feedback.take s.ports[p].queueRoom
  · simp only [if_pos h, decide_eq_true h]; simp
  · simp only [if_neg h, decide_eq_false h]; simp

/-- R46: port p as the wake timer's expiry leaves it, before its first beacon. -/
theorem enterSweeping_eq (p : Fin 4) (s : State) :
    enterSweeping p s = startSweep p (startLampSweep p (startRoll p
      (s.setPort p { s.ports[p] with state := .sweeping, wakeTimer := none }))) := rfl

/-! ## The end of a sweep -/

/-- R34, R35, R50: a seat's record after an end-of-sweep report. -/
def Seat.reported (x : Seat) (answered roll : Bool) : Seat :=
  if answered then { x with missed := 0 }
  else if roll then { x with missed := min (x.missed + 1) 3, presence := .absent, battery := false }
  else { x with
    missed := min (x.missed + 1) 3
    presence := if x.presence = .present ∧ 2 ≤ x.missed then .silent else x.presence }

theorem reportCheck_seat (a r : Bool) (k : Fin 256) (s : State) (j : Fin 256) :
    (reportCheck a r k s).seats[j] = if j = k then s.seats[k].reported a r else s.seats[j] := by
  unfold reportCheck Seat.reported
  cases a with
  | true => simp only [if_true, setSeat_get]
  | false =>
    cases r with
    | true => simp only [Bool.false_eq_true, if_false, if_true, setPresence_seat, missedMore]
    | false =>
      have e : (s.seats[k].presence = .present ∧ missedMore s.seats[k].missed = 3)
          ↔ (s.seats[k].presence = .present ∧ 2 ≤ s.seats[k].missed) := by
        unfold missedMore; constructor <;> rintro ⟨h, h'⟩ <;> exact ⟨h, by omega⟩
      simp only [Bool.false_eq_true, if_false, e]
      split
      · rw [setPresence_seat]; rfl
      · rw [setSeat_get]; rfl

/-- A report that leaves the seat's presence raises no event. -/
theorem reportCheck_same (a r : Bool) (k : Fin 256) (s : State)
    (h : (s.seats[k].reported a r).presence = s.seats[k].presence) :
    reportCheck a r k s = s.setSeat k (s.seats[k].reported a r) := by
  unfold reportCheck Seat.reported at *
  cases a with
  | true => rfl
  | false =>
    cases r with
    | true => simp only [Bool.false_eq_true, if_false, if_true] at h ⊢; exact setPresence_same _ _ _ _ h
    | false =>
      have e : (s.seats[k].presence = .present ∧ missedMore s.seats[k].missed = 3)
          ↔ (s.seats[k].presence = .present ∧ 2 ≤ s.seats[k].missed) := by
        unfold missedMore; constructor <;> rintro ⟨h, h'⟩ <;> exact ⟨h, by omega⟩
      simp only [Bool.false_eq_true, if_false, e] at h ⊢
      split
      · rename_i g; rw [if_pos g, g.1] at h; cases h
      · rfl

/-- R50: the seats after the reports of a sweep whose check positions are distinct. -/
theorem reportChecks_seat (p : Fin 4) (sw : Sweep) (s : State) (nodup : sw.beacon.checks.Nodup) (k : Fin 256) :
    (reportChecks p sw s).seats[k] =
      if portOf k = p ∧ posOf k ∈ sw.beacon.checks then
        s.seats[k].reported (decide (posOf k ∈ sw.hellos)) sw.beacon.roll
      else s.seats[k] := by
  have h := foldl_seats
    (fun s pos => reportCheck (decide (pos ∈ sw.hellos)) sw.beacon.roll (seatOf p pos) s) (seatOf p)
    (fun pos x => x.reported (decide (pos ∈ sw.hellos)) sw.beacon.roll)
    (fun s b j => reportCheck_seat _ _ _ _ _) sw.beacon.checks
    (nodup.map fun _ _ h => seatOf_injective h) s k
  unfold reportChecks
  split
  · rename_i g
    exact h.1 (posOf k) g.2 (by rw [← g.1]; exact seatOf_portOf k)
  · rename_i g
    refine h.2 fun b hb e => g ?_
    rw [← e, portOf_seatOf, posOf_seatOf]; exact ⟨rfl, hb⟩

/-! ## Reception -/

/-- R55, R48: a reception's slot is position n's exactly when its start and its last byte both fall within it. -/
theorem slotOf_some (positions : Nat) (hp : positions ≤ 64) (d start last : Time) (n : Fin 64) :
    slotOf positions d start last = some n ↔ (n.val < positions
      ∧ 16 + 2 * (n.val : Int) ≤ since start d ∧ since start d < 18 + 2 * (n.val : Int)
      ∧ 16 + 2 * (n.val : Int) ≤ since last d ∧ since last d < 18 + 2 * (n.val : Int)) := by
  unfold slotOf
  simp only []
  generalize since start d = a
  generalize since last d = b
  constructor
  · intro h
    split at h
    · have hv : n.val = ((a - 16) / 2).toNat := by
        rw [← Option.some.inj h]; exact position_val (by omega)
      omega
    · cases h
  · rintro ⟨h1, h2, h3, h4, h5⟩
    have e : ((a - 16) / 2).toNat = n.val := by omega
    rw [if_pos (by omega)]
    congr 1
    ext; rw [e, position_val n.2]

/-- R55: the LENGTH test. -/
theorem handsetLengthGood_iff (bytes : List Byte) : handsetLengthGood bytes = true ↔
    ((u8 bytes 0 = 1 ∧ bytes.length = 4) ∨ (u8 bytes 0 = 2 ∧ bytes.length = 7) ∨ (u8 bytes 0 = 3 ∧ bytes.length = 8)) := by
  unfold handsetLengthGood
  split
  · rename_i h; simp [h]
  · rename_i h; simp [h]
  · rename_i h; simp [h]
  · rename_i h1 h2 h3; simp; exact ⟨fun h => absurd h h1, fun h => absurd h h2, fun h => absurd h h3⟩

/-- R55, R176: the CHECK test. -/
theorem handsetCheckGood_iff (bytes : List Byte) : handsetCheckGood bytes = true ↔ bytes.sum = 0 := by
  unfold handsetCheckGood; rw [sum_foldl]; simp

/-- R56: a good frame enters the Inbox, in place of the newest entry when 4 wait. -/
theorem Port.enterInbox_eq (p : Port) (e : InboxEntry) :
    p.enterInbox e = { p with
      inbox := (if p.inbox.length < 4 then p.inbox else p.inbox.dropLast)
        ++ [{ e with overrun := e.overrun || decide (4 ≤ p.inbox.length) }]
      flagOverrun := p.flagOverrun || decide (4 ≤ p.inbox.length) } := by
  unfold Port.enterInbox
  by_cases h : p.inbox.length < 4
  · have h' : decide (4 ≤ p.inbox.length) = false := by simpa using h
    simp [h, h']
  · have h' : decide (4 ≤ p.inbox.length) = true := by simpa using h
    simp [h, h']

end Sys2Proof.Machine
end

