-- ==== Sys2Proof/Laws/Round.lean ====
section
/-! SUPPORT. What the shared operations of the round and of the buzz race can do: one lemma for each, which later proofs cite
instead of unfolding the operation. -/

namespace Sys2Proof.Machine

/-! ## The queue as the Composer shows it -/

/-- A composed BUZZ_ORDER view depends on these data alone. -/
theorem composedView_buzzOrder {s t : State} (v : currentView s = .buzzOrder) (hn : s.now = t.now)
    (hp : s.comp.player = t.comp.player) (hc : s.hub.config = t.hub.config) (ht : s.teams = t.teams)
    (ha : s.resp.header = t.resp.header) (h1 : s.buzz.queue = t.buzz.queue) (h2 : s.buzz.held = t.buzz.held)
    (h3 : s.buzz.stealsUsed = t.buzz.stealsUsed) : composedView s = composedView t := by
  have e : ∀ c, viewExtra s .buzzOrder c = viewExtra t .buzzOrder c := by
    intro c; simp [viewExtra, holderTeam, ha, h1, h2, h3]
  have w : ∀ hl inv c, viewRows s .buzzOrder hl inv c = viewRows t .buzzOrder hl inv c := by
    intro hl inv c; simp [viewRows, ht, h1, h2]
  simp only [currentView, shownStep] at v
  simp only [composedView, shownStep, ← hp, ← hc, ← hn]
  revert v
  cases s.comp.player with
  | stopped => intro v; simp only [] at v; simp only [v, e, w]
  | active ended p => intro v; simp only [] at v; simp only [v, e, w]

/-- A composed HISTOGRAM view depends on these data alone. -/
theorem composedView_histogram {s t : State} (v : currentView s = .histogram) (hn : s.now = t.now)
    (hp : s.comp.player = t.comp.player) (hc : s.hub.config = t.hub.config) (hq : s.questions = t.questions)
    (hr : s.resp = t.resp) : composedView s = composedView t := by
  have e : ∀ c, viewExtra s .histogram c = viewExtra t .histogram c := by
    intro c; simp [viewExtra, hr, hq]
  have w : ∀ hl inv c, viewRows s .histogram hl inv c = viewRows t .histogram hl inv c := by
    intro hl inv c; simp only [viewRows, histogramRows, histogramRows.rows, headerQuestion, hr, hq]; rfl
  simp only [currentView, shownStep] at v
  simp only [composedView, shownStep, ← hp, ← hc, ← hn]
  revert v
  cases s.comp.player with
  | stopped => intro v; simp only [] at v; simp only [v, e, w]
  | active ended p => intro v; simp only [] at v; simp only [v, e, w]

@[simp] theorem reportChange_player (counts : View → Bool) (s : State) :
    (reportChange counts s).comp.player = s.comp.player := by
  rw [reportChange_comp]; split
  · rfl
  · split <;> rfl

@[simp] theorem reportBuzz_player (s : State) : (reportBuzz s).comp.player = s.comp.player := reportChange_player _ s

@[simp] theorem reportTallies_player (s : State) : (reportTallies s).comp.player = s.comp.player := reportChange_player _ s

/-- A report of the queue, seen from the state before the queue changed and from a later state that shows the same. -/
theorem refreshed_buzz {s a u : State} (hu : u.comp = (reportBuzz a).comp) (hc : a.comp = s.comp) (hn : a.now = s.now)
    (hh : a.hub.config = s.hub.config) (ht : a.teams = u.teams) (un : u.now = s.now) (uh : u.hub.config = s.hub.config)
    (ha : a.resp.header = u.resp.header) (h1 : a.buzz.queue = u.buzz.queue) (h2 : a.buzz.held = u.buzz.held)
    (h3 : a.buzz.stealsUsed = u.buzz.stealsUsed) : Refreshed (decide (currentView s = .buzzOrder)) s u := by
  have v : currentView a = currentView s := by simp only [currentView, shownStep, hc, hh]
  have e : countsBuzz (currentView s) = decide (currentView s = .buzzOrder) := by
    unfold countsBuzz; cases currentView s <;> rfl
  have up : u.comp.player = s.comp.player := by rw [hu, reportBuzz_player, hc]
  unfold Refreshed
  rw [hu, reportBuzz, reportChange_comp, v, e, hc, hn]
  by_cases hv : currentView s = .buzzOrder
  · have g : composedView a = composedView u :=
      composedView_buzzOrder (v.trans hv) (hn.trans un.symm) (by rw [hc, up]) (hh.trans uh.symm) ht ha h1 h2 h3
    rw [g]
    split
    · rfl
    · split <;> rfl
  · simp [hv]

/-- A change reported from a, which has the Composer of s, seen from s and from a later state u that shows the same. -/
theorem refreshed_of {counts : View → Bool} {s a u : State} (hu : u.comp = (reportChange counts a).comp) (hc : a.comp = s.comp)
    (hn : a.now = s.now) (hv : currentView a = currentView s)
    (same : counts (currentView s) = true → composedView a = composedView u) :
    Refreshed (counts (currentView s)) s u := by
  unfold Refreshed
  rw [hu, reportChange_comp, hv, hc, hn]
  by_cases h : counts (currentView s) = false
  · rw [if_pos h]; simp [h]
  · rw [if_neg h, if_neg h, same (by simpa using h)]
    split <;> rfl

/-! ## Moves of the round state -/

/-- R25: the STATE notice of a move. -/
theorem moveRound_notices (st : RoundState) (w : Bool) (s u : State)
    (h1 : u.hub.notices = (moveRound st w s).hub.notices) (h2 : u.hub.noticeLost = (moveRound st w s).hub.noticeLost) :
    NoticesRaised [.roundState st s.round.current s.round.closedMark (if w then s.round.snapshot else none)] s u := by
  unfold NoticesRaised
  rw [h1, h2]
  simp [moveRound, raiseAll]

/-- R90: the floor is held no more. -/
theorem releaseFloor_buzz (s : State) :
    (releaseFloor s).buzz = { s.buzz with held := false, headTimer := none, answerTimer := none } := by
  unfold releaseFloor; simp only []; split <;> simp

/-- R90, R105: the release of a holder is reported. -/
theorem releaseFloor_refreshed {s u : State} (hu : u.comp = (releaseFloor s).comp) (ht : s.teams = u.teams)
    (un : u.now = s.now) (uh : u.hub.config = s.hub.config) (ha : s.resp.header = u.resp.header)
    (hb : u.buzz = (releaseFloor s).buzz) :
    Refreshed (decide (s.buzz.held = true ∧ currentView s = .buzzOrder)) s u := by
  rw [releaseFloor_buzz] at hb
  unfold releaseFloor at hu
  simp only [] at hu
  cases h : s.buzz.held with
  | true =>
    rw [h, if_pos rfl] at hu
    simp only [true_and]
    refine refreshed_buzz hu ?_ ?_ ?_ ?_ un uh ?_ ?_ ?_ ?_ <;> simp [ht, ha, hb]
  | false =>
    rw [h] at hu
    simpa [Refreshed] using hu

/-- R20: the round goes to COMMITTING and a walk begins. -/
theorem enterCommitting_score (w : Bool) (s : State) :
    (enterCommitting w s).score = { s.score with walk :=
      ⟨true, s.now, 0, Vector.replicate 16 0, Vector.replicate 16 0, Vector.replicate 16 0⟩ } := by
  simp [enterCommitting, beginWalk]

/-- R18: the attendance depends on the seats and the responses alone. -/
theorem attendance_congr {s t : State} (h : s.seats = t.seats) (h' : s.resp = t.resp) : attendance s = attendance t := by
  have e : attends s = attends t := by funext x k; simp only [attends, h, h']
  simp only [attendance, e]

/-- R18: what the attendance snapshot counts. -/
theorem attendance_of (s : State) : AttendanceOf (attendance s) s := by
  intro t
  have e : attends s t = fun k => decide (s.seats[k].team = some t
      ∧ (s.seats[k].presence = .present ∨ s.resp.records[k].state = .answered)
      ∧ (s.resp.header.kind = some .estimate → s.seats[k].cls = some .digit)) := by
    funext k
    rw [Bool.eq_iff_iff]
    simp only [attends, Bool.and_eq_true, Bool.or_eq_true, beq_iff_eq, bne_iff_ne, ne_eq, decide_eq_true_eq, and_assoc,
      Decidable.imp_iff_not_or]
  simp only [attendance, Fin.getElem_fin, Vector.getElem_ofFn, Fin.eta, e]

/-- R18: a move out of CLOSING takes the snapshot, and no other move does. -/
theorem snapshot_taken (s : State) : SnapshotTaken (if s.round.state = .closing then some (attendance s) else none) s := by
  unfold SnapshotTaken
  split
  · exact ⟨_, rfl, attendance_of s⟩
  · rfl

/-- The state of a question's end before the round state moves (R20, R90, R18). -/
def questionStopped (s : State) : State :=
  (releaseFloor s).withRound { s.round with
    settle := none, window := .stopped
    snapshot := if s.round.state = .closing then some (attendance s) else s.round.snapshot }

theorem endQuestion_eq (s : State) :
    endQuestion s =
      if (currentQuestion s).mode = .held then moveRound .closed (s.round.state == .closing) (questionStopped s)
      else enterCommitting (s.round.state == .closing) (questionStopped s) := by
  have hq : currentQuestion (questionStopped s) = currentQuestion s := by
    simp [currentQuestion, questionStopped]
  have e : (if (s.round.state == .closing) = true then
        takeSnapshot ((releaseFloor s).withRound { (releaseFloor s).round with settle := none, window := .stopped })
      else (releaseFloor s).withRound { (releaseFloor s).round with settle := none, window := .stopped })
      = questionStopped s := by
    unfold questionStopped
    by_cases hc : s.round.state = .closing
    · have a : attendance ((releaseFloor s).withRound { s.round with settle := none, window := .stopped })
          = attendance s := attendance_congr (by simp) (by simp)
      rw [if_pos (by simp [hc]), if_pos hc, takeSnapshot, releaseFloor_round, a]
      rfl
    · simp [hc]
  unfold endQuestion
  simp only []
  rw [e, hq]
  cases (currentQuestion s).mode <;> rfl

/-- R20, R90, R18: the end of a question. -/
theorem endQuestion_ends (s : State) : QuestionEnds s (endQuestion s) := by
  rw [endQuestion_eq]
  unfold QuestionEnds
  have n : ∀ (st : RoundState) (u : State), u.hub = (moveRound st (s.round.state == .closing) (questionStopped s)).hub →
      NoticesRaised [.roundState st s.round.current s.round.closedMark
        (if s.round.state = .closing then some (attendance s) else none)] s u := by
    intro st u hu
    have := moveRound_notices st (s.round.state == .closing) (questionStopped s) u (by rw [hu]) (by rw [hu])
    simp only [NoticesRaised, raiseAll, List.foldl_cons, List.foldl_nil, raiseNotice_notices, raiseNotice_noticeLost]
      at this ⊢
    by_cases hc : s.round.state = .closing <;> simpa [questionStopped, hc] using this
  have r : ∀ u : State, u.comp = (releaseFloor s).comp → s.teams = u.teams → u.now = s.now →
      u.hub.config = s.hub.config → s.resp.header = u.resp.header → u.buzz = (releaseFloor s).buzz →
      Refreshed (decide (s.buzz.held = true ∧ currentView s = .buzzOrder)) s u :=
    fun _ h1 h2 h3 h4 h5 h6 => releaseFloor_refreshed h1 h2 h3 h4 h5 h6
  cases (currentQuestion s).mode
  · simp only [reduceCtorEq, if_false]
    refine ⟨_, snapshot_taken s, ?_, ?_, ?_, ?_, ?_, n _ _ ?_, r _ ?_ ?_ ?_ ?_ ?_ ?_, ?_⟩
    all_goals first | (intro b hb; cases b <;> simp [Block.same, questionStopped] at hb ⊢) | skip
    all_goals simp [enterCommitting, beginWalk, moveRound, questionStopped, releaseFloor_buzz] <;> (split <;> rfl)
  · simp only [if_true]
    refine ⟨_, snapshot_taken s, ?_, ?_, ?_, ?_, ?_, n _ _ ?_, r _ ?_ ?_ ?_ ?_ ?_ ?_, ?_⟩
    all_goals first | (intro b hb; cases b <;> simp [Block.same, questionStopped] at hb ⊢) | skip
    all_goals simp [moveRound, questionStopped, releaseFloor_buzz] <;> (split <;> rfl)

/-! ## The grant -/

/-- R19: the Round Engine's part of a grant. -/
theorem floorGranted_round (s : State) :
    (floorGranted s).round =
      if s.round.state = .closing then
        { s.round with state := .floor, settle := none, closedMark := true, snapshot := some (attendance s) }
      else { s.round with
        state := .floor
        window := match s.round.window with | .running d => .paused (since d s.now).toNat | w => w } := by
  unfold floorGranted
  split
  · simp [moveRound, takeSnapshot]
  · simp [moveRound] <;> cases s.round.window <;> rfl

/-- R25, R18: its notice. -/
theorem floorGranted_notices (s u : State) (h1 : u.hub.notices = (floorGranted s).hub.notices)
    (h2 : u.hub.noticeLost = (floorGranted s).hub.noticeLost) :
    NoticesRaised [.roundState .floor s.round.current (s.round.closedMark || decide (s.round.state = .closing))
      (if s.round.state = .closing then some (attendance s) else none)] s u := by
  unfold NoticesRaised
  rw [h1, h2]
  unfold floorGranted
  by_cases hc : s.round.state = .closing <;> simp [hc, raiseAll, moveRound, takeSnapshot]

/-- R97, R19, R18: the grant. -/
theorem grantFloor_granted (e : BuzzEntry) (s : State) : FloorGranted e s (grantFloor e s) := by
  have ha : attendance (reportBuzz (s.withBuzz { s.buzz with held := true, headTimer := none })) = attendance s :=
    attendance_congr (by simp) (by simp)
  have hq : ∀ t : State, t.resp = s.resp → t.questions = s.questions → headerQuestion t = headerQuestion s := by
    intro t h1 h2; simp only [headerQuestion, h1, h2]
  unfold FloorGranted grantFloor
  simp only []
  refine ⟨_, snapshot_taken s, ?_, ?_, ?_, ?_, ?_, ?_⟩
  · simp only [raiseNotice_round, withBuzz_round, requestLamp_round, floorGranted_round, reportBuzz_round, reportBuzz_now,
      withBuzz_now, ha]
    by_cases hc : s.round.state = .closing
    · simp [hc]
    · simp [hc] <;> cases s.round.window <;> rfl
  · simp [answerExpiry, hq, after]
  · refine (requestLamp_shown e.seat .floor (floorGranted
      (reportBuzz (s.withBuzz { s.buzz with held := true, headTimer := none })))).congr ?_ ?_ ?_ ?_ <;> simp
  · have := floorGranted_notices (reportBuzz (s.withBuzz { s.buzz with held := true, headTimer := none })) _ rfl rfl
    simp [NoticesRaised, raiseAll, ha] at this ⊢
    simp [answerExpiry, hq, after, this.1, this.2]
  · refine refreshed_buzz (a := s.withBuzz { s.buzz with held := true, headTimer := none }) ?_ ?_ ?_ ?_ ?_ ?_ ?_ ?_ ?_ ?_ ?_ <;> simp
  · intro b hb; cases b <;> simp [Block.same] at hb ⊢

/-- R96: the grant test. -/
theorem grantTest_tested (s : State) : GrantTested s (grantTest s) := by
  unfold GrantTested grantTest
  cases hq : s.buzz.queue with
  | nil => rfl
  | cons e rest =>
    have hd : atOrAfter s.now (headExpiry e s) = true
        ↔ 0 ≤ since s.now (e.time + BitVec.ofNat 32 ((headerQuestion s).settle * 8)) := decide_eq_true_iff
    have hb : (s.buzz.held = true ∨ (s.round.state ≠ .opened ∧ s.round.state ≠ .closing))
        ↔ (s.buzz.held = true ∨ ¬ (s.round.state = .opened ∨ s.round.state = .closing)) := by rw [not_or]
    simp only [hb, ← hd]
    split
    · rfl
    · split
      · exact grantFloor_granted e s
      · exact ⟨rfl, by intro b hb; cases b <;> simp [Block.same] at hb ⊢⟩

/-! ## Closing -/

/-- R17: the settle interval is over. -/
theorem settleExpires_over (s : State) : SettleOver s (settleExpires s) := by
  refine ⟨s.withRound { s.round with settle := none }, rfl, ?_, ?_⟩
  · intro b hb; cases b <;> simp [Block.same] at hb ⊢
  · have hq : currentQuestion (s.withRound { s.round with settle := none }) = currentQuestion s := rfl
    unfold settleExpires
    simp only [hq, withRound_buzz]
    split
    · exact grantTest_tested _
    · exact endQuestion_ends _

/-- R15, R16, R17: answering closes. -/
theorem closeAnswering_closes (s : State) : AnsweringCloses s (closeAnswering s) := by
  refine ⟨moveRound .closing false ((s.withResp { s.resp with header :=
      { s.resp.header with closeTime := some s.now } }).withRound { s.round with
        window := .stopped, settle := some (s.now + BitVec.ofNat 32 ((currentQuestion s).settle * 8)) }), ?_, ?_, ?_, ?_, ?_⟩
  · simp [moveRound]
  · simp
  · simp [moveRound, NoticesRaised, raiseAll]
  · intro b hb; cases b <;> simp [Block.same] at hb ⊢
  · unfold closeAnswering
    simp only [settleTicks, after, withResp_round, withResp_now, Nat.mul_eq_zero, OfNat.ofNat_ne_zero, or_false]
    split
    · exact settleExpires_over _
    · rfl

/-! ## Verdicts -/

/-- R99, R100: a verdict recorded. -/
theorem recordVerdict_recorded (v : Verdict) (e : BuzzEntry) (rest : List BuzzEntry) (s : State) :
    VerdictRecorded v e (verdictPoints v s) (stealsAfter v rest s) s (recordVerdict v e rest s) := by
  unfold recordVerdict
  simp only []
  refine ⟨by simp, ?_, ?_, ?_⟩
  · have : v.lamp = (if v = .right then .right else .wrong) := by cases v <;> rfl
    rw [← this]
    refine (requestLamp_shown e.seat v.lamp (s.withBuzz { s.buzz with
      judged := s.buzz.judged ++ [⟨e.team, e.seat, v, verdictPoints v s⟩], answerTimer := none })).congr rfl rfl ?_ ?_ <;> simp
  · simp [NoticesRaised, raiseAll]
  · intro b hb; cases b <;> simp [Block.same] at hb ⊢

/-- R19: the floor is open again. -/
theorem floorOpenAgain_open (s : State) : FloorOpenAgain s (floorOpenAgain s) := by
  unfold FloorOpenAgain floorOpenAgain
  cases h : s.round.closedMark with
  | true =>
    simp only [if_true]
    refine ⟨by simp [moveRound, settleTicks, after], by simp [NoticesRaised, raiseAll, moveRound, h], ?_⟩
    intro b hb; cases b <;> simp [Block.same] at hb ⊢
  | false =>
    simp only [Bool.false_eq_true, if_false]
    refine ⟨?_, by simp [NoticesRaised, raiseAll, moveRound, h], ?_⟩
    · simp only [moveRound, raiseNotice_round, withRound_round, after] <;> cases s.round.window <;> rfl
    · intro b hb; cases b <;> simp [Block.same] at hb ⊢

/-! ## Opens -/

theorem sweepLamps_port (s : State) (p : Fin 4) :
    ((List.finRange 4).foldl (fun s p => if s.ports[p].state = .sweeping then startLampSweep p s else s) s).ports[p] =
      if s.ports[p].state = .sweeping then { s.ports[p] with feedback := [], lampNext := some 0 } else s.ports[p] := by
  have h := foldl_at_most_once (fun (s : State) (p : Fin 4) => if s.ports[p].state = .sweeping then startLampSweep p s else s)
    (fun s => s.ports[p]) p (fun b a ha => by
      split
      · rw [startLampSweep_port, if_neg (Ne.symm ha)]
      · rfl) (List.finRange 4) (List.nodup_finRange 4) s
    (fun x y => y = if x.state = .sweeping then { x with feedback := [], lampNext := some 0 } else x)
    (fun b' hb' => by
      rw [hb']; split
      · rw [startLampSweep_port, if_pos rfl, hb']
      · exact hb')
  exact h.1 (List.mem_finRange p)

theorem openLamps_port (q : Fin 128) (s : State) (p : Fin 4) :
    (openLamps q s).ports[p] =
      if s.round.current = some q ∧ s.ports[p].state = .sweeping then
        { s.ports[p] with feedback := [], lampNext := some 0 }
      else s.ports[p] := by
  unfold openLamps
  by_cases h : s.round.current = some q
  · rw [if_pos h, sweepLamps_port]; simp [h]
  · rw [if_neg h]; simp [h]

/-- R12, R53: what lamp sweeps on the SWEEPING ports do to a seat. -/
theorem sweepLamps_seat (l : List (Fin 4)) (s : State) (k : Fin 256) (nodup : l.Nodup) :
    (l.foldl (fun s p => if s.ports[p].state = .sweeping then startLampSweep p s else s) s).seats[k] =
      { s.seats[k] with queued := s.seats[k].queued && !decide (portOf k ∈ l ∧ s.ports[portOf k].state = .sweeping
        ∧ posOf k ∈ s.ports[portOf k].feedback) } := by
  induction l generalizing s with
  | nil => simp
  | cons p l ih =>
    rw [List.foldl_cons, ih _ (List.nodup_cons.mp nodup).2]
    have hp := (List.nodup_cons.mp nodup).1
    by_cases h : s.ports[p].state = .sweeping
    · simp only [if_pos h, startLampSweep_seat, startLampSweep_port]
      by_cases e : portOf k = p
      · rw [← e] at h hp; simp only [← e, if_true, hp, h, List.mem_cons]; simp
      · simp [e]
    · simp only [if_neg h]
      by_cases e : portOf k = p
      · rw [← e] at h hp; simp only [← e, hp, h, List.mem_cons]; simp
      · simp [e]

theorem openLamps_seat (q : Fin 128) (s : State) (k : Fin 256) :
    (openLamps q s).seats[k] = { s.seats[k] with
      lamp := .off
      queued := s.seats[k].queued && !decide ((s.round.current = some q ∧ s.ports[portOf k].state = .sweeping)
        ∧ posOf k ∈ s.ports[portOf k].feedback) } := by
  unfold openLamps
  by_cases h : s.round.current = some q
  · rw [if_pos h, sweepLamps_seat _ _ _ (List.nodup_finRange 4)]
    simp only [lampsOff_seat, lampsOff_ports, h]; simp
  · rw [if_neg h, lampsOff_seat]; simp [h]

/-- R12 step 1: the Response Unit after an open. -/
theorem openQuestion_resp (q : Fin 128) (s : State) :
    (openQuestion q s).resp = ⟨⟨some q, some s.questions[q].kind, some s.now, none, false⟩,
      Vector.replicate 256 Response.reset, Tallies.reset⟩ := by
  simp only [openQuestion, clearResponses, moveRound_resp, withRound_resp, openLamps_resp, reportBuzz_resp,
    withBuzz_resp, reportTallies_resp, withResp_resp]
  split <;> simp [buildTally]

/-- R12 steps 2 and 4: the Buzz Queue and the Round Record after an open. -/
theorem openQuestion_round (q : Fin 128) (s : State) :
    (openQuestion q s).buzz = Buzz.reset ∧ (openQuestion q s).round = { openedRound q s with state := .opened } := by
  constructor
  · simp [openQuestion]
  · simp [openQuestion, moveRound, openedRound]

/-- R12, R168: what an open does, whole. -/
theorem openQuestion_opened (q : Fin 128) (s : State) : QuestionOpened q s (openQuestion q s) := by
  have hr := openQuestion_resp q s
  have hb := (openQuestion_round q s).1
  refine ⟨by rw [hr], by intro k; rw [hr]; simp [Response.reset], by intro o; rw [hr]; simp [Tallies.reset], by rw [hr]; rfl,
    hb, ?_, ?_, ?_, ?_, ?_, ?_, ?_⟩
  · simp [openQuestion, moveRound, openedRound, after, windowTicks]
  · intro k
    simp only [openQuestion, moveRound_seats, withRound_seats]
    rw [openLamps_seat]
    simp
  · intro p
    simp only [openQuestion, moveRound_ports, withRound_ports]
    rw [openLamps_port]
    simp only [reportBuzz_ports, reportBuzz_round, withBuzz_ports, withBuzz_round, clearResponses_ports, clearResponses_round]
  · simp [openQuestion, clearResponses]
    split
    · assumption
    · simp [buildTally]
  · by_cases h : s.hub.tallyEvents = 0
    · rw [if_pos h]
      simp [openQuestion, clearResponses, h, NoticesRaised, raiseAll, moveRound, openedRound]
    · rw [if_neg h]
      have e := enqueueNotice_queue ⟨.tally s.resp.header.question s.resp.header.kind s.resp.tallies, s.now⟩
        (s := s.withHub { s.hub with tallyEvents := 0, tallyTimer := none }) (t := s) rfl rfl
      simp [openQuestion, clearResponses, h, NoticesRaised, raiseAll, moveRound, openedRound, buildTally, e.1, e.2]
  · let a := (if s.hub.tallyEvents = 0 then s else buildTally s).withResp
      ⟨⟨some q, some s.questions[q].kind, some s.now, none, false⟩, Vector.replicate 256 Response.reset, Tallies.reset⟩
    let b := (clearResponses q s).withBuzz Buzz.reset
    have ac : a.comp = s.comp := by simp only [a]; split <;> simp [buildTally]
    have an : a.now = s.now := by simp only [a]; split <;> simp [buildTally]
    have ah : a.hub.config = s.hub.config := by simp only [a]; split <;> simp [buildTally]
    have av : currentView a = currentView s := by simp only [currentView, shownStep, ac, ah]
    have e1 : (openQuestion q s).comp = (reportBuzz b).comp := by simp [openQuestion, b]
    have e2 : b.comp = (reportTallies a).comp := by simp only [b, withBuzz_comp, clearResponses, a]; simp; split <;> simp [buildTally]
    have f : ∀ (counts : View → Bool) (t : State), currentView t = currentView s → counts (currentView s) = false → (reportChange counts t).comp = t.comp := by
      intro counts t ht h; rw [reportChange_comp, ht, h]; rfl
    by_cases h1 : currentView s = .histogram
    · have hb0 : (openQuestion q s).comp = (reportTallies a).comp := by
        rw [e1, reportBuzz, f countsBuzz b _ (by rw [h1]; rfl), e2]
        simp only [currentView, shownStep, e2, reportTallies_player, ac]; simp [b]
      have := refreshed_of (counts := countsTallies) hb0 ac an av fun _ => composedView_histogram (av.trans h1) (by simp [an])
        (by rw [hb0, reportTallies_player]) (by simp [ah]) (by simp [a]; split <;> simp [buildTally]) (by rw [hr]; simp [a])
      rw [h1] at this ⊢; exact this
    · have ha0 : (reportTallies a).comp = s.comp := by
        rw [reportTallies, f countsTallies a av (by revert h1; cases currentView s <;> simp [countsTallies]), ac]
      have hbv : b.hub.config = s.hub.config := by simp [b]
      have := refreshed_buzz (s := s) (a := b) (u := openQuestion q s) e1 (e2.trans ha0) (by simp [b]) hbv (by simp [b]) (by simp)
        (by simp) (by rw [hr]; simp [b, clearResponses]; split <;> simp [buildTally]) (by rw [hb]; simp [b]) (by rw [hb]; simp [b]) (by rw [hb]; simp [b])
      simpa [h1] using this
  · intro b hb; cases b <;> simp [Block.same] at hb ⊢

end Sys2Proof.Machine
end

