-- ==== Sys2Proof/Laws/Events.lean ====
section
/-! SUPPORT. The notice events and SEAT events that the operations over many seats raise, in their order (R36, R41, R29, R50). -/

namespace Sys2Proof.Machine

@[simp] theorem raiseEvents_nil (s : State) : raiseEvents [] s = s := rfl

@[simp] theorem raiseEvents_notice (b : NoticeBody) (es : List HubEvent) (s : State) :
    raiseEvents (.notice b :: es) s = raiseEvents es (raiseNotice b s) := rfl

@[simp] theorem raiseEvents_seat (k : Fin 256) (c : Causes) (es : List HubEvent) (s : State) :
    raiseEvents (.seat k c :: es) s = raiseEvents es (raiseSeat k c s) := rfl

theorem raiseEvents_append (as bs : List HubEvent) (s : State) :
    raiseEvents (as ++ bs) s = raiseEvents bs (raiseEvents as s) := List.foldl_append

@[simp] theorem raiseEvents_now (es : List HubEvent) (s : State) : (raiseEvents es s).now = s.now := by
  induction es generalizing s with
  | nil => rfl
  | cons e es ih => cases e <;> simp [ih]

@[simp] theorem raiseEvents_seats (es : List HubEvent) (s : State) : (raiseEvents es s).seats = s.seats := by
  induction es generalizing s with
  | nil => rfl
  | cons e es ih => cases e <;> simp [ih]

@[simp] theorem raiseEvents_config (es : List HubEvent) (s : State) :
    (raiseEvents es s).hub.config = s.hub.config := by
  induction es generalizing s with
  | nil => rfl
  | cons e es ih => cases e <;> simp [ih]

/-- What a SEAT event shows of a seat (R169). -/
def shown (x : Seat) : Presence × Option (Fin 16) × Option HandsetClass × Bool := (x.presence, x.team, x.cls, x.battery)

/-- A SEAT event depends on the Hub Agent, the show time and what it shows of its seat. -/
theorem raiseSeat_same {s w : State} (k : Fin 256) (c : Causes) (h : s.hub = w.hub) (hn : s.now = w.now)
    (hs : shown s.seats[k] = shown w.seats[k]) : (raiseSeat k c s).hub = (raiseSeat k c w).hub := by
  simp only [shown, Prod.mk.injEq] at hs
  obtain ⟨h1, h2, h3, h4⟩ := hs
  rw [raiseSeat_hub, raiseSeat_hub]
  simp only [h, hn, h1, h2, h3, h4]

/-- Notice events depend on the Hub Agent and the show time. -/
theorem raiseNotice_same {s w : State} (b : NoticeBody) (h : s.hub = w.hub) (hn : s.now = w.now) :
    (raiseNotice b s).hub = (raiseNotice b w).hub := by
  unfold raiseNotice kindEnabled
  rw [h, hn]
  split
  · rw [enqueueNotice_hub, enqueueNotice_hub, h]
  · exact h

/-- The Hub Agent after a fold that gives each listed seat a record and raises a SEAT event for it: that of the events alone,
raised over any state that shows the seats as they are in the end. -/
theorem foldl_events {β : Type} (step : State → β → State) (seat : β → Fin 256) (f : β → Seat → Seat)
    (cause : β → Seat → Causes)
    (h : ∀ s b, step s b = raiseSeat (seat b) (cause b s.seats[seat b]) (s.setSeat (seat b) (f b s.seats[seat b])))
    (l : List β) (hl : (l.map seat).Nodup) (s w : State) (hh : s.hub = w.hub) (hn : s.now = w.now)
    (hs : ∀ b ∈ l, shown w.seats[seat b] = shown (f b s.seats[seat b])) :
    (l.foldl step s).hub = (raiseEvents (l.map fun b => .seat (seat b) (cause b s.seats[seat b])) w).hub := by
  induction l generalizing s w with
  | nil => exact hh
  | cons b l ih =>
    rw [List.map_cons, List.nodup_cons] at hl
    have other : ∀ c ∈ l, (step s b).seats[seat c] = s.seats[seat c] := by
      intro c hc
      rw [h, raiseSeat_seats, setSeat_get, if_neg]
      intro e; exact hl.1 (e ▸ List.mem_map_of_mem hc)
    rw [List.foldl_cons, List.map_cons, raiseEvents_seat, ih hl.2 (step s b) (raiseSeat (seat b) (cause b s.seats[seat b]) w)]
    · congr 2
      exact List.map_congr_left fun c hc => by rw [other c hc]
    · rw [h]
      refine raiseSeat_same _ _ hh hn ?_
      rw [setSeat_get, if_pos rfl, hs b List.mem_cons_self]
    · rw [h]; simpa using hn
    · intro c hc
      rw [other c hc, raiseSeat_seats]; exact hs c (List.mem_cons_of_mem _ hc)

/-- R36, R41: the SEAT events of a port's seats that take a presence. -/
theorem presenceEvents_eq (p : Fin 4) (x : Presence) (given : Fin 64 → Bool) (s : State) :
    presenceEvents p x given s = (portSeats p).map fun k =>
      .seat k ⟨given (posOf k) && decide (s.seats[k].presence ≠ x), false, false, false⟩ := by
  have e : ∀ i : Fin 64, posOf (seatOf p i) = i := by revert p; decide
  simp [presenceEvents, portSeats, Function.comp_def, e]

/-- R36: the SEAT events of a stopped port. -/
theorem absentPort_hub (p : Fin 4) (s w : State) (hh : s.hub = w.hub) (hn : s.now = w.now)
    (hs : ∀ k : Fin 256, portOf k = p → shown w.seats[k] = shown (absentPort true p s).seats[k]) :
    (absentPort true p s).hub = (raiseEvents (presenceEvents p .absent (fun _ => true) s) w).hub := by
  rw [presenceEvents_eq]
  have h := foldl_events
    (fun s k => setPresence true k { s.seats[k] with presence := .absent, missed := 0, battery := false } s) id
    (fun _ x => { x with presence := .absent, missed := 0, battery := false })
    (fun _ x => ⟨decide (x.presence ≠ .absent), false, false, false⟩)
    (fun s k => by simp [setPresence, Causes.none, eq_comm]) (portSeats p) (by simpa using portSeats_nodup p) s w hh hn
    (fun k hk => by
      have hp := mem_portSeats.mp hk
      simp only [id_eq]
      rw [hs k hp, absentPort_seat, if_pos hp])
  unfold absentPort
  simpa only [Bool.true_and, id_eq] using h

/-- R36: the SEAT events of a port in break. -/
theorem silencePort_hub (p : Fin 4) (s w : State) (hh : s.hub = w.hub) (hn : s.now = w.now)
    (hs : ∀ k : Fin 256, portOf k = p → shown w.seats[k] = shown (silencePort p s).seats[k]) :
    (silencePort p s).hub
      = (raiseEvents (presenceEvents p .silent (fun i => decide (i.val < s.ports[p].cfg.positions)) s) w).hub := by
  rw [presenceEvents_eq]
  have skip : ∀ (l : List (Fin 256)) (w : State), (raiseEvents (l.map fun k =>
        .seat k ⟨decide ((posOf k).val < s.ports[p].cfg.positions) && decide (s.seats[k].presence ≠ .silent), false, false, false⟩) w)
      = raiseEvents ((l.filter fun k => (posOf k).val < s.ports[p].cfg.positions).map fun k =>
        .seat k ⟨decide (s.seats[k].presence ≠ .silent), false, false, false⟩) w := by
    intro l
    induction l with
    | nil => intro w; rfl
    | cons k l ih =>
      intro w
      have none : (⟨false, false, false, false⟩ : Causes) = Causes.none := rfl
      by_cases h : (posOf k).val < s.ports[p].cfg.positions
      · rw [List.filter_cons, if_pos (decide_eq_true h), List.map_cons, List.map_cons, raiseEvents_seat, raiseEvents_seat, ih,
          decide_eq_true h, Bool.true_and]
      · rw [List.filter_cons, if_neg (by simpa using h), List.map_cons, raiseEvents_seat, ih, decide_eq_false h, Bool.false_and,
          none, raiseSeat_none]
  rw [skip]
  exact foldl_events (fun s k => setPresence true k { s.seats[k] with presence := .silent } s) id
    (fun _ x => { x with presence := .silent }) (fun _ x => ⟨decide (x.presence ≠ .silent), false, false, false⟩)
    (fun s k => by simp [setPresence, Causes.none, eq_comm])
    ((portSeats p).filter fun k => (posOf k).val < s.ports[p].cfg.positions)
    (by simpa using (portSeats_nodup p).filter _) s w hh hn
    (fun k hk => by
      obtain ⟨h1, h2⟩ := List.mem_filter.mp hk
      have hp := mem_portSeats.mp h1
      simp only [id_eq]
      rw [hs k hp, silencePort_seat, if_pos ⟨hp, by simpa using h2⟩])

theorem setSeat_self {s : State} {k : Fin 256} {x : Seat} (h : x = s.seats[k]) : s.setSeat k x = s := by
  subst h
  unfold State.setSeat State.withSeats
  simp

/-- R29: the SEAT events of the pending teams. -/
theorem applyPending_hub (s w : State) (hh : s.hub = w.hub) (hn : s.now = w.now)
    (hs : ∀ k : Fin 256, shown w.seats[k] = shown (applyPending true s).seats[k]) :
    (applyPending true s).hub = (raiseEvents (pendingEvents s) w).hub := by
  have step : ∀ (s : State) (k : Fin 256), applyPendingSeat true k s =
      raiseSeat k ⟨false, false, false, s.seats[k].pending.any fun t => decide (t ≠ s.seats[k].team)⟩
        (s.setSeat k { s.seats[k] with team := s.seats[k].pending.getD s.seats[k].team, pending := none }) := by
    intro s k
    unfold applyPendingSeat
    cases hp : s.seats[k].pending with
    | none =>
      have none : (⟨false, false, false, false⟩ : Causes) = Causes.none := rfl
      have e : s.setSeat k { s.seats[k] with team := Option.none.getD s.seats[k].team, pending := Option.none } = s := by
        refine setSeat_self ?_
        cases hx : s.seats[k]; rw [hx] at hp; cases hp; rfl
      rw [e]
      rw [Option.any_none, none, raiseSeat_none]
    | some t => simp only [Causes.none, Option.any_some, Bool.true_and, Option.getD_some]
  exact foldl_events (fun s k => applyPendingSeat true k s) id
    (fun _ x => { x with team := x.pending.getD x.team, pending := none })
    (fun _ x => ⟨false, false, false, x.pending.any fun t => decide (t ≠ x.team)⟩)
    step (List.finRange 256) (by rw [List.map_id]; exact List.nodup_finRange 256) s w hh hn
    (fun k _ => by simp only [id_eq]; rw [hs k, applyPending_seat])

/-- R34, R35, R41: a report sets the seat and raises a SEAT event when its presence changes. -/
theorem reportCheck_event (answered roll : Bool) (k : Fin 256) (s : State) :
    reportCheck answered roll k s =
      raiseSeat k ⟨decide ((s.seats[k].reported answered roll).presence ≠ s.seats[k].presence), false, false, false⟩
        (s.setSeat k (s.seats[k].reported answered roll)) := by
  by_cases h : (s.seats[k].reported answered roll).presence = s.seats[k].presence
  · have none : (⟨false, false, false, false⟩ : Causes) = Causes.none := rfl
    rw [reportCheck_same _ _ _ _ h, decide_eq_false (by simpa using h), none, raiseSeat_none]
  · rw [decide_eq_true h]
    revert h
    unfold reportCheck Seat.reported
    have e : (s.seats[k].presence = .present ∧ missedMore s.seats[k].missed = 3)
        ↔ (s.seats[k].presence = .present ∧ 2 ≤ s.seats[k].missed) := by
      unfold missedMore; constructor <;> rintro ⟨h, h'⟩ <;> exact ⟨h, by omega⟩
    cases answered <;> cases roll <;> simp only [Bool.false_eq_true, if_false, if_true, e]
    · split
      · intro h; simp only [setPresence, Causes.none, Bool.true_and, ne_eq, h, not_false_eq_true, decide_true]; rfl
      · intro h; exact absurd rfl h
    · intro h; simp only [setPresence, Causes.none, Bool.true_and, ne_eq, h, not_false_eq_true, decide_true]; rfl
    · intro h; exact absurd trivial h
    · intro h; exact absurd trivial h

/-- R50, log entry 28: the SEAT events of a sweep's check positions. -/
theorem reportChecks_hub (p : Fin 4) (sw : Sweep) (s w : State) (nodup : sw.beacon.checks.Nodup) (hh : s.hub = w.hub)
    (hn : s.now = w.now)
    (hs : ∀ i ∈ sw.beacon.checks, shown w.seats[seatOf p i] = shown (reportChecks p sw s).seats[seatOf p i]) :
    (reportChecks p sw s).hub = (raiseEvents (sw.beacon.checks.map fun i => .seat (seatOf p i)
      ⟨decide ((reportChecks p sw s).seats[seatOf p i].presence ≠ s.seats[seatOf p i].presence), false, false, false⟩) w).hub := by
  have hl : (sw.beacon.checks.map (seatOf p)).Nodup := nodup.map fun _ _ h => seatOf_injective h
  have seat : ∀ i ∈ sw.beacon.checks, (reportChecks p sw s).seats[seatOf p i]
      = s.seats[seatOf p i].reported (decide (i ∈ sw.hellos)) sw.beacon.roll := fun i hi =>
    (foldl_seats (fun s pos => reportCheck (decide (pos ∈ sw.hellos)) sw.beacon.roll (seatOf p pos) s) (seatOf p)
      (fun i x => x.reported (decide (i ∈ sw.hellos)) sw.beacon.roll)
      (fun s i j => by rw [reportCheck_event, raiseSeat_seats, setSeat_get]) sw.beacon.checks hl s (seatOf p i)).1 i hi rfl
  have h := foldl_events (fun s pos => reportCheck (decide (pos ∈ sw.hellos)) sw.beacon.roll (seatOf p pos) s) (seatOf p)
    (fun i x => x.reported (decide (i ∈ sw.hellos)) sw.beacon.roll)
    (fun i x => ⟨decide ((x.reported (decide (i ∈ sw.hellos)) sw.beacon.roll).presence ≠ x.presence), false, false, false⟩)
    (fun s i => reportCheck_event _ _ _ s) sw.beacon.checks hl s w hh hn (fun i hi => by rw [hs i hi, seat i hi])
  refine Eq.trans h ?_
  congr 2
  exact List.map_congr_left fun i hi => by rw [seat i hi]

/-- R14: what becomes of the pending open at the end of a commit pass. -/
theorem takePendingOpen_taken (s : State) : PendingTaken s (takePendingOpen s) := by
  unfold PendingTaken takePendingOpen
  cases h : s.round.pendingOpen with
  | none => rfl
  | some q =>
    simp only [withRound_questions]
    split
    · rename_i hk
      simp only [hk, if_true]
      refine ⟨by simp, ?_, fun b hb => by cases b <;> simp [Block.same] at hb ⊢⟩
      have e := raiseNotice_same (s := s.withRound { s.round with pendingOpen := none }) (w := s) (.openDropped q .badValue) rfl rfl
      simp [NoticesRaised, raiseAll, e]
    · rename_i hk
      simp only [hk, if_false]
      exact ⟨_, rfl, fun b hb => by cases b <;> simp [Block.same] at hb ⊢, openQuestion_opened q _⟩

end Sys2Proof.Machine
end

