-- ==== Sys2Proof/Laws/Agent.lean ====
section
/-! SUPPORT. No action that a cue can name reads or moves the agent state (R7): each does the same whatever the Hub Agent is
doing. -/

namespace Sys2Proof.Machine

/-- The state s with the Hub Agent in another state. -/
def State.withAgent (s : State) (a : Agent) : State := s.withHub { s.hub with agent := a }

variable (a : Agent) (s : State)

@[simp] theorem withAgent_now : (s.withAgent a).now = s.now := rfl
@[simp] theorem withAgent_ports : (s.withAgent a).ports = s.ports := rfl
@[simp] theorem withAgent_seats : (s.withAgent a).seats = s.seats := rfl
@[simp] theorem withAgent_teams : (s.withAgent a).teams = s.teams := rfl
@[simp] theorem withAgent_questions : (s.withAgent a).questions = s.questions := rfl
@[simp] theorem withAgent_cues : (s.withAgent a).cues = s.cues := rfl
@[simp] theorem withAgent_round : (s.withAgent a).round = s.round := rfl
@[simp] theorem withAgent_resp : (s.withAgent a).resp = s.resp := rfl
@[simp] theorem withAgent_buzz : (s.withAgent a).buzz = s.buzz := rfl
@[simp] theorem withAgent_score : (s.withAgent a).score = s.score := rfl
@[simp] theorem withAgent_sorter : (s.withAgent a).sorter = s.sorter := rfl
@[simp] theorem withAgent_comp : (s.withAgent a).comp = s.comp := rfl
@[simp] theorem withAgent_link : (s.withAgent a).link = s.link := rfl
@[simp] theorem withAgent_loader : (s.withAgent a).loader = s.loader := rfl
@[simp] theorem withAgent_free : (s.withAgent a).free = s.free := rfl
@[simp] theorem withAgent_config : (s.withAgent a).hub.config = s.hub.config := rfl
@[simp] theorem withAgent_notices : (s.withAgent a).hub.notices = s.hub.notices := rfl
@[simp] theorem withAgent_currentQuestion : currentQuestion (s.withAgent a) = currentQuestion s := rfl
@[simp] theorem withAgent_headerQuestion : headerQuestion (s.withAgent a) = headerQuestion s := rfl
@[simp] theorem withAgent_composedView : composedView (s.withAgent a) = composedView s := rfl
@[simp] theorem withAgent_currentView : currentView (s.withAgent a) = currentView s := rfl

theorem ite_withAgent {c : Prop} [Decidable c] {x y x' y' : State} (hx : x' = x.withAgent a) (hy : y' = y.withAgent a) :
    (if c then x' else y') = (if c then x else y).withAgent a := by
  split
  · exact hx
  · exact hy

theorem ite_act {c : Prop} [Decidable c] {x y x' y' : State × Status} (hx : x' = (x.1.withAgent a, x.2))
    (hy : y' = (y.1.withAgent a, y.2)) :
    (if c then x' else y') = ((if c then x else y).1.withAgent a, (if c then x else y).2) := by
  split
  · exact hx
  · exact hy

/-- A fold of steps that do the same whatever the agent is doing. -/
theorem foldl_withAgent {β : Type} (f : State → β → State) (hf : ∀ s b, f (s.withAgent a) b = (f s b).withAgent a)
    (l : List β) : ∀ s, l.foldl f (s.withAgent a) = (l.foldl f s).withAgent a := by
  induction l with
  | nil => intro _; simp only [List.foldl_nil]
  | cons b l ih => intro s; simp only [List.foldl_cons, hf, ih]

theorem enqueueNotice_withAgent (n : Notice) : enqueueNotice n (s.withAgent a) = (enqueueNotice n s).withAgent a := by
  unfold enqueueNotice
  simp only [withAgent_notices]
  cases noticeMatched n s.hub.notices with
  | some q => rfl
  | none => exact ite_withAgent a rfl rfl

theorem raiseNotice_withAgent (b : NoticeBody) : raiseNotice b (s.withAgent a) = (raiseNotice b s).withAgent a :=
  ite_withAgent a (enqueueNotice_withAgent a s _) rfl

theorem buildTally_withAgent : buildTally (s.withAgent a) = (buildTally s).withAgent a :=
  enqueueNotice_withAgent a (s.withHub { s.hub with tallyEvents := 0, tallyTimer := none }) _

theorem buildSeat_withAgent : buildSeat (s.withAgent a) = (buildSeat s).withAgent a :=
  enqueueNotice_withAgent a (s.withHub { s.hub with seatChanges := [], seatTimer := none }) _

theorem raiseSeat_withAgent (k : Fin 256) (c : Causes) : raiseSeat k c (s.withAgent a) = (raiseSeat k c s).withAgent a := by
  unfold raiseSeat
  refine ite_withAgent a (ite_withAgent a ?_ rfl) rfl
  rw [← buildSeat_withAgent]; rfl

theorem applyPending_withAgent (loud : Bool) : applyPending loud (s.withAgent a) = (applyPending loud s).withAgent a := by
  refine foldl_withAgent a _ (fun s k => ?_) _ s
  unfold applyPendingSeat
  simp only [withAgent_seats]
  cases s.seats[k].pending with
  | none => rfl
  | some t => exact raiseSeat_withAgent a (s.setSeat k _) k _

theorem recompose_withAgent : Machine.recompose (s.withAgent a) = (Machine.recompose s).withAgent a := by
  unfold Machine.recompose
  simp only [withAgent_comp]
  cases s.comp.backState <;> rfl

theorem reportChange_withAgent (f : View → Bool) : reportChange f (s.withAgent a) = (reportChange f s).withAgent a :=
  ite_withAgent a (recompose_withAgent a s) rfl

theorem requestLamp_withAgent (k : Fin 256) (x : Lamp) : requestLamp k x (s.withAgent a) = (requestLamp k x s).withAgent a :=
  ite_withAgent a rfl (ite_withAgent a rfl (ite_withAgent a rfl (ite_withAgent a rfl (ite_withAgent a rfl rfl))))

theorem moveRound_withAgent (st : RoundState) (b : Bool) : moveRound st b (s.withAgent a) = (moveRound st b s).withAgent a :=
  raiseNotice_withAgent a (s.withRound { s.round with state := st }) _

theorem enterCommitting_withAgent (b : Bool) : enterCommitting b (s.withAgent a) = (enterCommitting b s).withAgent a :=
  congrArg beginWalk (moveRound_withAgent a s _ b)

theorem releaseFloor_withAgent : releaseFloor (s.withAgent a) = (releaseFloor s).withAgent a :=
  ite_withAgent a (reportChange_withAgent a (s.withBuzz _) _) rfl

theorem endQuestion_withAgent : endQuestion (s.withAgent a) = (endQuestion s).withAgent a := by
  let ends (b : Bool) (t : State) : State :=
    match (currentQuestion t).mode with | .held => moveRound .closed b t | .auto => enterCommitting b t
  have h : ∀ b t, ends b (t.withAgent a) = (ends b t).withAgent a := by
    intro b t
    simp only [ends, withAgent_currentQuestion]
    cases (currentQuestion t).mode with
    | held => exact moveRound_withAgent a t _ _
    | auto => exact enterCommitting_withAgent a t _
  let t := (releaseFloor s).withRound { (releaseFloor s).round with settle := none, window := .stopped }
  have e : (if s.round.state == .closing then takeSnapshot (t.withAgent a) else t.withAgent a)
      = (if s.round.state == .closing then takeSnapshot t else t).withAgent a := ite_withAgent a rfl rfl
  have e1 : endQuestion s = ends (s.round.state == .closing) (if s.round.state == .closing then takeSnapshot t else t) := rfl
  rw [e1, ← h, ← e]
  unfold endQuestion
  rw [releaseFloor_withAgent]; rfl

theorem floorGranted_withAgent : floorGranted (s.withAgent a) = (floorGranted s).withAgent a :=
  ite_withAgent a (moveRound_withAgent a ((takeSnapshot s).withRound _) _ _) (moveRound_withAgent a (s.withRound _) _ _)

theorem grantFloor_withAgent (e : BuzzEntry) : grantFloor e (s.withAgent a) = (grantFloor e s).withAgent a := by
  let t := s.withBuzz { s.buzz with held := true, headTimer := none }
  let rest (t : State) : State :=
    raiseNotice (.floor t.resp.header.question e t.buzz.stealsUsed (answerExpiry t))
      (t.withBuzz { t.buzz with answerTimer := answerExpiry t })
  have h : ∀ t, rest (t.withAgent a) = (rest t).withAgent a := fun t => raiseNotice_withAgent a (t.withBuzz _) _
  have e1 : ∀ s : State, grantFloor e s =
      rest (requestLamp e.seat .floor (floorGranted (reportBuzz (s.withBuzz { s.buzz with held := true, headTimer := none })))) :=
    fun _ => rfl
  rw [e1, e1, ← h, ← requestLamp_withAgent, ← floorGranted_withAgent]
  exact congrArg (fun t => rest (requestLamp e.seat .floor (floorGranted t))) (reportChange_withAgent a t _)

theorem grantTest_withAgent : grantTest (s.withAgent a) = (grantTest s).withAgent a := by
  unfold grantTest
  simp only [withAgent_buzz]
  cases s.buzz.queue with
  | nil => rfl
  | cons e q => exact ite_withAgent a rfl (ite_withAgent a (grantFloor_withAgent a s e) rfl)

theorem closeAnswering_withAgent : closeAnswering (s.withAgent a) = (closeAnswering s).withAgent a := by
  let t := moveRound .closing false
    ((s.withResp { s.resp with header := { s.resp.header with closeTime := some s.now } }).withRound
      { s.round with window := .stopped, settle := some (after s.now (settleTicks (currentQuestion s))) })
  have e : closeAnswering s = if settleTicks (currentQuestion s) = 0 then settleExpires t else t := rfl
  have e' : closeAnswering (s.withAgent a) =
      if settleTicks (currentQuestion s) = 0 then settleExpires (t.withAgent a) else t.withAgent a := by
    rw [← moveRound_withAgent]; rfl
  rw [e, e']
  refine ite_withAgent a ?_ rfl
  exact ite_withAgent a (grantTest_withAgent a (t.withRound _)) (endQuestion_withAgent a (t.withRound _))

theorem cancelQuestion_withAgent : cancelQuestion (s.withAgent a) = (cancelQuestion s).withAgent a := by
  have e : ∀ s : State, cancelQuestion s = lampsOff (fun _ => false) (applyPending true (moveRound .idle false
      (releaseFloor (s.withRound { s.round with window := .stopped, settle := none })))) := fun _ => rfl
  have h : ∀ t : State, (lampsOff (fun _ => false) t).withAgent a = lampsOff (fun _ => false) (t.withAgent a) := fun _ => rfl
  rw [e, e, h, ← applyPending_withAgent, ← moveRound_withAgent, ← releaseFloor_withAgent]
  rfl

theorem openLamps_withAgent (q : Fin 128) : openLamps q (s.withAgent a) = (openLamps q s).withAgent a := by
  let f (s : State) (p : Fin 4) : State := if s.ports[p].state = .sweeping then startLampSweep p s else s
  have h : ∀ s p, f (s.withAgent a) p = (f s p).withAgent a := fun s p => ite_withAgent a rfl rfl
  unfold openLamps
  refine ite_withAgent a ?_ rfl
  exact foldl_withAgent a f h (List.finRange 4) (lampsOff (fun _ => false) s)

theorem clearResponses_withAgent (q : Fin 128) : clearResponses q (s.withAgent a) = (clearResponses q s).withAgent a := by
  have e : ∀ s : State, clearResponses q s = reportChange countsTallies
      (State.withResp (if s.hub.tallyEvents = 0 then s else buildTally s)
        ⟨⟨some q, some (if s.hub.tallyEvents = 0 then s else buildTally s).questions[q].kind,
          some (if s.hub.tallyEvents = 0 then s else buildTally s).now, none, false⟩,
          Vector.replicate 256 Response.reset, Tallies.reset⟩) := fun _ => rfl
  have h : (if (s.withAgent a).hub.tallyEvents = 0 then s.withAgent a else buildTally (s.withAgent a))
      = (if s.hub.tallyEvents = 0 then s else buildTally s).withAgent a := ite_withAgent a rfl (buildTally_withAgent a s)
  rw [e, e, h, ← reportChange_withAgent]
  rfl

theorem openQuestion_withAgent (q : Fin 128) : openQuestion q (s.withAgent a) = (openQuestion q s).withAgent a := by
  let last (t : State) : State := moveRound .opened false (t.withRound (openedRound q t))
  have h : ∀ t, last (t.withAgent a) = (last t).withAgent a := fun t => moveRound_withAgent a (t.withRound _) _ _
  have e : ∀ s : State, openQuestion q s =
      last (openLamps q (reportChange countsBuzz ((clearResponses q s).withBuzz Buzz.reset))) := fun _ => rfl
  rw [e, e, ← h, ← openLamps_withAgent, ← reportChange_withAgent, clearResponses_withAgent]
  rfl

theorem playSequence_withAgent (n : Fin 16) : playSequence n (s.withAgent a) = (playSequence n s).withAgent a := by
  unfold playSequence enterStep
  rw [← recompose_withAgent]
  rfl

theorem openChosen_withAgent (q : Option (Fin 128)) :
    openChosen q (s.withAgent a) = ((openChosen q s).1.withAgent a, (openChosen q s).2) := by
  unfold openChosen
  rw [show openable q (s.withAgent a) = openable q s from rfl]
  simp only [withAgent_round]
  cases s.round.state <;> try rfl
  · cases openable q s with
    | none => rfl
    | some n => simp only [openQuestion_withAgent]
  · cases openable q s <;> rfl

/-- R7: the action of a cue does the same whatever the Hub Agent is doing. -/
theorem cueAction_withAgent (c : CueAction) (x : Byte) :
    cueAction c x (s.withAgent a) = ((cueAction c x s).1.withAgent a, (cueAction c x s).2) := by
  cases c with
  | openQuestion => exact openChosen_withAgent a s _
  | next => exact openChosen_withAgent a s _
  | close =>
    unfold cueAction closeAction
    simp only [withAgent_round]
    cases s.round.state <;> try rfl
    · simp only [closeAnswering_withAgent]
    · exact ite_act a rfl rfl
  | commit =>
    unfold cueAction commitAction
    simp only [withAgent_round]
    cases s.round.state <;> try rfl
    simp only [enterCommitting_withAgent]
  | cancel =>
    unfold cueAction cancelAction
    simp only [withAgent_round]
    cases s.round.state <;> simp only [cancelQuestion_withAgent]
  | reveal =>
    unfold cueAction revealAction
    simp only []
    cases finOf 16 x.toNat with
    | none => rfl
    | some k =>
      simp only [withAgent_comp]
      exact ite_act a (by simp only [playSequence_withAgent]) rfl
  | stopSequence =>
    unfold cueAction stopSequence
    simp only [withAgent_comp]
    cases s.comp.player with
    | stopped => rfl
    | active e p => simp only []; rw [← recompose_withAgent]; rfl
  | freeze => rfl
  | thaw => rfl
  | curtainOn => exact ite_act a rfl rfl
  | curtainOff => exact ite_act a rfl rfl

end Sys2Proof.Machine
end

