-- ==== Sys2Proof/Laws/Links.lean ====
section
/-! SUPPORT. What the two arbiters and the receivers of the links do to the Link Switch (R144 to R153). -/

namespace Sys2Proof.Machine

/-! ## The arbiters -/

/-- R149: the wall-port arbiter leaves the console side alone. -/
theorem wallChoose_console (s : State) :
    (wallChoose s).link.consoleTx = s.link.consoleTx ∧ (wallChoose s).link.replies = s.link.replies
      ∧ (wallChoose s).link.owed = s.link.owed ∧ (wallChoose s).link.reports = s.link.reports := by
  unfold wallChoose
  cases s.link.wallTx <;> cases s.link.scoreOut <;> cases s.link.passQueue <;> simp [sendBurst, sendPassed]
  split <;> simp

/-- R153: the console-transmit arbiter leaves the wall side alone. -/
theorem consoleChoose_wall (s : State) :
    (consoleChoose s).link.wallTx = s.link.wallTx ∧ (consoleChoose s).link.scoreOut = s.link.scoreOut
      ∧ (consoleChoose s).link.passQueue = s.link.passQueue ∧ (consoleChoose s).link.burstNext = s.link.burstNext
      ∧ (consoleChoose s).link.fillTimer = s.link.fillTimer ∧ (consoleChoose s).link.hold = s.link.hold := by
  unfold consoleChoose
  cases s.link.consoleTx <;> cases s.link.replies <;> cases s.link.reports <;> cases s.hub.notices <;> simp

/-- Neither arbiter touches a latched flag of the Link Switch. -/
@[simp] theorem settleLinks_flags (s : State) :
    (settleLinks s).link.linkCheck = s.link.linkCheck ∧ (settleLinks s).link.passOverrun = s.link.passOverrun
      ∧ (settleLinks s).link.requestDropped = s.link.requestDropped := by
  unfold settleLinks wallChoose consoleChoose sendBurst sendPassed
  repeat' split
  all_goals simp

/-- R148, R150: the burst that begins. -/
theorem sendBurst_sent (b : Burst) (s : State) :
    ∃ f rest, (sendBurst b s).link.wallTx = some ⟨f, rest⟩ ∧ f.cls = 7
      ∧ rest.length = (if b.image.rows.length ≤ 8 then 0 else 1)
      ∧ f.payload.take 3 = [s.link.burstNext, 1, if b.image.rows.length ≤ 8 then 1 else 2] := by
  refine ⟨_, _, rfl, ?_⟩
  unfold scoreFrames
  split <;> simp [scoreFrame] <;> decide

/-! ## The receivers -/

/-- R142: the hunt through bytes at hand goes to the first start mark among them. -/
theorem hunt_spec (l : List Heard) :
    ((∀ x ∈ l, x.value ≠ 165) → hunt l = .hunting)
      ∧ ∀ front x back, l = front ++ x :: back → x.value = 165 → (∀ y ∈ front, y.value ≠ 165) →
        hunt l = .collecting x.time back := by
  induction l with
  | nil => exact ⟨fun _ => rfl, fun front x back h => by cases front <;> simp at h⟩
  | cons b l ih =>
    by_cases hb : b.value = 165
    · refine ⟨fun h => absurd hb (h b List.mem_cons_self), fun front x back h hx hf => ?_⟩
      cases front with
      | nil => obtain ⟨rfl, rfl⟩ := List.cons.inj h; rw [hunt]; exact if_pos hb
      | cons y ys => exact absurd ((List.cons.inj h).1 ▸ hb) (hf y List.mem_cons_self)
    · have e : hunt (b :: l) = hunt l := by rw [hunt]; exact if_neg hb
      rw [e]
      refine ⟨fun h => ih.1 fun x g => h x (List.mem_cons_of_mem _ g), fun front x back h hx hf => ?_⟩
      cases front with
      | nil => exact absurd ((List.cons.inj h).1 ▸ hx) hb
      | cons y ys => exact ih.2 ys x back (List.cons.inj h).2 hx fun z g => hf z (List.mem_cons_of_mem _ g)

/-- R142: a receiver after a frame. -/
theorem after_huntsOn (r : Receiver) (start : Time) (bytes : List Heard) (broken : Bool) :
    HuntsOn r start bytes broken (r.after start bytes broken) := by
  have e : r.held start bytes = match r with
      | .hunting => bytes
      | .collecting begun more => if begun = start ∧ bytes <+: more then more else bytes := by
    cases r <;> simp [Receiver.held, List.isPrefixOf_iff_prefix]
  unfold HuntsOn Receiver.after
  rw [e]
  exact hunt_spec _

/-- R142: what the end of a frame does to the receivers, and nothing else. -/
theorem receiveOn_goesOn (link : Link) (start : Time) (bytes : List Heard) (broken : Bool) (s : State) :
    ReceiverGoesOn link start bytes broken s (receiveOn link start bytes broken s)
      ∧ Keeps [.receivers] s (receiveOn link start bytes broken s) ∧ (receiveOn link start bytes broken s).free = s.free := by
  cases link <;>
    exact ⟨⟨after_huntsOn _ _ _ _, rfl⟩, by intro b hb; cases b <;> simp [Block.same, receiveOn] at hb ⊢, rfl⟩

theorem zipHeard_maps : ∀ (values : List Byte) (times : List Time), values.length = times.length →
    (List.zipWith Heard.mk values times).map (·.value) = values ∧ (List.zipWith Heard.mk values times).map (·.time) = times
  | [], [], _ => ⟨rfl, rfl⟩
  | v :: values, t :: times, h => by
    have := zipHeard_maps values times (Nat.succ.inj h)
    simp [this]

/-- R142, R176: the bytes of a frame that arrived, and the readings of their arrival. -/
theorem heardOf_arrived (cls : Byte) (a : Arrival) : ArrivedAs cls a (heardOf cls a) :=
  zipHeard_maps (Frame.body ⟨cls, payloadOf a⟩) (timesOf a) (by simp [Frame.body, be16, timesOf, payloadOf])

/-- What arrived as a frame is told by its bytes and their readings. -/
theorem ArrivedAs.unique {cls : Byte} {a : Arrival} {heard : List Heard} (h : ArrivedAs cls a heard) :
    heard = heardOf cls a := by
  obtain ⟨h1, h2⟩ := h
  obtain ⟨g1, g2⟩ := heardOf_arrived cls a
  refine List.ext_getElem? fun i => ?_
  have v := congrArg (·[i]?) (h1.trans g1.symm)
  have t := congrArg (·[i]?) (h2.trans g2.symm)
  simp only [List.getElem?_map] at v t
  cases hx : heard[i]? <;> cases hy : (heardOf cls a)[i]? <;> simp_all
  rename_i x y
  cases x; cases y; simp_all

/-- R142: the gap test over the readings of successive bytes. -/
theorem gapped_iff : ∀ times : List Time, gapped times = true ↔ Gapped times
  | [] => by simp [gapped, Gapped]
  | [a] => by simp [gapped, Gapped]
  | a :: b :: times => by
    rw [gapped, Bool.or_eq_true, gapped_iff (b :: times), decide_eq_true_eq]
    constructor
    · rintro (h | ⟨i, x, y, h1, h2, h3⟩)
      · exact ⟨0, a, b, rfl, rfl, h⟩
      · exact ⟨i + 1, x, y, h1, h2, h3⟩
    · rintro ⟨i, x, y, h1, h2, h3⟩
      cases i with
      | zero => cases h1; cases h2; exact .inl h3
      | succ i => exact .inr ⟨i, x, y, h1, h2, h3⟩

theorem arrivalBroken_iff (a : Arrival) :
    arrivalBroken a = true ↔ 250 < a.payload.length ∨ Gapped (a.start :: arrivalTimes a) := by
  rw [arrivalBroken, Bool.or_eq_true, gapped_iff, decide_eq_true_eq]
  simp [payloadOf, timesOf, arrivalTimes]

/-- R142, R143: a frame that arrived whole, with a length of its class, is taken. -/
theorem takeGood_whole (link : Link) (cls : Byte) {a : Arrival} {payload : List Byte} (take : List Byte → State → State)
    (s : State) (h : ArrivedWhole a payload) (hn : payload.length ≤ 250) (hg : inwardGood link cls payload.length = true) :
    takeGood link cls a take s = finish (taken link cls a (take payload) s) := by
  obtain ⟨rfl, h⟩ := h
  have hb : arrivalBroken a = false := by
    rw [Bool.eq_false_iff]
    exact fun g => ((arrivalBroken_iff a).mp g).elim (fun g => by simp at hn; omega) h
  rw [takeGood, hb]
  exact if_pos (by simpa [payloadOf] using hg)

/-- R142, R143: a frame that did not, or whose length is not one of its class, is discarded. -/
theorem takeGood_discards (link : Link) (cls : Byte) (a : Arrival) (take : List Byte → State → State) (s : State)
    (h : arrivalBroken a = true ∨ inwardGood link cls a.payload.length = false) :
    takeGood link cls a take s = finish (discardFrame link a.start (heardOf cls a) (arrivalBroken a) s) := by
  refine if_neg ?_
  rcases h with h | h <;> simp [h, payloadOf]

/-- R143: a good frame taken. -/
theorem taken_frame (link : Link) (cls : Byte) (a : Arrival) (take : State → State) (s : State) :
    FrameTaken link cls a (take s) (taken link cls a take s) := by
  obtain ⟨h1, h2⟩ := receiveOn_goesOn link a.start (heardOf cls a) false (take s)
  exact ⟨⟨_, heardOf_arrived cls a, h1⟩, h2⟩

/-! ## SCORE frames (R148, 12.7) -/

theorem nameBytes_field (fb : Nat → Byte) (name : List Byte) : NameField name (nameBytes fb name) := by
  refine ⟨by simp [nameBytes], ((List.range 12).map fun i => name.getD i (fb i)).drop (name.take 12).length, ?_⟩
  have e : ((List.range 12).map fun i => name.getD i (fb i)).take (name.take 12).length = name.take 12 := by
    refine List.ext_getElem? fun i => ?_
    rcases Nat.lt_or_ge i (name.take 12).length with h | h
    · have h1 : i < 12 ∧ i < name.length := by simpa using h
      rw [List.getElem?_take_of_lt h, List.getElem?_take_of_lt h1.1]
      simp [h1.1, h1.2]
    · rw [List.getElem?_eq_none (by simp at h ⊢; omega), List.getElem?_eq_none h]
  rw [nameBytes, List.cons_append, ← List.take_append_drop (name.take 12).length ((List.range 12).map _), e,
    List.drop_left' rfl]

/-- R127, 12.7: the bytes of a row. -/
theorem row_bytes (fb : Nat → Byte) (r : Row) : RowBytes r (r.bytes fb) := by
  cases r with
  | team standing t name hl inv =>
    refine ⟨nameBytes fb name, rowMarks false false hl inv false false false false, nameBytes_field fb name,
      by revert hl inv; decide, ?_⟩
    cases standing <;> rfl
  | buzz place e name holder hl inv =>
    refine ⟨nameBytes fb name, rowMarks e.overtaken e.tie hl inv holder false false false, nameBytes_field fb name, ?_, rfl⟩
    generalize e.overtaken = a
    generalize e.tie = b
    revert a b hl inv holder; decide
  | option k count percent => rfl

/-- R148, 12.7: one SCORE frame of a burst. -/
theorem scoreFrame_frame (fb : Nat → Byte) (n : Byte) (i c : Nat) (b : Burst) (rows : List Row) :
    ScoreFrame n (byteOf i) (byteOf c) b rows (scoreFrame fb n i c b rows) := by
  refine ⟨rfl, fb 4, rows.mapIdx fun j r => r.bytes fun x => fb (16 + 128 * i + 12 * j + x), ?_, ?_⟩
  · have e : b.image.headerBytes = viewHeader b.image := by
      unfold ViewImage.headerBytes viewHeader
      cases b.image.extra <;> try rfl
      rename_i q f
      cases f <;> rfl
    simp only [scoreFrame, e] <;> rfl
  · rw [List.forall₂_iff_get]
    refine ⟨by simp, fun j h1 h2 => ?_⟩
    simpa using row_bytes _ _

/-! ## NOTICE frames (12.6) -/

theorem marks_byte (m : Marks) : MarksByte m false false m.byte := by
  rcases m with ⟨a, b, c⟩
  unfold MarksByte Marks.byte
  simp only []
  revert a b c; decide

theorem marksByte_entry (e : BuzzEntry) : MarksByte e.marks e.overtaken e.tie e.marksByte := by
  rcases e with ⟨k, t, x, ⟨a, b, c⟩, o, i⟩
  unfold MarksByte BuzzEntry.marksByte
  simp only []
  revert a b c o i; decide

theorem seatChange_bytes (e : SeatChange) : SeatChangeBytes e e.bytes := by
  refine ⟨e.causes.byte, ?_, rfl⟩
  rcases e.causes with ⟨a, b, c, d⟩
  revert a b c d; decide

/-- 12.6: the payload of a NOTICE frame. -/
theorem notice_bytes (fb : Nat → Byte) (n : Notice) : NoticeBytes n (n.payload fb) := by
  rcases n with ⟨b, time⟩
  cases b with
  | roundState st q mark snap =>
    cases snap with
    | none => exact ⟨(List.range 16).map fb, by simp, rfl⟩
    | some v => rfl
  | tally q k t =>
    simp only [NoticeBytes, Notice.payload, NoticeBody.bytes, Tallies.bytes]
    have : t.counts.toList = [t.counts[0], t.counts[1], t.counts[2], t.counts[3], t.counts[4], t.counts[5]] := by
      rcases t.counts with ⟨⟨l⟩, h⟩
      match l, h with
      | [a, b, c, d, e, f], _ => rfl
    rw [this]
    simp [NoticeBody.kind, NoticeBody.subkind, NoticeKind.code, kindByte, byteOf] <;> rfl
  | buzzQueued q e place => exact ⟨e.marksByte, marksByte_entry e, rfl⟩
  | falseStart q seat team t m => exact ⟨m.byte, marks_byte m, rfl⟩
  | floor q e steals expiry =>
    cases expiry with
    | none => exact ⟨e.marksByte, [fb 0, fb 1, fb 2, fb 3], marksByte_entry e, rfl, by simp, by
        simp [Notice.payload, NoticeBody.bytes, flaggedTime, NoticeBody.kind, NoticeBody.subkind, NoticeKind.code, byteOf,
          flagByte]⟩
    | some x => exact ⟨e.marksByte, be32 x.toNat, marksByte_entry e, rfl, by simp, by
        simp [Notice.payload, NoticeBody.bytes, flaggedTime, NoticeBody.kind, NoticeBody.subkind, NoticeKind.code, byteOf,
          flagByte]⟩
  | seats es =>
    refine ⟨es.map SeatChange.bytes, ?_, rfl⟩
    rw [List.forall₂_map_right_iff]
    exact List.forall₂_same.mpr fun e _ => seatChange_bytes e
  | help seat team st q t m => exact ⟨m.byte, marks_byte m, rfl⟩
  | answer seat team q a t m changes =>
    refine ⟨m.byte, marks_byte m, ?_⟩
    cases a <;> rfl
  | wallSilent r =>
    cases r with
    | none => exact ⟨fb 0, by simp, rfl⟩
    | some x => exact ⟨x, by simp, rfl⟩
  | _ => rfl

/-! ## What the arbiters take -/

/-- R148, R150: the burst that begins. -/
theorem sendBurst_begun (b : Burst) (s : State) : BurstBegun b s (sendBurst b s) := by
  refine ⟨⟨_, _, rfl, ?_⟩, rfl, rfl, rfl, rfl, by intro b hb; cases b <;> simp [Block.same, sendBurst] at hb ⊢⟩
  unfold scoreFrames
  split
  · exact ⟨scoreFrame_frame _ _ _ _ _ _, rfl⟩
  · exact ⟨scoreFrame_frame _ _ _ _ _ _, _, rfl, scoreFrame_frame _ _ _ _ _ _⟩

theorem sendPassed_begun (f : Frame) (queue : List Frame) (s : State) : PassBegun f queue s (sendPassed f queue s) := by
  refine ⟨rfl, rfl, ?_, rfl, rfl, rfl, by intro b hb; cases b <;> simp [Block.same, sendPassed] at hb ⊢⟩
  by_cases h : queue.length = 2 <;> simp [sendPassed, holdAfterRemoval, h]

/-- R149: what an idle wall transmitter takes. -/
theorem wallChoose_taken (s : State) : WallTaken s (wallChoose s) := by
  unfold WallTaken wallChoose
  cases s.link.wallTx with
  | some t => rfl
  | none =>
    cases s.link.scoreOut with
    | none => cases s.link.passQueue with
      | nil => rfl
      | cons f queue => exact sendPassed_begun f queue s
    | some b => cases s.link.passQueue with
      | nil => exact sendBurst_begun b s
      | cons f queue =>
        simp only [List.length_cons]
        split
        · exact sendBurst_begun b s
        · exact sendPassed_begun f queue s

/-- R153, R152: what an idle console transmitter takes. -/
theorem consoleChoose_taken (s : State) : ConsoleTaken s (consoleChoose s) := by
  unfold ConsoleTaken consoleChoose
  cases s.link.consoleTx with
  | some f => rfl
  | none =>
    cases s.link.replies with
    | cons r rs => exact ⟨rfl, by intro b hb; cases b <;> simp [Block.same] at hb ⊢⟩
    | nil => cases s.link.reports with
      | cons r rs => exact ⟨rfl, by intro b hb; cases b <;> simp [Block.same] at hb ⊢⟩
      | nil => cases s.hub.notices with
        | nil => rfl
        | cons n ns =>
          exact ⟨⟨_, rfl, notice_bytes _ n⟩, rfl, by intro b hb; cases b <;> simp [Block.same] at hb ⊢⟩

/-! ## Frames taken and discarded -/

theorem frameBroken_iff (start : Time) (heard : List Heard) :
    frameBroken start heard = true ↔
      let bytes := heard.map (·.value)
      (2 ≤ bytes.length ∧ 250 < u8 bytes 1)
        ∨ (bytes.length ≤ u8 bytes 1 + 4 ∧ Gapped (start :: heard.map (·.time)))
        ∨ (bytes.length = u8 bytes 1 + 4 ∧ u16 bytes (u8 bytes 1 + 2) ≠ (crc (bytes.take (u8 bytes 1 + 2))).toNat) := by
  simp only [frameBroken, frameComplete, Bool.or_eq_true, Bool.and_eq_true, decide_eq_true_eq, beq_iff_eq, bne_iff_ne, ne_eq,
    gapped_iff, or_assoc]

theorem frameDiscarded_iff (link : Link) (start : Time) (heard : List Heard) :
    frameDiscarded link start heard = true ↔
      let bytes := heard.map (·.value)
      frameBroken start heard = true
        ∨ (bytes.length = u8 bytes 1 + 4 ∧ inwardGood link (bytes.getD 0 0) (u8 bytes 1) = false) := by
  simp only [frameDiscarded, frameComplete, Bool.or_eq_true, Bool.and_eq_true, beq_iff_eq, Bool.not_eq_true']

/-- R145, R146: an offer to the Pass Queue. -/
theorem offerPass_offered (f : Frame) (s : State) :
    Offered f s (offerPass f s) ∧ Keeps [.passing, .linkFlags] s (offerPass f s) := by
  constructor
  · unfold Offered offerPass
    split <;> simp [holdAfterArrival]
    by_cases e : s.link.passQueue.length = 5 <;> simp [e]
  · intro b hb
    unfold offerPass
    cases b <;> simp [Block.same] at hb ⊢ <;> split <;> simp

end Sys2Proof.Machine
end

