-- ==== Sys2Proof/Laws/Marks.lean ====
section
/-! SUPPORT. What the steps of a mark, the moves of the player and the end of a compose do (R130 to R139). -/

namespace Sys2Proof.Machine

/-- R131 step 2, R132: the swap. -/
theorem swapBuffers_swaps (refresh : Option Byte) (s : State) : BuffersSwap refresh s (swapBuffers refresh s) := by
  unfold BuffersSwap swapBuffers
  by_cases h : s.comp.backState = .ready ∧ s.comp.freeze = false
  · rw [if_pos h, if_pos ⟨h.1, by simp [h.2]⟩]
    simp only []
    cases hc : s.comp.curtain with
    | true =>
      simp only [if_true]
      refine ⟨by simp, ⟨_, rfl, rfl, rfl, rfl⟩, ?_⟩
      intro b hb; cases b <;> simp [Block.same, placeCurtainBlank, placeBurst] at hb ⊢
    | false =>
      simp only [Bool.false_eq_true, if_false]
      refine ⟨by simp, ⟨_, rfl, rfl, rfl⟩, ?_⟩
      intro b hb; cases b <;> simp [Block.same, placeBurst] at hb ⊢
  · rw [if_neg h, if_neg fun g => h ⟨g.1, by simpa using g.2⟩]

/-- R130: a change of the current view. -/
theorem recompose_refreshed (s : State) : Refreshed true s (Machine.recompose s) := by
  have hv : composedView (Machine.recompose s) = composedView s := by
    refine composedView_congr ?_ ?_ ?_ ?_ ?_ ?_ ?_ ?_ ?_
    all_goals simp
    split <;> rfl
  unfold Refreshed
  rw [recompose_comp, hv, if_neg (by decide)]
  by_cases h : s.comp.backState = .composing
  · rw [if_pos h, if_pos h]
  · rw [if_neg h, if_neg h]

/-- R128, R130: a change reported to the Composer. -/
theorem reportChange_refreshed (counts : View → Bool) (s : State) :
    Refreshed (counts (currentView s)) s (reportChange counts s) := by
  unfold reportChange
  cases h : counts (currentView s) with
  | true => simp only [if_true]; exact recompose_refreshed s
  | false => simp [Refreshed]

/-- R136: the player enters a step. -/
theorem enterStep_entered (p : Playing) (n : Fin 64) (s : State) :
    Refreshed true (s.withComp { s.comp with player := .active false { p with
      step := n, view := s.comp.steps[n].view, highlight := s.comp.steps[n].highlight
      invert := s.comp.steps[n].invert, team := s.comp.steps[n].team, hold := s.comp.steps[n].hold } })
      (enterStep p n s) ∧ Keeps [.comp] s (enterStep p n s) := by
  have hn : stepIndex n.val = n := Fin.ext (Nat.mod_eq_of_lt n.isLt)
  constructor
  · unfold enterStep Playing.inStep
    simp only [hn]
    exact recompose_refreshed _
  · intro b hb; cases b <;> simp [Block.same] at hb ⊢

/-- R131 step 3, R137: the count. -/
theorem countStep_counts (s : State)
    (h : ∀ p, s.comp.player = .active false p → p.first + p.count ≤ 64 ∧ p.step < p.first + p.count) :
    StepCounts s (countStep s) := by
  unfold StepCounts countStep
  match hp : s.comp.player with
  | .stopped => simp
  | .active true p => simp
  | .active false p =>
    obtain ⟨h1, h2⟩ := h p hp
    simp only []
    by_cases hf : s.comp.freeze = true
    · rw [if_pos hf, if_pos hf]
    · rw [if_neg hf, if_neg hf]
      by_cases hh : p.hold ≤ 1
      · rw [if_neg (by omega), if_pos hh]
        unfold stepRunsOut
        by_cases hs : p.step + 1 < p.first + p.count
        · rw [if_pos (.inl hs)]
          intro n hn
          rw [if_pos hs] at hn
          rw [if_pos hs, ← hn]
          exact enterStep_entered p n s
        · by_cases hl : p.loops = true
          · rw [if_pos (.inr hl)]
            intro n hn
            rw [if_neg hs] at hn
            have e : enterStep p p.first s = enterStep p n.val s := by rw [hn]
            rw [if_neg hs, if_pos hl, e]
            exact enterStep_entered p n s
          · rw [if_neg (by tauto), if_neg hs, if_neg hl]
            refine ⟨by simp, by simp [NoticesRaised, raiseAll], ?_⟩
            intro b hb; cases b <;> simp [Block.same] at hb ⊢
      · rw [if_pos (by omega), if_neg hh]
        refine ⟨by simp, ?_⟩
        intro b hb; cases b <;> simp [Block.same] at hb ⊢

theorem windowRuns_iff (s : State) : windowRuns s = true ↔ ∃ d, s.round.window = .running d := by
  unfold windowRuns
  cases s.round.window <;> simp

/-- R131 step 4, R128: the countdown. -/
theorem countdownRule_changes (s : State) : CountdownChanges s (countdownRule s) := by
  let a := if windowRuns s || s.comp.countdownRunning then reportChange countsCountdown s else s
  have e : countdownRule s = a.withComp { a.comp with countdownRunning := windowRuns s } := rfl
  have hk : Keeps [.comp] s a := by
    intro b hb
    simp only [a]
    split
    · cases b <;> simp [Block.same] at hb ⊢
    · cases b <;> simp [Block.same] at hb ⊢
  refine ⟨a, ?_, hk, ?_, ?_, ?_⟩
  · have hd : decide (((∃ d, s.round.window = .running d) ∨ s.comp.countdownRunning = true) ∧ currentView s = .countdown)
        = ((windowRuns s || s.comp.countdownRunning) && countsCountdown (currentView s)) := by
      rw [Bool.eq_iff_iff]
      simp [windowRuns_iff, countsCountdown]
    rw [hd]
    simp only [a]
    cases windowRuns s || s.comp.countdownRunning with
    | true => exact reportChange_refreshed countsCountdown s
    | false => simp [Refreshed]
  · rw [e]; intro b hb; cases b <;> simp [Block.same] at hb ⊢
  · intro h
    rw [e]; simp [(windowRuns_iff s).mpr h]
  · intro h
    have : windowRuns s = false := by
      rw [Bool.eq_false_iff]
      exact fun g => by obtain ⟨d, hd⟩ := (windowRuns_iff s).mp g; exact h d hd
    rw [e]; simp [this]

end Sys2Proof.Machine
end

