-- ==== Sys2Proof/Laws/Notices.lean ====
section
/-! SUPPORT. Where a TALLY or SEAT notice meets a queued one (R170): the list operations of the Notice Queue. -/

namespace Sys2Proof.Machine

/-- R170 case 1: the oldest queued TALLY notice is replaced where it stands. -/
theorem replaceTally_found (n : Notice) (front : List Notice) (x : Notice) (back : List Notice) (h : x.body.kind = .tally)
    (hf : ∀ y ∈ front, y.body.kind ≠ .tally) :
    replaceTally n (front ++ x :: back) = some (front ++ n :: back) := by
  induction front with
  | nil =>
    simp only [List.nil_append, replaceTally]
    cases hb : x.body <;> simp [hb, NoticeBody.kind] at h ⊢
  | cons y ys ih =>
    have hy := hf y (by simp)
    have := ih fun z hz => hf z (by simp [hz])
    simp only [List.cons_append, replaceTally]
    cases hb : y.body <;> simp [hb, NoticeBody.kind] at hy ⊢ <;> simpa using this

theorem replaceTally_missing (n : Notice) (q : List Notice) (hf : ∀ y ∈ q, y.body.kind ≠ .tally) :
    replaceTally n q = none := by
  induction q with
  | nil => rfl
  | cons y ys ih =>
    have hy := hf y (by simp)
    have := ih fun z hz => hf z (by simp [hz])
    simp only [replaceTally]
    cases hb : y.body <;> simp [hb, NoticeBody.kind] at hy ⊢ <;> simpa using this

/-- R170 case 2: the newest queued SEAT notice merges, or none does. -/
theorem mergeNewestSeat_found (es old : List SeatChange) (time : Time) (front : List Notice) (x : Notice) (back : List Notice)
    (h : x.body = .seats old) (hf : ∀ y ∈ front, y.body.kind ≠ .seat) :
    mergeNewestSeat es time (front ++ x :: back) =
      if (mergeChanges old es).length ≤ 16 then some (front ++ ⟨.seats (mergeChanges old es), time⟩ :: back) else none := by
  induction front with
  | nil =>
    simp only [List.nil_append, mergeNewestSeat, h]
  | cons y ys ih =>
    have hy := hf y (by simp)
    have := ih fun z hz => hf z (by simp [hz])
    simp only [List.cons_append, mergeNewestSeat]
    rw [this]
    cases hb : y.body <;> simp [hb, NoticeBody.kind] at hy ⊢

theorem mergeNewestSeat_missing (es : List SeatChange) (time : Time) (q : List Notice)
    (hf : ∀ y ∈ q, y.body.kind ≠ .seat) : mergeNewestSeat es time q = none := by
  induction q with
  | nil => rfl
  | cons y ys ih =>
    have hy := hf y (by simp)
    have := ih fun z hz => hf z (by simp [hz])
    simp only [mergeNewestSeat]
    cases hb : y.body <;> simp [hb, NoticeBody.kind] at hy ⊢ <;> simpa using this

end Sys2Proof.Machine
end

