-- ==== Sys2Proof/Laws/Press.lean ====
section
/-! SUPPORT. What the shared operations of the press path can do: one lemma for each, which later proofs cite instead of unfolding
the operation. -/

namespace Sys2Proof.Machine

/-! ## The Seat Directory takes a press -/

/-- R32, R37, R41: a PRESS or DIGITS frame heard. -/
def pressHeard (k : Fin 256) (number : Fin 4) (s : State) : State :=
  raiseSeat k (frameCauses s.seats[k] { s.seats[k].heard with lastPress := some number })
    (queueFeedback k (s.setSeat k { s.seats[k].heard with lastPress := some number }))

theorem takePress_eq (k : Fin 256) (number : Fin 4) (route : State → State) (s : State) :
    takePress k number route s =
      if s.seats[k].lastPress = some number then pressHeard k number s else route (pressHeard k number s) := rfl

/-- A SEAT event is what raising it does. -/
theorem raiseSeat_event (k : Fin 256) (c : Causes) (s : State) : SeatEvent k c s (raiseSeat k c s) := by
  unfold SeatEvent
  have e : (s.withSeats (raiseSeat k c s).seats) = s := by rw [raiseSeat_seats]; rfl
  simp only [e, and_self]

/-- A press changes nothing of its seat but the presence, the missed checks, the press number and the queued flag. -/
theorem pressHeard_seat (k : Fin 256) (number : Fin 4) (s : State) :
    (pressHeard k number s).seats[k] =
      { s.seats[k].heard with lastPress := some number, queued := (pressHeard k number s).seats[k].queued } := by
  simp only [pressHeard, raiseSeat_seats]
  rw [queueFeedback_seat, setSeat_get, if_pos rfl]

/-- The Press Stamper holds nothing. -/
abbrev stamperEmptied (s : State) : State := s.withStamper { s.stamper with inHand := none }

theorem pressHeard_heard (k : Fin 256) (number : Fin 4) (s : State) :
    PressHeard k number s (pressHeard k number (stamperEmptied s)) := by
  refine ⟨(stamperEmptied s).setSeat k { s.seats[k].heard with lastPress := some number },
    _, ?_, ?_, ?_, queueFeedback_asked k _, ?_, ?_⟩
  · intro j; rw [setSeat_get]; rfl
  · simp
  · intro b hb; cases b <;> simp [Block.same] at hb ⊢
  · have e : frameCauses s.seats[k] { s.seats[k].heard with lastPress := some number }
        = ⟨decide (s.seats[k].presence ≠ .present), false, false, false⟩ := by
      simp only [frameCauses, Seat.heard]
      generalize s.seats[k].presence = y
      cases y <;> simp
    rw [← e]
    exact raiseSeat_event _ _ _
  · intro b hb; cases b <;> simp [Block.same, pressHeard] at hb ⊢

/-- R32: a frame of a port that is not SWEEPING is discarded. -/
theorem handOff_stopped (f : Stamped) (s : State) (h : s.ports[f.port].state ≠ .sweeping) :
    handOff f s = stamperEmptied s := by
  unfold handOff takeFrame
  exact if_pos h

/-- R32, R33: a HELLO of a SWEEPING port. -/
theorem handOff_hello (p : Fin 4) (pos : Fin 64) (cls : Byte) (battery : Bool) (stamp : Option (Time × Marks)) (s : State)
    (h : s.ports[p].state = .sweeping) :
    handOff ⟨p, pos, .hello cls battery, stamp⟩ s = takeHello (seatOf p pos) cls battery (stamperEmptied s) := by
  unfold handOff takeFrame
  exact if_neg (not_not.mpr h)

/-- R32, R37, R23: a PRESS of a SWEEPING port; a duplicate goes no further than its seat. -/
theorem handOff_press (p : Fin 4) (pos : Fin 64) (key : Byte) (n : Fin 4) (r : Fin 16) (o : Nat) (time : Time)
    (marks : Marks) (s : State) (h : s.ports[p].state = .sweeping) :
    handOff ⟨p, pos, .press key n r o, some (time, marks)⟩ s =
      if s.seats[seatOf p pos].lastPress = some n then pressHeard (seatOf p pos) n (stamperEmptied s)
      else routeKey (seatOf p pos) s.seats[seatOf p pos].team key time marks
        (pressHeard (seatOf p pos) n (stamperEmptied s)) := by
  unfold handOff takeFrame
  exact if_neg (not_not.mpr h)

/-- R32, R37, R23: a DIGITS frame of a SWEEPING port. -/
theorem handOff_digits (p : Fin 4) (pos : Fin 64) (v : Nat) (n : Fin 4) (r : Fin 16) (o : Nat) (time : Time)
    (marks : Marks) (s : State) (h : s.ports[p].state = .sweeping) :
    handOff ⟨p, pos, .digits v n r o, some (time, marks)⟩ s =
      if s.seats[seatOf p pos].lastPress = some n then pressHeard (seatOf p pos) n (stamperEmptied s)
      else routeDigits (seatOf p pos) s.seats[seatOf p pos].team v time marks
        (pressHeard (seatOf p pos) n (stamperEmptied s)) := by
  unfold handOff takeFrame
  exact if_neg (not_not.mpr h)

/-! ## Answers -/

theorem Hub.enqueued_notices (n : Notice) {h g : Hub} (e : h.notices = g.notices) :
    (h.enqueued n).notices = (g.enqueued n).notices := by
  unfold Hub.enqueued
  rw [e]
  cases noticeMatched n g.notices with
  | some q => rfl
  | none => simp only []; split <;> simp

theorem Hub.enqueued_noticeLost (n : Notice) {h g : Hub} (e : h.notices = g.notices) (e' : h.noticeLost = g.noticeLost) :
    (h.enqueued n).noticeLost = (g.enqueued n).noticeLost := by
  unfold Hub.enqueued
  rw [e]
  cases noticeMatched n g.notices with
  | some q => exact e'
  | none => simp only []; split <;> simp [e']

/-- R168: a TALLY event. -/
theorem raiseTally_event (s : State) : TallyEvent s (raiseTally s) := by
  unfold TallyEvent raiseTally kindEnabled
  simp only [NoticeKind.code]
  cases h : s.hub.config.enabled.getLsbD 1 with
  | false =>
    simp only [if_true, Bool.false_eq_true, if_false]
    intro b hb; cases b <;> simp [Block.same] at hb ⊢
  | true =>
    simp only [Bool.true_eq_false, if_false, if_true]
    split
    · refine ⟨?_, ?_, ?_, ?_, ?_⟩
      · simp [buildTally]
      · simp [buildTally]
      · rw [buildTally, enqueueNotice_hub, enqueueNotice_hub]; exact Hub.enqueued_notices _ rfl
      · rw [buildTally, enqueueNotice_hub, enqueueNotice_hub]; exact Hub.enqueued_noticeLost _ rfl rfl
      · intro b hb; cases b <;> simp [Block.same, buildTally] at hb ⊢
    · refine ⟨rfl, rfl, ?_⟩
      intro b hb; cases b <;> simp [Block.same] at hb ⊢

/-- A report of the tallies, seen from the state before they changed. -/
theorem refreshed_tallies {s a : State} (hc : a.comp = s.comp) (hn : a.now = s.now)
    (hh : a.hub.config = s.hub.config) (u : State) (hu : u.comp = (reportTallies a).comp) (e : composedView a = composedView u) :
    Refreshed (decide (currentView s = .histogram)) s u := by
  have v : currentView a = currentView s := by simp only [currentView, shownStep, hc, hh]
  have c : countsTallies (currentView s) = decide (currentView s = .histogram) := by
    unfold countsTallies; cases currentView s <;> rfl
  unfold Refreshed
  rw [hu, reportTallies, reportChange_comp, v, c, hc, hn, e]
  split
  · rfl
  · split <;> rfl

@[simp] theorem recordAnswer_player (k : Fin 256) (r : Response) (t : Tallies) (s : State) :
    (recordAnswer k r t s).comp.player = s.comp.player := by unfold recordAnswer; split <;> simp

/-- R82, R84: a movement of the tallies is reported, and tallies that stay are not. -/
theorem recordAnswer_refreshed (k : Fin 256) (record : Response) (tallies : Tallies) {s : State} (u : State)
    (hu : u.comp = (recordAnswer k record tallies s).comp)
    (e : composedView (s.withResp ⟨s.resp.header, s.resp.records.set k record, tallies⟩) = composedView u) :
    Refreshed (decide (tallies ≠ s.resp.tallies ∧ currentView s = .histogram)) s u := by
  unfold recordAnswer at hu
  by_cases h : tallies = s.resp.tallies
  · rw [if_pos h] at hu
    simp only [h, ne_eq, not_true_eq_false, false_and, decide_false]
    exact hu
  · rw [if_neg h] at hu
    simp only [ne_eq, h, not_false_eq_true, true_and]
    exact refreshed_tallies (a := s.withResp ⟨s.resp.header, s.resp.records.set k record, tallies⟩) rfl rfl rfl u hu e

/-- R80, R81, R82, R84, R86: what follows an answer that sets the record and the tallies. -/
theorem answerTaken_recorded (k : Fin 256) (t : Fin 16) (x : Answer) (time : Time) (marks : Marks) (record : Response)
    (tallies : Tallies) (s : State) :
    AnswerRecorded k t x time marks record tallies s
      (answerTaken k t x time marks (recordAnswer k record tallies s)) := by
  let a := recordAnswer k record tallies s
  let b := requestLamp k .answered a
  have hr : (raiseTally b).resp.records[k].changes = record.changes := by
    simp only [raiseTally_resp, b, requestLamp_resp, a, recordAnswer_resp]
    rw [vector_set_get, if_pos rfl]
  refine ⟨b, raiseTally b, ?_, ?_, ?_, ?_, ?_, ?_, raiseTally_event b, ?_, ?_⟩
  · intro j
    simp only [b, requestLamp_resp, a, recordAnswer_resp]
    rw [vector_set_get]
  · simp [b, a]
  · simp [b, a]
  · refine recordAnswer_refreshed k record tallies b (by simp [b, a]) ?_
    apply composedView_congr <;> simp [b, a]
  · refine (requestLamp_shown k .answered a).congr ?_ ?_ rfl rfl <;> simp [a]
  · intro x hx; cases x <;> simp [Block.same, b, a] at hx ⊢
  · simp only [answerTaken, raiseAnswer]
    rw [show raiseTally (requestLamp k .answered a) = raiseTally b from rfl, hr]
    have e1 : (raiseTally b).hub.config = s.hub.config := by simp [b, a]
    have e2 : (raiseTally b).resp.header = s.resp.header := by simp [b, a]
    rw [e1, e2]
    split
    · simp [NoticesRaised, raiseAll]
    · simp
  · intro x hx
    simp only [answerTaken, raiseAnswer]
    split
    · cases x <;> simp [Block.same, b, a] at hx ⊢
    · cases x <;> simp [Block.same, b, a] at hx ⊢

theorem isEarly_iff (time : Time) (s : State) :
    isEarly time s = true ↔ ∃ o, s.resp.header.openTime = some o ∧ since time o < 0 := by
  unfold isEarly earlier
  cases s.resp.header.openTime <;> simp

theorem isLate_iff (time : Time) (s : State) :
    isLate time s = true ↔ ∃ c, s.resp.header.closeTime = some c ∧ 0 ≤ since time c := by
  unfold isLate atOrAfter
  cases s.resp.header.closeTime <;> simp

theorem isStray_iff (time : Time) (s : State) :
    isStray time s = true ↔ ∃ o, s.resp.header.openTime = some o
      ∧ since time (o - BitVec.ofNat 32 ((headerQuestion s).guard * 80)) < 0 := by
  unfold isStray earlier
  cases s.resp.header.openTime <;> simp

theorem eligibleTeam_some (team : Option (Fin 16)) (s : State) (t : Fin 16) :
    eligibleTeam team s = some t ↔
      team = some t ∧ s.teams[t].active = true ∧ (headerQuestion s).eligible.mem t = true := by
  unfold eligibleTeam
  cases team with
  | none => simp
  | some x =>
    simp only []
    by_cases h : (s.teams[x].active && (headerQuestion s).eligible.mem x) = true
    · rw [if_pos h]
      simp only [Bool.and_eq_true] at h
      constructor
      · intro e; cases e; exact ⟨rfl, h⟩
      · rintro ⟨e, -⟩; exact e
    · rw [if_neg h]
      simp only [Bool.and_eq_true] at h
      constructor
      · intro e; cases e
      · rintro ⟨e, h'⟩; cases e; exact absurd h' h

theorem eligibleTeam_none (team : Option (Fin 16)) (s : State) :
    eligibleTeam team s = none ↔
      ∀ t, ¬ (team = some t ∧ s.teams[t].active = true ∧ (headerQuestion s).eligible.mem t = true) := by
  constructor
  · intro h t ht
    rw [(eligibleTeam_some team s t).mpr ht] at h; cases h
  · intro h
    cases e : eligibleTeam team s with
    | none => rfl
    | some t => exact absurd ((eligibleTeam_some team s t).mp e) (h t)

theorem Tallies.move_eq (x : Answer) (up : Bool) (y : Tallies) : y.move x up = movedTallies x up y := by
  cases x <;> rfl

theorem setResponseState_set (k : Fin 256) (x : ResponseState) (s : State) :
    (∀ j : Fin 256, (setResponseState k x s).resp.records[j] =
        if j = k then { s.resp.records[k] with state := x } else s.resp.records[j])
      ∧ (setResponseState k x s).resp.header = s.resp.header ∧ (setResponseState k x s).resp.tallies = s.resp.tallies
      ∧ Keeps [.resp] s (setResponseState k x s) := by
  refine ⟨fun j => vector_set_get _ _ _ _, rfl, rfl, ?_⟩
  intro b hb; cases b <;> simp [Block.same, setResponseState] at hb ⊢

/-- R77 to R82: an answer of an eligible team is judged. -/
theorem judgePress_judged (k : Fin 256) (team : Option (Fin 16)) (t : Fin 16) (x : Answer) (time : Time) (marks : Marks)
    (s : State) (he : eligibleTeam team s = some t) :
    AnswerJudged k t x time marks s (judgePress k team (some x) time marks s) := by
  have hu : judgePress k team (some x) time marks s =
      if isEarly time s then setResponseState k s.resp.records[k].state.afterEarly s
      else if isLate time s then setResponseState k s.resp.records[k].state.afterLate s
      else takeAnswer k t x time marks s := by
    unfold judgePress; rw [he]
  generalize judgePress k team (some x) time marks s = u at hu
  unfold AnswerJudged
  simp only [← isEarly_iff, ← isLate_iff]
  refine ⟨fun h => ?_, fun h h' => ?_, fun h h' hr => ?_, fun h h' h1 h2 => ?_, fun old h h' h1 h2 hne => ?_⟩
  · rw [if_pos h] at hu
    have e : s.resp.records[k].state.afterEarly
        = if s.resp.records[k].state = .none then .early else s.resp.records[k].state := by
      cases s.resp.records[k].state <;> rfl
    rw [e] at hu
    rw [hu]; exact setResponseState_set k _ s
  · rw [if_neg h, if_pos h'] at hu
    have e : s.resp.records[k].state.afterLate
        = if s.resp.records[k].state = .none ∨ s.resp.records[k].state = .early then .late
          else s.resp.records[k].state := by
      cases s.resp.records[k].state <;> simp [ResponseState.afterLate]
    rw [e] at hu
    rw [hu]
    have := setResponseState_set k (if s.resp.records[k].state = .none ∨ s.resp.records[k].state = .early then .late
          else s.resp.records[k].state) s
    refine ⟨fun j => (this.1 j).trans ?_, this.2⟩
    split
    · by_cases g : s.resp.records[k].state = .none ∨ s.resp.records[k].state = .early
      · simp only [if_pos g]
      · simp only [if_neg g]
    · rfl
  · rw [if_neg h, if_neg h'] at hu
    have e : takeAnswer k t x time marks s = firstAnswer k t x time marks s := by
      unfold takeAnswer
      split
      · rename_i h1 h2; rcases hr with hr | hr
        · exact absurd h1 hr
        · rw [h2] at hr; cases hr
      · rfl
    rw [hu, e]
    have := answerTaken_recorded k t x time marks ⟨.answered, some x, some time, 0, s.resp.records[k].points⟩
      ⟨(movedTallies x true s.resp.tallies).counts, s.resp.tallies.answered + 1⟩ s
    cases x <;> exact this
  · rw [if_neg h, if_neg h'] at hu
    rw [hu]
    simp only [takeAnswer, h1, h2, if_true]
  · rw [if_neg h, if_neg h'] at hu
    simp only [takeAnswer, h1, h2, if_neg hne] at hu
    rw [hu]
    split
    · simp only [acceptedChange, Tallies.move_eq]
      exact answerTaken_recorded k t x time marks _ _ s
    · refine ⟨requestLamp_shown k .locked s, ?_⟩
      intro b hb; cases b <;> simp [Block.same] at hb ⊢

/-! ## Buzzes -/

/-- R94: the place of an entry among ordered entries. -/
theorem insertBuzz_split (e : BuzzEntry) (l : List BuzzEntry) :
    ∃ front back, l = front ++ back ∧ insertBuzz e l = front ++ e :: back
      ∧ (∀ x ∈ front, buzzBefore e x = false) ∧ ∀ x, back.head? = some x → buzzBefore e x = true := by
  induction l with
  | nil => exact ⟨[], [], rfl, rfl, by simp, by simp⟩
  | cons a l ih =>
    unfold insertBuzz
    by_cases h : buzzBefore e a = true
    · rw [if_pos h]
      refine ⟨[], a :: l, rfl, rfl, by simp, ?_⟩
      intro x hx; cases hx; exact h
    · rw [if_neg h]
      obtain ⟨f, b, h1, h2, h3, h4⟩ := ih
      refine ⟨a :: f, b, by rw [h1]; rfl, by rw [h2]; rfl, ?_, h4⟩
      intro x hx
      rcases List.mem_cons.mp hx with rfl | hx
      · simpa using h
      · exact h3 x hx

/-- R94, R95: the queue with a new entry. -/
theorem queueWith_split (e : BuzzEntry) (b : Buzz) (hb : b.held = true → b.queue ≠ []) :
    ∃ front back, front ++ back = markTies e.time b.queue ∧ queueWith e b = front ++ e :: back
      ∧ (b.held = true → front ≠ [])
      ∧ (∀ x ∈ (if b.held then front.drop 1 else front), buzzBefore e x = false)
      ∧ ∀ x, back.head? = some x → buzzBefore e x = true := by
  unfold queueWith
  cases hh : b.held with
  | false =>
    obtain ⟨f, r, h1, h2, h3, h4⟩ := insertBuzz_split e (markTies e.time b.queue)
    exact ⟨f, r, h1.symm, h2, by simp, by simpa using h3, h4⟩
  | true =>
    cases hq : markTies e.time b.queue with
    | nil =>
      have : b.queue = [] := by simpa [markTies] using hq
      exact absurd this (hb hh)
    | cons a l =>
      obtain ⟨f, r, h1, h2, h3, h4⟩ := insertBuzz_split e l
      exact ⟨a :: f, r, by rw [h1]; rfl, by simp only [h2]; rfl, by simp, by simpa using h3, h4⟩

/-- The new entry (R94, R95). -/
theorem newEntry_eq (k : Fin 256) (t : Fin 16) (time : Time) (marks : Marks) (b : Buzz) :
    newEntry k t time marks b =
      ⟨k, t, time, marks, b.held && (b.queue.head?).any (buzzBefore (newEntry k t time marks b)),
        b.queue.any fun x => x.time == time⟩ := by
  have e : ∀ x, buzzBefore (newEntry k t time marks b) x =
      buzzBefore ⟨k, t, time, marks, false, b.queue.any fun x => x.time == time⟩ x := by
    intro x; unfold newEntry; simp only []; split <;> rfl
  have e' : (b.queue.head?).any (buzzBefore (newEntry k t time marks b)) =
      (b.queue.head?).any (buzzBefore ⟨k, t, time, marks, false, b.queue.any fun x => x.time == time⟩) := by
    congr 1; funext x; exact e x
  rw [e']
  unfold newEntry
  cases b.held <;> cases b.queue <;> simp

/-- R94 to R96: a buzz is inserted. -/
theorem insertEntry_inserted (k : Fin 256) (t : Fin 16) (time : Time) (marks : Marks) (s : State)
    (hb : s.buzz.held = true → s.buzz.queue ≠ []) (ht : ∀ x ∈ s.buzz.queue, x.team ≠ t) :
    BuzzInserted k t time marks s (insertEntry k t time marks s) := by
  obtain ⟨front, back, h1, h2, h3, h4, h5⟩ := queueWith_split (newEntry k t time marks s.buzz) s.buzz hb
  have et : (newEntry k t time marks s.buzz).time = time := by rw [newEntry_eq]
  have em : (newEntry k t time marks s.buzz).team = t := by rw [newEntry_eq]
  rw [et] at h1
  have hf : ∀ x ∈ front, (x.team == t) = false := by
    intro x hx
    have : x ∈ markTies time s.buzz.queue := by rw [← h1]; exact List.mem_append_left _ hx
    obtain ⟨y, hy, rfl⟩ := List.mem_map.mp this
    have := ht y hy
    split <;> simpa using this
  have place : ((queueWith (newEntry k t time marks s.buzz) s.buzz).findIdx fun x => x.team == t) = front.length := by
    rw [h2, List.findIdx_append]
    have : ¬ (front.findIdx fun x => x.team == t) < front.length := by
      rw [List.findIdx_lt_length]; rintro ⟨x, hx, hx'⟩; rw [hf x hx] at hx'; cases hx'
    rw [if_neg this, List.findIdx_cons, em]
    simp
  let a := s.withBuzz { s.buzz with queue := queueWith (newEntry k t time marks s.buzz) s.buzz }
  let b := raiseNotice (.buzzQueued s.resp.header.question (newEntry k t time marks s.buzz) (front.length + 1))
    (requestLamp k .queued (reportBuzz a))
  have eq : insertEntry k t time marks s =
      if front.length + 1 = 1 ∧ s.buzz.held = false then grantTest b else b := by
    simp only [insertEntry, place, reportBuzz_resp, withBuzz_resp]
    rfl
  refine ⟨newEntry k t time marks s.buzz, front, back, b, newEntry_eq _ _ _ _ _, h1, h3, h4, h5, ?_, ?_, ?_, ?_, ?_, ?_⟩
  · simp [b, a, h2]
  · refine refreshed_buzz (a := a) ?_ ?_ ?_ ?_ ?_ ?_ ?_ ?_ ?_ ?_ ?_ <;> simp [b, a]
  · refine (requestLamp_shown k .queued (reportBuzz a)).congr ?_ ?_ ?_ ?_ <;> simp [b, a]
  · simp [NoticesRaised, raiseAll, b, a]
  · intro x hx; cases x <;> simp [Block.same, b, a] at hx ⊢
  · rw [eq]
    by_cases he : front = []
    · have hh : s.buzz.held = false := by
        cases h : s.buzz.held with
        | false => rfl
        | true => exact absurd he (h3 h)
      rw [if_pos he, if_pos ⟨by simp [he], hh⟩]
      exact grantTest_tested b
    · rw [if_neg he, if_neg]
      rintro ⟨h, -⟩
      exact he (List.length_eq_zero_iff.mp (by omega))

/-- R92: a false start. -/
theorem falseStart_raised (k : Fin 256) (t : Fin 16) (time : Time) (marks : Marks) (s : State) :
    let u := falseStart k t time marks s
    (∀ j : Fin 256, u.resp.records[j] = if j = k then ⟨.locked, none, none, 0, s.resp.records[k].points⟩
      else s.resp.records[j])
    ∧ u.resp.header = s.resp.header ∧ u.resp.tallies = s.resp.tallies ∧ LampShown k .locked s u
    ∧ NoticesRaised [.falseStart s.resp.header.question k t time marks] s u
    ∧ Keeps [.resp, .seats, .ports, .notices, .noticeLost] s u := by
  refine ⟨?_, ?_, ?_, ?_, ?_, ?_⟩
  · intro j
    simp only [falseStart, raiseNotice_resp, requestLamp_resp, withResp_resp]
    rw [vector_set_get]
  · simp [falseStart]
  · simp [falseStart]
  · refine (requestLamp_shown k .locked (s.withResp { s.resp with
      records := s.resp.records.set k ⟨.locked, none, none, 0, s.resp.records[k].points⟩ })).congr rfl rfl ?_ ?_ <;>
      simp [falseStart]
  · simp [falseStart, NoticesRaised, raiseAll]
  · intro b hb; cases b <;> simp [Block.same] at hb ⊢

/-- R91 to R96: a BUZZ key of an eligible team is judged. -/
theorem takeBuzz_judged (k : Fin 256) (team : Option (Fin 16)) (t : Fin 16) (time : Time) (marks : Marks) (s : State)
    (he : eligibleTeam team s = some t) (hb : s.buzz.held = true → s.buzz.queue ≠ []) :
    BuzzJudged k t time marks s (takeBuzz k team time marks s) := by
  have lamp : ∀ x : Lamp, LampShown k x s (requestLamp k x s) ∧ Keeps [.seats, .ports] s (requestLamp k x s) := by
    intro x
    refine ⟨requestLamp_shown k x s, ?_⟩
    intro b hb; cases b <;> simp [Block.same] at hb ⊢
  have hu : takeBuzz k team time marks s =
      if s.buzz.locked.mem t then
        if s.buzz.judged.any (fun j => j.seat == k) then s else requestLamp k .locked s
      else
        match s.buzz.queue.find? (fun e => e.team == t) with
        | some e => if e.seat = k then s else requestLamp k .queued s
        | none =>
          if s.resp.records[k].state = .locked then requestLamp k .locked s
          else if isStray time s then s
          else if isEarly time s then falseStart k t time marks s
          else if isLate time s then s
          else insertEntry k t time marks s := by
    unfold takeBuzz; rw [he] <;> rfl
  generalize takeBuzz k team time marks s = u at hu
  unfold BuzzJudged
  simp only [← isEarly_iff, ← isLate_iff, ← isStray_iff]
  by_cases hl : s.buzz.locked.mem t = true
  · rw [if_pos hl] at hu ⊢
    have e : (s.buzz.judged.any fun j => j.seat == k) = true ↔ ∃ j ∈ s.buzz.judged, j.seat = k := by simp
    simp only [e] at hu
    split
    · rename_i h; rw [if_pos h] at hu; exact hu
    · rename_i h; rw [if_neg h] at hu; rw [hu]; exact lamp .locked
  · rw [if_neg hl] at hu ⊢
    cases hq : s.buzz.queue.find? (fun e => e.team == t) with
    | some e =>
      simp only [hq] at hu ⊢
      split
      · rename_i h; rw [if_pos h] at hu; exact hu
      · rename_i h; rw [if_neg h] at hu; rw [hu]; exact lamp .queued
    | none =>
      simp only [hq] at hu ⊢
      refine ⟨fun h => ?_, fun h h0 => ?_, fun h h0 h1 => ?_, fun h h0 h1 h2 => ?_, fun h h0 h1 h2 => ?_⟩
      · rw [if_pos h] at hu; rw [hu]; exact lamp .locked
      · rw [if_neg h, if_pos h0] at hu; exact hu
      · rw [if_neg h, if_neg h0, if_pos h1] at hu; rw [hu]; exact falseStart_raised k t time marks s
      · rw [if_neg h, if_neg h0, if_neg h1, if_pos h2] at hu; exact hu
      · rw [if_neg h, if_neg h0, if_neg h1, if_neg h2] at hu; rw [hu]
        refine insertEntry_inserted k t time marks s hb ?_
        intro x hx
        have := List.find?_eq_none.mp hq x hx
        simpa using this

end Sys2Proof.Machine
end

