-- ==== Sys2Proof/Laws/Resets.lean ====
section
/-! SUPPORT. What a warm restart does to the ports and seats (R60, R26), and what the restart of the ports leaves unchanged. -/

namespace Sys2Proof.Machine

variable (s : State)

/-! ## Frames -/

@[simp] theorem restartPort_now (p : Fin 4) : (restartPort p s).now = s.now := by
  unfold restartPort; simp only []; split <;> simp
@[simp] theorem restartPort_teams (p : Fin 4) : (restartPort p s).teams = s.teams := by
  unfold restartPort; simp only []; split <;> simp
@[simp] theorem restartPort_questions (p : Fin 4) : (restartPort p s).questions = s.questions := by
  unfold restartPort; simp only []; split <;> simp
@[simp] theorem restartPort_cues (p : Fin 4) : (restartPort p s).cues = s.cues := by
  unfold restartPort; simp only []; split <;> simp
@[simp] theorem restartPort_round (p : Fin 4) : (restartPort p s).round = s.round := by
  unfold restartPort; simp only []; split <;> simp
@[simp] theorem restartPort_resp (p : Fin 4) : (restartPort p s).resp = s.resp := by
  unfold restartPort; simp only []; split <;> simp
@[simp] theorem restartPort_buzz (p : Fin 4) : (restartPort p s).buzz = s.buzz := by
  unfold restartPort; simp only []; split <;> simp
@[simp] theorem restartPort_score (p : Fin 4) : (restartPort p s).score = s.score := by
  unfold restartPort; simp only []; split <;> simp
@[simp] theorem restartPort_sorter (p : Fin 4) : (restartPort p s).sorter = s.sorter := by
  unfold restartPort; simp only []; split <;> simp
@[simp] theorem restartPort_comp (p : Fin 4) : (restartPort p s).comp = s.comp := by
  unfold restartPort; simp only []; split <;> simp
@[simp] theorem restartPort_link (p : Fin 4) : (restartPort p s).link = s.link := by
  unfold restartPort; simp only []; split <;> simp
@[simp] theorem restartPort_loader (p : Fin 4) : (restartPort p s).loader = s.loader := by
  unfold restartPort; simp only []; split <;> simp
@[simp] theorem restartPort_free (p : Fin 4) : (restartPort p s).free = s.free := by
  unfold restartPort; simp only []; split <;> simp
@[simp] theorem restartPort_pending (p : Fin 4) : (restartPort p s).pending = s.pending := by
  unfold restartPort; simp only []; split <;> simp
@[simp] theorem restartPort_hub_agent (p : Fin 4) : (restartPort p s).hub.agent = s.hub.agent := by
  unfold restartPort; simp only []; split <;> simp
@[simp] theorem restartPort_hub_requests (p : Fin 4) : (restartPort p s).hub.requests = s.hub.requests := by
  unfold restartPort; simp only []; split <;> simp
@[simp] theorem restartPort_hub_tallyEvents (p : Fin 4) : (restartPort p s).hub.tallyEvents = s.hub.tallyEvents := by
  unfold restartPort; simp only []; split <;> simp
@[simp] theorem restartPort_hub_tallyTimer (p : Fin 4) : (restartPort p s).hub.tallyTimer = s.hub.tallyTimer := by
  unfold restartPort; simp only []; split <;> simp
@[simp] theorem restartPort_hub_config (p : Fin 4) : (restartPort p s).hub.config = s.hub.config := by
  unfold restartPort; simp only []; split <;> simp

@[simp] theorem restartPorts_now : (restartPorts s).now = s.now := by
  unfold restartPorts; exact foldl_keeps _ State.now (by intros; simp) _ _
@[simp] theorem restartPorts_teams : (restartPorts s).teams = s.teams := by
  unfold restartPorts; exact foldl_keeps _ State.teams (by intros; simp) _ _
@[simp] theorem restartPorts_questions : (restartPorts s).questions = s.questions := by
  unfold restartPorts; exact foldl_keeps _ State.questions (by intros; simp) _ _
@[simp] theorem restartPorts_cues : (restartPorts s).cues = s.cues := by
  unfold restartPorts; exact foldl_keeps _ State.cues (by intros; simp) _ _
@[simp] theorem restartPorts_round : (restartPorts s).round = s.round := by
  unfold restartPorts; exact foldl_keeps _ State.round (by intros; simp) _ _
@[simp] theorem restartPorts_resp : (restartPorts s).resp = s.resp := by
  unfold restartPorts; exact foldl_keeps _ State.resp (by intros; simp) _ _
@[simp] theorem restartPorts_buzz : (restartPorts s).buzz = s.buzz := by
  unfold restartPorts; exact foldl_keeps _ State.buzz (by intros; simp) _ _
@[simp] theorem restartPorts_score : (restartPorts s).score = s.score := by
  unfold restartPorts; exact foldl_keeps _ State.score (by intros; simp) _ _
@[simp] theorem restartPorts_sorter : (restartPorts s).sorter = s.sorter := by
  unfold restartPorts; exact foldl_keeps _ State.sorter (by intros; simp) _ _
@[simp] theorem restartPorts_comp : (restartPorts s).comp = s.comp := by
  unfold restartPorts; exact foldl_keeps _ State.comp (by intros; simp) _ _
@[simp] theorem restartPorts_link : (restartPorts s).link = s.link := by
  unfold restartPorts; exact foldl_keeps _ State.link (by intros; simp) _ _
@[simp] theorem restartPorts_loader : (restartPorts s).loader = s.loader := by
  unfold restartPorts; exact foldl_keeps _ State.loader (by intros; simp) _ _
@[simp] theorem restartPorts_free : (restartPorts s).free = s.free := by
  unfold restartPorts; exact foldl_keeps _ State.free (by intros; simp) _ _
@[simp] theorem restartPorts_pending : (restartPorts s).pending = s.pending := by
  unfold restartPorts; exact foldl_keeps _ State.pending (by intros; simp) _ _
@[simp] theorem restartPorts_hub_agent : (restartPorts s).hub.agent = s.hub.agent := by
  unfold restartPorts; exact foldl_keeps _ (fun s : State => s.hub.agent) (by intros; simp) _ _
@[simp] theorem restartPorts_hub_requests : (restartPorts s).hub.requests = s.hub.requests := by
  unfold restartPorts; exact foldl_keeps _ (fun s : State => s.hub.requests) (by intros; simp) _ _
@[simp] theorem restartPorts_hub_tallyEvents : (restartPorts s).hub.tallyEvents = s.hub.tallyEvents := by
  unfold restartPorts; exact foldl_keeps _ (fun s : State => s.hub.tallyEvents) (by intros; simp) _ _
@[simp] theorem restartPorts_hub_tallyTimer : (restartPorts s).hub.tallyTimer = s.hub.tallyTimer := by
  unfold restartPorts; exact foldl_keeps _ (fun s : State => s.hub.tallyTimer) (by intros; simp) _ _
@[simp] theorem restartPorts_hub_config : (restartPorts s).hub.config = s.hub.config := by
  unfold restartPorts; exact foldl_keeps _ (fun s : State => s.hub.config) (by intros; simp) _ _

/-! ## Values -/

theorem stopPort_port (loud : Bool) (p o : Fin 4) (s : State) :
    (stopPort loud p s).ports[o] = if o = p then s.ports[p].stopped else s.ports[o] := by
  simp only [stopPort, absentPort_ports, clearHistory, withStamper_ports, setPort_get, emptyFeedback_port, if_true]
  split <;> rfl

theorem startPort_port (p o : Fin 4) (s : State) :
    (startPort p s).1.ports[o] =
      if o = p ∧ s.ports[p].state = .stopped then
        { s.ports[p] with state := .waking, wakeTimer := some (after s.now 160) }
      else s.ports[o] := by
  unfold startPort
  by_cases h : s.ports[p].state = .stopped
  · by_cases e : o = p <;> simp only [h, e, if_true, if_false, and_true, wakePort, setPort_get]
  · simp only [h, if_false, and_false]

theorem restartPort_port (p o : Fin 4) (s : State) :
    (restartPort p s).ports[o] =
      if o = p then
        { Port.reset with
          state := if s.ports[p].state = .stopped then .stopped else .waking
          wakeTimer := if s.ports[p].state = .stopped then none else some (after s.now 160)
          cfg := s.ports[p].cfg
          checkPointer := s.ports[p].checkPointer }
      else s.ports[o] := by
  by_cases e : o = p
  · subst e
    by_cases h : s.ports[o].state = .stopped
    · simp only [restartPort, h, ne_eq, not_true_eq_false, if_false, setPort_get, if_true, stopPort_port]
      rfl
    · simp only [restartPort, h, ne_eq, not_false_eq_true, if_false, setPort_get, if_true, stopPort_port, startPort_port,
        stopPort_now]
      rfl
  · simp only [restartPort, setPort_get, if_neg e]
    split
    · rw [startPort_port, if_neg (fun h => e h.1), stopPort_port, if_neg e]
    · rw [stopPort_port, if_neg e]

/-- R60: every port after a warm restart. -/
theorem restartPorts_port (s : State) (p : Fin 4) :
    (restartPorts s).ports[p] =
      { Port.reset with
        state := if s.ports[p].state = .stopped then .stopped else .waking
        wakeTimer := if s.ports[p].state = .stopped then none else some (after s.now 160)
        cfg := s.ports[p].cfg
        checkPointer := s.ports[p].checkPointer } := by
  have h := foldl_at_most_once (fun (s : State) (p : Fin 4) => restartPort p s) (fun s => (s.ports[p], s.now)) p
    (fun b a ha => by rw [restartPort_port, if_neg (Ne.symm ha), restartPort_now]) (List.finRange 4) (List.nodup_finRange 4)
    s
    (fun x y => y.1 =
      { Port.reset with
        state := if x.1.state = .stopped then .stopped else .waking
        wakeTimer := if x.1.state = .stopped then none else some (after x.2 160)
        cfg := x.1.cfg
        checkPointer := x.1.checkPointer })
    (fun b' hb' => by
      obtain ⟨h1, h2⟩ := Prod.mk.inj hb'
      simp only [restartPort_port, if_true, h1, h2])
  exact h.1 (List.mem_finRange p)

theorem restartPort_seat (p : Fin 4) (s : State) (k : Fin 256) :
    (restartPort p s).seats[k].restarted = s.seats[k].restarted := by
  have h : (stopPort false p s).seats[k].restarted = s.seats[k].restarted := by
    simp only [stopPort, absentPort_seat, clearHistory, withStamper_seats, setPort_seats, emptyFeedback_seat]
    split <;> rfl
  unfold restartPort
  simp only [setPort_seats]
  split
  · simp only [startPort_seats]; exact h
  · exact h

/-- R26: what a warm restart keeps of a seat is kept by the restart of the ports. -/
theorem restartPorts_seat (s : State) (k : Fin 256) : (restartPorts s).seats[k].restarted = s.seats[k].restarted := by
  have h : ∀ (l : List (Fin 4)) (s : State),
      (l.foldl (fun s p => restartPort p s) s).seats[k].restarted = s.seats[k].restarted := by
    intro l
    induction l with
    | nil => intro s; simp only [List.foldl_nil]
    | cons p l ih => intro s; rw [List.foldl_cons, ih, restartPort_seat]
  exact h _ s

end Sys2Proof.Machine
end

