-- ==== Sys2Proof/Laws/Scores.lean ====
section
/-! SUPPORT. What the operations of Machine/ScoreOps.lean and the ranking of Machine/Ops.lean come to: the points and sums of a
walked seat (R109 to R112), the application step (R112 to R117), and the order and ranks of a working list (R123). -/

namespace Sys2Proof.Machine

/-! ## The walk -/

/-- R109: the teams whose running sums a visited seat enters. -/
theorem summedTeam_some (s : State) (k : Fin 256) (t : Fin 16) :
    summedTeam s k = some t ↔
      (s.resp.header.kind = some .choice ∨ s.resp.header.kind = some .estimate ∨ s.resp.header.kind = some .poll) ∧ s.resp.records[k].state = .answered
        ∧ s.seats[k].team = some t ∧ s.teams[t].active = true ∧ (headerQuestion s).eligible.mem t = true := by
  unfold summedTeam
  have hk : sumsKind s.resp.header.kind = true ↔
      (s.resp.header.kind = some .choice ∨ s.resp.header.kind = some .estimate ∨ s.resp.header.kind = some .poll) := by
    rcases s.resp.header.kind with _ | _ | _ | _ | _ | _ <;> simp [sumsKind]
  by_cases h : (s.resp.header.kind = some .choice ∨ s.resp.header.kind = some .estimate ∨ s.resp.header.kind = some .poll)
      ∧ s.resp.records[k].state = .answered
  · rw [if_pos (by simp only [Bool.and_eq_true, hk, beq_iff_eq]; exact h), eligibleTeam_some]
    constructor
    · exact fun g => ⟨h.1, h.2, g⟩
    · exact fun g => g.2.2
  · rw [if_neg (by simp only [Bool.and_eq_true, hk, beq_iff_eq]; exact h)]
    constructor
    · intro g; cases g
    · rintro ⟨a, b, _⟩; exact absurd ⟨a, b⟩ h

/-- R109: the running sums after a visit that enters a team's. -/
theorem visitSeat_summed {s : State} {k : Fin 256} {t : Fin 16} (h : summedTeam s k = some t) :
    (visitSeat k s).score =
      { s.score with walk := { s.score.walk.add t (seatPoints s k) with position := s.score.walk.position + 1 } } := by
  simp only [visitSeat, h, withScore_score]

/-- R109: the running sums after a visit that enters none. -/
theorem visitSeat_unsummed {s : State} {k : Fin 256} (h : summedTeam s k = none) :
    (visitSeat k s).score = { s.score with walk := { s.score.walk with position := s.score.walk.position + 1 } } := by
  simp only [visitSeat, h, withScore_score]

/-- R109: the record of a visited seat. -/
theorem visitSeat_resp (k : Fin 256) (s : State) :
    (visitSeat k s).resp =
      { s.resp with records := s.resp.records.set k { s.resp.records[k] with points := some (seatPoints s k) } } := by
  simp [visitSeat]

/-! ## The application step -/

/-- R115 steps 1 and 2, R109: the Score Unit after an application step. -/
theorem applicationStep_score (s : State) :
    (applicationStep s).score.table = Vector.ofFn (committedScore s)
      ∧ (applicationStep s).score.commit =
        ⟨true, s.resp.header.question, Vector.ofFn (appliedPoints s), Vector.ofFn (appliedCorrect s)⟩
      ∧ (applicationStep s).score.walk = { s.score.walk with walking := false } := by
  simp [applicationStep, applyCommit]

/-- R116: the result lamps are asked for as the records and the question stand when the first of them is. -/
theorem resultLamps_eq (q : Question) (s : State) (lamp : Fin 256 → Lamp)
    (hl : ∀ k : Fin 256, (if rightOption q s.resp.records[k].answer then Lamp.right else .wrong) = lamp k)
    (seats : List (Fin 256)) : ∀ t : State, t.resp.records = s.resp.records → headerQuestion t = q →
      seats.foldl (fun s k =>
        if s.resp.records[k].state = .answered then
          requestLamp k (if rightOption (headerQuestion s) s.resp.records[k].answer then .right else .wrong) s
        else s) t
      = seats.foldl (fun t k =>
          if decide (s.resp.records[k].state = .answered) then requestLamp k (lamp k) t else t) t := by
  induction seats with
  | nil => intro _ _ _; simp only [List.foldl_nil]
  | cons k l ih =>
    intro t ht hq
    simp only [List.foldl_cons]
    rw [ht, hq, hl k]
    by_cases h : s.resp.records[k].state = .answered
    · rw [if_pos h, if_pos (decide_eq_true h)]
      exact ih _ (by simp [ht]) (by rw [← hq]; simp [headerQuestion])
    · rw [if_neg h, if_neg (by simpa using h)]
      exact ih t ht hq

/-- R116: the result lamps, in ascending seat number; `lamp` gives the one of each ANSWERED seat. -/
theorem resultLamps_shown (s : State) (lamp : Fin 256 → Lamp)
    (hl : ∀ k : Fin 256, (if rightOption (headerQuestion s) s.resp.records[k].answer then Lamp.right else .wrong) = lamp k) :
    LampsShown
      (if (headerQuestion s).resultLamps = true ∧ s.resp.header.kind = some .choice then
        ((List.finRange 256).filter fun k => decide (s.resp.records[k].state = .answered)).map fun k => (k, lamp k)
      else []) s (resultLamps s) := by
  unfold resultLamps
  generalize List.finRange 256 = seats
  by_cases h : (headerQuestion s).resultLamps = true ∧ s.resp.header.kind = some .choice
  · rw [if_pos h, if_pos h, resultLamps_eq _ s lamp hl seats s rfl rfl]
    exact requestLamps_shown lamp (fun k => decide (s.resp.records[k].state = .answered)) seats s
  · rw [if_neg h, if_neg h]; exact ⟨rfl, rfl⟩

theorem clampTotal_eq (x : Int) : clampTotal x = max (-9999) (min 99999 x) := by
  unfold clampTotal clampInt; omega

/-! ## Ranked lists -/

/-- R123: a stands before b in the order of the standings, with no tie of any other kind between teams. -/
def Ahead (a b : Standing) : Prop :=
  b.total < a.total ∨ (a.total = b.total ∧ (b.correct < a.correct ∨ (a.correct = b.correct ∧ a.team < b.team)))

theorem standingBefore_iff (a b : Standing) : standingBefore a b = true ↔ Ahead a b := by
  simp only [standingBefore, Ahead, Bool.or_eq_true, Bool.and_eq_true, decide_eq_true_eq, beq_iff_eq]

theorem Ahead.trans {a b c : Standing} (h : Ahead a b) (g : Ahead b c) : Ahead a c := by
  unfold Ahead at *; omega

theorem Ahead.of_not {a b : Standing} (h : ¬ Ahead a b) (n : a.team ≠ b.team) : Ahead b a := by
  have : a.team.val ≠ b.team.val := fun e => n (Fin.ext e)
  unfold Ahead at *; omega

theorem insertStanding_perm (e : Standing) : ∀ l : List Standing, (insertStanding e l).Perm (e :: l)
  | [] => List.Perm.refl _
  | x :: xs => by
    unfold insertStanding
    split
    · exact List.Perm.refl _
    · exact ((insertStanding_perm e xs).cons x).trans (List.Perm.swap e x xs)

theorem insertStanding_ordered (e : Standing) :
    ∀ l : List Standing, l.Pairwise Ahead → (∀ x ∈ l, e.team ≠ x.team) → (insertStanding e l).Pairwise Ahead
  | [], _, _ => by simp [insertStanding]
  | x :: xs, h, n => by
    have hx := List.pairwise_cons.mp h
    unfold insertStanding
    split
    · rename_i hb
      have hb := (standingBefore_iff e x).mp hb
      refine List.pairwise_cons.mpr ⟨fun y hy => ?_, h⟩
      rcases List.mem_cons.mp hy with rfl | hy
      · exact hb
      · exact hb.trans (hx.1 y hy)
    · rename_i hb
      have hb : Ahead x e := Ahead.of_not (fun g => hb ((standingBefore_iff e x).mpr g)) (n x (by simp))
      refine List.pairwise_cons.mpr ⟨fun y hy => ?_,
        insertStanding_ordered e xs hx.2 fun y hy => n y (List.mem_cons_of_mem _ hy)⟩
      rcases List.mem_cons.mp ((insertStanding_perm e xs).mem_iff.mp hy) with rfl | hy
      · exact hb
      · exact hx.1 y hy

theorem sorted_perm : ∀ l : List Standing, (l.foldr insertStanding []).Perm l
  | [] => List.Perm.refl _
  | x :: xs => (insertStanding_perm x _).trans ((sorted_perm xs).cons x)

theorem sorted_ordered :
    ∀ l : List Standing, l.Pairwise (fun a b => a.team ≠ b.team) → (l.foldr insertStanding []).Pairwise Ahead
  | [], _ => List.Pairwise.nil
  | x :: xs, h => by
    have hx := List.pairwise_cons.mp h
    exact insertStanding_ordered x _ (sorted_ordered xs hx.2) fun y hy => hx.1 y ((sorted_perm xs).mem_iff.mp hy)

theorem activeStandings_distinct (s : State) : (activeStandings s).Pairwise fun a b => a.team ≠ b.team := by
  unfold activeStandings
  rw [List.pairwise_map]
  exact List.Pairwise.filter _ (List.nodup_finRange 16)

theorem mem_activeStandings (s : State) (e : Standing) :
    e ∈ activeStandings s ↔ s.teams[e.team].active = true
      ∧ e = ⟨e.team, s.score.table[e.team].total, s.score.table[e.team].correct, s.score.table[e.team].last, 0⟩ := by
  unfold activeStandings
  simp only [List.mem_map, List.mem_filter, List.mem_finRange, true_and]
  constructor
  · rintro ⟨t, h, rfl⟩; exact ⟨h, rfl⟩
  · rintro ⟨h, g⟩; exact ⟨e.team, h, g.symm⟩

/-- R123: display ranks leave the order and the teams as they are. -/
theorem rankStandings_ranks (l : List Standing) : RanksRight (rankStandings l) := by
  intro e he
  obtain ⟨x, -, rfl⟩ := List.mem_map.mp he
  simp only [rankStandings, List.filter_map, List.length_map]
  rfl

/-- R123: the working list of a pass. -/
theorem rankedStandings_ranked (s : State) :
    ListsActive (rankedStandings s) s ∧ RanksRight (rankedStandings s)
      ∧ (∀ e ∈ rankedStandings s, e.total = s.score.table[e.team].total ∧ e.correct = s.score.table[e.team].correct
          ∧ e.last = s.score.table[e.team].last)
      ∧ (rankedStandings s).Pairwise Ahead := by
  have hm : ∀ x, x ∈ (activeStandings s).foldr insertStanding [] ↔ x ∈ activeStandings s :=
    fun x => (sorted_perm _).mem_iff
  have ho := sorted_ordered _ (activeStandings_distinct s)
  have hr : (rankedStandings s).Pairwise Ahead := by
    unfold rankedStandings rankStandings
    rw [List.pairwise_map]
    exact ho
  refine ⟨⟨?_, ?_⟩, rankStandings_ranks _, ?_, hr⟩
  · have hd : ((activeStandings s).foldr insertStanding []).Pairwise fun a b => a.team ≠ b.team :=
      ((sorted_perm _).pairwise_iff fun h => Ne.symm h).mpr (activeStandings_distinct s)
    unfold rankedStandings rankStandings
    rw [List.pairwise_map]
    exact hd
  · intro t
    unfold rankedStandings rankStandings
    constructor
    · intro h
      exact ⟨_, List.mem_map_of_mem ((hm ⟨t, s.score.table[t].total, s.score.table[t].correct, s.score.table[t].last, 0⟩).mpr
        ((mem_activeStandings s _).mpr ⟨h, rfl⟩)), rfl⟩
    · rintro ⟨e, he, rfl⟩
      obtain ⟨x, hx, rfl⟩ := List.mem_map.mp he
      exact ((mem_activeStandings s x).mp ((hm x).mp hx)).1
  · intro e he
    obtain ⟨x, hx, rfl⟩ := List.mem_map.mp he
    have g := ((mem_activeStandings s x).mp ((hm x).mp hx)).2
    have g1 := congrArg Standing.total g
    have g2 := congrArg Standing.correct g
    have g3 := congrArg Standing.last g
    exact ⟨g1, g2, g3⟩

end Sys2Proof.Machine
end

