-- ==== Sys2Proof/Laws/Tables.lean ====
section
/-! SUPPORT. What a run of written records comes to (R161): the record outcomes in order, the counts of the REPLY, and the
lowest refused record; and the execution of a WRITE, of one record and of several. -/

namespace Sys2Proof.Machine

/-! ## The records of a WRITE -/

theorem recordsOf_flatten (len : Nat) :
    ∀ records : List (List Byte), (∀ r ∈ records, r.length = len) → recordsOf len records.length records.flatten = records
  | [], _ => rfl
  | r :: rs, h => by
    have hr : r.length = len := h r (by simp)
    have ih := recordsOf_flatten len rs fun x hx => h x (by simp [hx])
    simp only [List.length_cons, recordsOf, List.flatten_cons]
    rw [← hr, List.take_left, List.drop_left, hr, ih]

theorem recordsOf_length (len : Nat) : ∀ (n : Nat) (bytes : List Byte), (recordsOf len n bytes).length = n
  | 0, _ => rfl
  | n + 1, bytes => by simp [recordsOf, recordsOf_length len n]

theorem flatten_length_of {len : Nat} :
    ∀ records : List (List Byte), (∀ r ∈ records, r.length = len) → records.flatten.length = records.length * len
  | [], _ => by simp
  | r :: rs, h => by
    simp only [List.flatten_cons, List.length_append, List.length_cons, h r (by simp),
      flatten_length_of rs fun x hx => h x (by simp [hx]), Nat.add_mul]
    omega

/-- The records of a section, byte by byte (12.8). -/
theorem recordsOf_range (size : Nat) : ∀ (n : Nat) (f : Nat → Byte),
    recordsOf size n ((List.range (n * size)).map f) =
      (List.range n).map fun i => (List.range size).map fun j => f (i * size + j)
  | 0, f => rfl
  | n + 1, f => by
    rw [show (n + 1) * size = size + n * size by rw [Nat.succ_mul, Nat.add_comm], List.range_add, List.map_append, recordsOf,
      List.take_left' (by simp), List.drop_left' (by simp), List.map_map, recordsOf_range size n (f ∘ fun x => size + x),
      List.range_succ_eq_map, List.map_cons, List.map_map]
    congr 1
    · simp
    · refine List.map_congr_left fun i _ => List.map_congr_left fun j _ => ?_
      simp only [Function.comp_apply, Nat.succ_mul]
      congr 1
      omega

/-! ## Runs of writes -/

theorem recordOutcomes_length (t : Table) :
    ∀ (rs : List (List Byte)) (i : Nat) (s : State), (recordOutcomes t i rs s).1.length = rs.length
  | [], _, _ => rfl
  | r :: rs, i, s => by simp [recordOutcomes, recordOutcomes_length t rs]

/-- What no record of a run changes. -/
theorem recordOutcomes_keeps (t : Table) :
    ∀ (rs : List (List Byte)) (i : Nat) (s : State),
      (recordOutcomes t i rs s).2.link = s.link ∧ (recordOutcomes t i rs s).2.hub.agent = s.hub.agent
        ∧ (recordOutcomes t i rs s).2.hub.requests = s.hub.requests ∧ (recordOutcomes t i rs s).2.now = s.now
        ∧ (recordOutcomes t i rs s).2.loader = s.loader
  | [], _, _ => ⟨rfl, rfl, rfl, rfl, rfl⟩
  | r :: rs, i, s => by
    have := recordOutcomes_keeps t rs (i + 1) (writeRecord t i r s).1
    simpa [recordOutcomes] using this

/-- R161: the state, the counts and the lowest refused record of a run, from the outcomes of its records. -/
theorem writeRecords_outcomes (t : Table) :
    ∀ (rs : List (List Byte)) (i : Nat) (w : Written),
      let y := recordOutcomes t i rs w.state
      writeRecords t i rs w =
        ⟨y.2, w.applied + y.1.countP (fun x => !x.refuses), w.refused + y.1.countP Status.refuses,
          w.clamped || y.1.contains .clamped,
          w.lowest.or ((y.1.find? Status.refuses).map fun st => (i + y.1.findIdx Status.refuses, st))⟩
  | [], i, w => by cases w with | mk a b c d e => simp [writeRecords, recordOutcomes]
  | r :: rs, i, w => by
    have ih := writeRecords_outcomes t rs (i + 1) (w.take t i r)
    simp only [writeRecords] at ih ⊢
    rw [ih]
    have hs : (w.take t i r).state = (writeRecord t i r w.state).1 := by unfold Written.take; simp only []; split <;> rfl
    simp only [hs, recordOutcomes]
    generalize hx : (writeRecord t i r w.state).2 = x
    generalize recordOutcomes t (i + 1) rs (writeRecord t i r w.state).1 = y
    unfold Written.take
    simp only [hx]
    cases hr : x.refuses with
    | true =>
      have hn : x ≠ .clamped := by rintro rfl; cases hr
      have hn' : (Status.clamped == x) = false := by cases x <;> first | rfl | exact absurd rfl hn
      simp only [if_true, List.countP_cons, hr, Bool.not_true, List.find?_cons, List.findIdx_cons, cond_true,
        Bool.false_eq_true, if_false, Nat.add_zero, Option.map_some, List.contains_cons, hn', Bool.false_or]
      cases w.lowest <;> simp [Nat.add_comm, Nat.add_left_comm]
    | false =>
      have hc : (Status.clamped == x) = (x == .clamped) := by cases x <;> rfl
      simp only [Bool.false_eq_true, if_false, List.countP_cons, hr, Bool.not_false, if_true, List.find?_cons,
        List.findIdx_cons, cond_false, Nat.add_zero, List.contains_cons, hc, Bool.or_assoc]
      have he : ∀ n, i + 1 + n = i + (n + 1) := by omega
      simp [he]
      omega

/-! ## The execution of a WRITE -/

theorem writeFits (t : Table) (tag first : Byte) (records : List (List Byte)) (h : ∀ r ∈ records, r.length = t.writeLength)
    (n : records ≠ []) : payloadFits ([tag, 2, t.number, first] ++ records.flatten) = true := by
  have hl := flatten_length_of records h
  have hw : 0 < t.writeLength := by cases t <;> decide
  have hp : 0 < records.length := List.length_pos_iff.mpr n
  have hm : 0 < records.length * t.writeLength := Nat.mul_pos hp hw
  have hn : Table.ofNumber t.number = some t := by cases t <;> rfl
  have hk : u8 ([tag, 2, t.number, first] ++ records.flatten) 1 = 2 := rfl
  have hg : ([tag, 2, t.number, first] ++ records.flatten).getD 2 0 = t.number := rfl
  unfold payloadFits
  rw [hk]
  simp only [hg, hn]
  simp only [List.length_append, List.length_cons, List.length_nil, hl]
  simp only [Bool.and_eq_true, decide_eq_true_eq, beq_iff_eq]
  refine ⟨by omega, by omega, ?_⟩
  rw [show 0 + 1 + 1 + 1 + 1 + records.length * t.writeLength - 4 = records.length * t.writeLength by omega]
  exact Nat.mul_mod_left ..

/-- R159, R161: the execution of a WRITE of several records, within the table and past it. -/
theorem runWrite_executing {t : Table} {tag first : Byte} {records : List (List Byte)} {s : State}
    (h : ∀ r ∈ records, r.length = t.writeLength) (n : records ≠ [])
    (e : Executing ([tag, 2, t.number, first] ++ records.flatten) s) :
    runWrite t tag first records.flatten s = .next (settleLinks (nextRequest (
      if t.count < first.toNat + records.length then
        placeReply ([tag, 2, t.number, first] ++ records.flatten) .badIndex (openBody [tag, 2] s) (s.withFree (s.free + 1))
      else
        let w := writeRecords t first.toNat records ⟨s, 0, 0, false, none⟩
        placeReply ([tag, 2, t.number, first] ++ records.flatten) w.status
          (w.body (Sys2Proof.Config.freeByte w.state.free)) (w.state.withFree (w.state.free + 1))))) := by
  have hw : 0 < t.writeLength := by cases t <;> decide
  have hd : records.flatten.length / t.writeLength = records.length := by
    rw [flatten_length_of records h, Nat.mul_div_cancel _ hw]
  rw [runWrite, executeRequest_executing _ e (writeFits t tag first records h n), executeWrite]
  simp only [hd, recordsOf_flatten _ _ h]
  split <;> rfl

/-- R161: the execution of a WRITE of one record: its owner's outcome, and the REPLY that carries it. -/
theorem runWrite_one {t : Table} {tag first : Byte} {r : List Byte} {s : State} (h : r.length = t.writeLength)
    (hc : first.toNat < t.count) (e : Executing ([tag, 2, t.number, first] ++ r) s) :
    ∃ u, runWrite t tag first r s = .next (settleLinks u)
      ∧ Keeps [.replies, .agent] (writeRecord t first.toNat r s).1 u
      ∧ ((writeRecord t first.toNat r s).2.refuses = true → RefusedOne tag first (writeRecord t first.toNat r s).2 s u)
      ∧ ((writeRecord t first.toNat r s).2.refuses = false →
          WroteOne tag (writeRecord t first.toNat r s).2 s u) := by
  have e1 : [r].flatten = r := by simp
  have he := runWrite_executing (t := t) (tag := tag) (first := first) (records := [r]) (s := s) (by simpa using h) (by simp)
    (by rw [e1]; exact e)
  rw [e1] at he
  have hi : byteOf first.toNat = first := by simp [byteOf]
  have hs := writeRecords_outcomes t [r] first.toNat ⟨s, 0, 0, false, none⟩
  simp only [recordOutcomes] at hs
  refine ⟨_, he, ?_, ?_, ?_⟩
  all_goals
    simp only [List.length_singleton]
    rw [if_neg (by omega), hs]
  · intro b hb
    cases b <;> simp [Block.same, placeReply] at hb ⊢
  · intro hr
    simp [RefusedOne, Replied, takesNext_iff, hr, Written.status, Written.body, hi]
    decide
  · intro hr
    refine ⟨Sys2Proof.Config.freeByte s.free 0, ?_⟩
    have hc' : storedStatus (decide (Status.clamped = (writeRecord t first.toNat r s).2))
        = (writeRecord t first.toNat r s).2 := by
      revert hr
      cases (writeRecord t first.toNat r s).2 <;> simp [Status.refuses, storedStatus]
    simp [Replied, takesNext_iff, hr, Written.status, Written.body, hc']
    decide

/-! ## The records and headers of a READ (12.5) -/

theorem nameBytes_length (fb : Nat → Byte) (name : List Byte) : (nameBytes fb name).length = 13 := by simp [nameBytes]

/-- 12.5: every record of a table has the table's length. -/
theorem tableRecords_length (fb : Nat → Nat → Byte) (t : Table) (s : State) :
    ∀ r ∈ tableRecords fb t s, r.length = t.readLength := by
  intro r hr
  cases t <;> simp only [tableRecords, List.mem_map, List.mem_finRange, true_and, List.mem_singleton] at hr
  case seats => obtain ⟨k, rfl⟩ := hr; simp only [Seat.bytes]; cases s.seats[k].pending <;> rfl
  case teams => obtain ⟨k, rfl⟩ := hr; simp [teamBytes, Team.bytes, nameBytes_length, Table.readLength]
  case questions => obtain ⟨k, rfl⟩ := hr; rfl
  case cues => obtain ⟨k, rfl⟩ := hr; rfl
  case sequences => obtain ⟨k, rfl⟩ := hr; rfl
  case steps => obtain ⟨k, rfl⟩ := hr; rfl
  case portcfg => obtain ⟨k, rfl⟩ := hr; rfl
  case config => subst hr; rfl
  case responses =>
    obtain ⟨k, rfl⟩ := hr
    simp only [Response.bytes]
    cases s.resp.records[k].answer with
    | none => cases s.resp.records[k].pressTime <;> cases s.resp.records[k].points <;> rfl
    | some a => cases a <;> cases s.resp.records[k].pressTime <;> cases s.resp.records[k].points <;> rfl
  case buzzq => obtain ⟨k, _, rfl⟩ := hr; rfl
  case judged => obtain ⟨k, _, rfl⟩ := hr; rfl
  case scores => obtain ⟨k, rfl⟩ := hr; rfl
  case standings => obtain ⟨k, _, rfl⟩ := hr; rfl
  case commit => subst hr; rfl
  case portstat => obtain ⟨k, rfl⟩ := hr; rfl

/-- R160, log entry 9: how many records fit behind the header of a table. -/
theorem roomFor_header (fb : Nat → Byte) (t : Table) (s : State) : roomFor t (tableHeader fb t s) = readRoom t := by
  cases t
  case responses =>
    have h : (s.resp.headerBytes fb).length = 26 := by
      simp only [Responses.headerBytes, Tallies.bytes]
      have hc : (s.resp.tallies.counts.toList.map be16).flatten.length = 12 := by
        rw [List.length_flatten, List.map_map]
        have : (List.length ∘ be16) = fun _ => 2 := by funext x; rfl
        rw [this]
        simp
      cases s.resp.header.openTime <;> cases s.resp.header.closeTime <;>
        simp [timeOr0, flaggedTime, hc, be32, be16]
    simp only [roomFor, tableHeader, h, Table.readLength, readRoom]
  case buzzq =>
    have h : (buzzHeader fb s).length = 12 := by
      simp only [buzzHeader]
      cases s.buzz.answerTimer <;> simp [flaggedTime, be32, be16]
    simp only [roomFor, tableHeader, h, Table.readLength, readRoom]
  all_goals simp only [roomFor, tableHeader, standingsHeader, List.length_cons, List.length_nil, Table.readLength, readRoom]

end Sys2Proof.Machine
end

