-- ==== Sys2Proof/Tests/Slice0.lean ====
section
/-! SUPPORT. Tests: an ill-formed command for each check of WellFormed, states that meet the hypotheses of each statement, and
small steps whose results the manual's rules and worked examples give. -/

namespace Sys2Proof.Tests

-- One proof after the other: the kernel's evaluations need no thread each.
set_option Elab.async false

open Sys2Proof.Machine

/-! ## Helpers -/

/-- The next state of an outcome. -/
def nextOf (o : Host.Outcome State Fault Refusal) : Option State :=
  match o with
  | .next t => some t
  | _ => none

/-- A field of the state after a command. -/
def result {α : Type} (c : Instr) (s : State) (f : State → α) : Option α := (nextOf (exec c s)).map f

/-- A frame with this payload, all its bytes arriving within one tick. -/
def arrived (payload : List Byte) : Arrival := ⟨0, 0, 0, payload.map (⟨·, 0⟩), 0, 0⟩

/-- Bytes that all arrive at one reading of the counter. -/
def heardAt (time : Time) (bytes : List Byte) : List Heard := bytes.map (⟨·, time⟩)

/-- A state at show time 1 in which the agent has decoded this payload since show time 0. -/
def decoding (payload : List Byte) (s : State) : State :=
  (s.withNow 1).withHub { s.hub with agent := .decoding payload 0 }

theorem decoding_ends (payload : List Byte) (s : State) : Decoding payload (decoding payload s) := 
  ⟨0, rfl, show 0 < since 1 0 by decide⟩

theorem decoding_executes (payload : List Byte) (s : State) (h : s.loader.running = false) :
    Executing payload (decoding payload s) := ⟨decoding_ends payload s, h⟩

/-- The reset state in another round state, on question 0. -/
def inRound (st : RoundState) : State :=
  State.reset.withRound { State.reset.round with state := st, current := some 0 }

/-- The reset state with one question written. -/
def withQuestion (q : Fin 128) (r : Question) (s : State) : State := s.withQuestions (s.questions.set q r)

/-- A CHOICE question of options A and B with A right. -/
def choice : Question := { Question.reset with kind := .choice, correct := 1, base := 100, speed := 50, eligible := 0xFFFF }

/-- A BUZZ question. -/
def buzzer : Question :=
  { Question.reset with
    kind := .buzz
    base := 100
    penalty := 30
    stealPoints := 50
    steals := 1
    settle := 50
    guard := 20
    answerTime := 10
    eligible := 0xFFFF }

/-- Question 0 in play: the round state, the header and the record. -/
def playing (st : RoundState) (q : Question) : State :=
  (withQuestion 0 q (inRound st)).withResp
    { State.reset.resp with header := ⟨some 0, some q.kind, some 1000, none, false⟩ }

/-- A load in progress on this flash. -/
def loading (flash : List Byte) : State := State.reset.withLoader (State.reset.loader.begin flash)

/-- A port SWEEPING, its sweep departed at show time 0. -/
def sweeping (p : Fin 4) (s : State) : State :=
  s.setPort p { s.ports[p] with
    state := .sweeping
    sweepTimer := some 144
    sweep := some ⟨⟨0, ⟨none, 0, none, none⟩, false, [0, 1], []⟩, [], 0, [], [], false, true⟩ }

/-- The stamped frame in hand. -/
def holding (f : Stamped) (s : State) : State := s.withStamper { s.stamper with inHand := some f }

/-! ## Ill-formed commands, one for each check of WellFormed -/

theorem test_wf_pass : (Instr.pass (arrived (List.replicate 251 0))).wf = false := by decide +kernel
theorem test_wf_cue : (Instr.cue (arrived [1])).wf = false := by decide +kernel
theorem test_wf_hubRequest : (Instr.hubRequest (arrived [])).wf = false := by decide +kernel
theorem test_wf_mark : (Instr.mark (arrived [])).wf = false := by decide +kernel
theorem test_wf_gap : (Instr.pass { arrived [7] with checkLow := 9 }).wf = false := by decide +kernel
theorem test_wf_report : (Instr.report (arrived (List.replicate 251 0))).wf = false := by decide +kernel
theorem test_wf_malformed : (Instr.requestMalformed [9, 6]).wf = false := by decide +kernel
theorem test_wf_discarded : (Instr.linkFrameDiscarded .console 0 []).wf = false := by decide +kernel
theorem test_wf_records : (Instr.writeTeams 0 0 [1, 2, 3]).wf = false := by decide +kernel
theorem test_wf_records_none : (Instr.writeSeats 0 0 []).wf = false := by decide +kernel
theorem test_wf_readOnly : (Instr.writeReadOnlyTable 0 1 0 [255]).wf = false := by decide +kernel
theorem test_wf_unknown : (Instr.readUnknownTable 0 3 0 1).wf = false := by decide +kernel
theorem test_wf_reception : (Instr.handsetFrameReceived 0 10 9 []).wf = false := by decide +kernel
theorem test_wf_good : (Instr.writeTeams 0 0 (List.replicate 16 0)).wf = true := by decide +kernel

/-! ## States of the tests -/

/-- A question in play with its window at its deadline. -/
def atWindowEnd : State := (inRound .opened).withRound { (inRound .opened).round with window := .running 0 }

/-- A READY back buffer with another view. -/
def readyView : State := State.reset.withComp { State.reset.comp with backState := .ready }

/-- A press of seat 192 in hand on a question of a kind in a round state. -/
def pressed (st : RoundState) (q : Question) (frame : HandsetFrame) : State :=
  holding ⟨3, 0, frame, some (1010, ⟨false, false, false⟩)⟩ (sweeping 3 (playing st q))

/-- Seat 192 of an active team 3, of class DIGIT. -/
def teamed (s : State) : State :=
  (s.setSeat 192 { s.seats[(192 : Fin 256)] with team := some 3, cls := some .digit }).withTeams
    (s.teams.set 3 ⟨true, []⟩)

/-- A commit walk at a seat, on a question of a kind. -/
def walkAt (n : Nat) (q : Question) : State :=
  (playing .committing q).withScore { State.reset.score with walk := { State.reset.score.walk with walking := true, position := n } }

/-- Cue number 5 in the last entry of the Cue Table. -/
def cued (a : CueAction) (s : State) : State := s.withCues (s.cues.set 63 ⟨true, 5, a, 0, false⟩)

/-! ## Worked values of the manual -/

/-- R176's generator over the digits 1 to 9: the check word of this polynomial and preset, 29B1H. -/
theorem test_crc : crc [0x31, 0x32, 0x33, 0x34, 0x35, 0x36, 0x37, 0x38, 0x39] = 0x29B1 := by decide +kernel

/-- R113: halves go toward plus infinity, so −2.5 is −2. -/
theorem test_mean_half : meanPoints (-5) 2 = -2 := by decide +kernel

/-- R62: 5 ticks after 2^32 − 2 is 3, and 3 is later. -/
theorem test_time_wraps : after 0xFFFFFFFE 5 = 3 ∧ earlier 0xFFFFFFFE 3 = true := by decide +kernel

/-- R44: 64 positions need 18 ms, 40 need 12, 24 need 8. -/
theorem test_min_period : minPeriod 64 = 18 ∧ minPeriod 40 = 12 ∧ minPeriod 24 = 8 := by decide +kernel

/-! ### The press times of section 4.8 -/

/-- Port 2 of section 4.8: skew 24, and its ring as the section's table gives it. -/
def row2 : State :=
  (State.reset.setPort 2 { State.reset.ports[(2 : Fin 4)] with cfg := ⟨false, 64, 18, 24⟩ }).withStamper
    { State.reset.stamper with
      history := State.reset.stamper.history.set 2 #v[some 1001008, some 1001152, some 1001296, some 1001440, none, none, none,
        none, none, some 1000000, some 1000144, some 1000288, some 1000432, some 1000576, some 1000720, some 1000864] }

/-- The frame of seat 149: arrival 1 001 500 in the sweep of beacon 3. -/
def entry149 : InboxEntry := ⟨.press 2 0 1 51, 21, 1001500, 3, 1001440, false⟩

theorem test_stamp_case1 : stampTime 2 entry149 1 51 row2 = (1001227, ⟨false, false, false⟩) := by decide +kernel

theorem test_stamp_case2 : stampTime 2 entry149 9 1203 row2 = (1001464, ⟨true, false, false⟩) := by decide +kernel

theorem test_stamp_case3 : stampTime 2 entry149 12 4095 row2 = (1001500, ⟨false, true, false⟩) := by decide +kernel

theorem test_stamp_case4 :
    stampTime 2 ⟨.press 0 0 15 0, 0, 1200018, 0, 1200000, false⟩ 15 0
      (row2.withStamper { row2.stamper with history := Vector.replicate 4 (Vector.replicate 16 none) })
      = (1200018, ⟨true, true, false⟩) := by decide +kernel

theorem test_stamp_case5 :
    stampTime 2 ⟨.press 0 0 0 200, 0, 150, 0, 4294967200, false⟩ 0 200
      (row2.withStamper { row2.stamper with
        history := row2.stamper.history.set 2 ((Vector.replicate 16 none).set 0 (some 4294967200)) })
      = (128, ⟨false, false, false⟩) ∧ since 128 4294967000 = 424 := by decide +kernel

/-! ### The commits of sections 7.6 and 7.7 -/

/-- Question 50 of section 7.6. -/
def q50 : Question :=
  { Question.reset with
    kind := .choice
    options := 4
    correct := 1
    base := 100
    speed := 50
    penalty := 20
    window := 200 }

theorem test_choice_points :
    100 + bonus q50 40000 = 137 ∧ 100 + bonus q50 36000 = 138 ∧ 100 + bonus q50 120000 = 112
    ∧ 100 + bonus q50 80000 = 125 ∧ bonus q50 160000 = 0 := by decide +kernel

theorem test_choice_means : meanPoints 117 4 = 29 ∧ meanPoints 355 5 = 71 ∧ meanPoints 0 0 = 0 := by decide +kernel

theorem test_choice_saturates : clampTotal (99950 + 71) = 99999 := by decide +kernel

/-- The standings of section 7.6: teams 3, 1, 7 and 4 in this order, ranks 1, 2, 2 and 4. -/
def hall : State :=
  (State.reset.withTeams (Vector.ofFn fun t => ⟨t == 1 || t == 3 || t == 4 || t == 7, []⟩)).withScore
    { State.reset.score with table := Vector.ofFn fun t =>
      if t = 1 then ⟨449, 6, 29⟩ else if t = 3 then ⟨99999, 43, 49⟩ else if t = 4 then ⟨300, 3, 0⟩
      else if t = 7 then ⟨449, 4, 0⟩ else ⟨0, 0, 0⟩ }

theorem test_standings :
    (rankedStandings hall).map (fun e => (e.team, e.rank)) = [(3, 1), (1, 2), (7, 2), (4, 4)] := by decide +kernel

theorem test_adjust :
    result (.actAdjust 1 4 200) (decoding [1, 3, 8, 4, 0, 200] hall)
      (fun t => (t.score.table[(4 : Fin 16)], t.score.commit.valid, t.sorter.rerank)) = some (⟨500, 3, 200⟩, false, true) := by
  decide +kernel

/-! ### The buzz race of section 6.7 -/

/-- Question 40 of section 6.7 in play from show time 3 000 000, seat 200's buzz at the head. -/
def race : State :=
  (((playing .opened { buzzer with window := 200 }).withNow 3010100).withRound
    { (inRound .opened).round with window := .running 3160000 }).withBuzz
    { State.reset.buzz with
      queue := [⟨200, 6, 3009700, ⟨false, false, false⟩, false, false⟩, ⟨5, 1, 3009800, ⟨false, false, false⟩, false, false⟩]
      headTimer := some 3010100 }

theorem test_grant :
    result .headSettleExpiry race (fun t => (t.round.state, t.round.window, t.buzz.held, t.buzz.answerTimer))
      = some (.floor, .paused 149900, true, some 3090100) := by decide +kernel

theorem test_overtaken :
    let b : Buzz := { race.buzz with held := true }
    (queueWith (newEntry 40 3 3009650 ⟨false, false, false⟩ b) b).map (fun e => (e.seat, e.overtaken, e.tie))
      = [(200, false, false), (40, true, false), (5, false, false)] := by decide +kernel

theorem test_tie :
    let b : Buzz := { race.buzz with held := true }
    (queueWith (newEntry 13 2 3009800 ⟨false, false, false⟩ b) b).map (fun e => (e.seat, e.tie))
      = [(200, false), (5, true), (13, true)] := by decide +kernel

/-- Seat 200's floor, before the verdict WRONG of 3 030 000, with seat 40's entry behind it. -/
def judged : State :=
  ((race.withNow 3030000).withRound
    { race.round with state := .floor, window := .paused 149900 }).withBuzz
    { race.buzz with
      queue := [⟨200, 6, 3009700, ⟨false, false, false⟩, false, false⟩, ⟨40, 3, 3009650, ⟨false, false, false⟩, true, false⟩]
      held := true
      headTimer := none
      answerTimer := some 3090100 }

theorem test_judge_wrong :
    (nextOf (exec (.actJudge 1 6 1) ((decoding [1, 3, 6, 6, 1] judged).withNow 3030000))).map
      (fun t => (t.round.state, t.round.window, t.buzz.judged, t.buzz.stealsUsed)) =
      some (.floor, .paused 149900, [⟨6, 200, .wrong, -30⟩], 1) := by decide +kernel

/-! ### One step of a few commands -/

theorem test_tick_wraps : result .showTimeTick (State.reset.withNow 0xFFFFFFFF) (·.now) = some 0 := by decide +kernel

theorem test_hold_asserted :
    result (.pass (arrived [1])) (State.reset.withLink { State.reset.link with passQueue := List.replicate 5 ⟨1, []⟩ }) (·.link.hold)
      = some true := by decide +kernel

theorem test_pass_overrun :
    result (.pass (arrived [1])) (State.reset.withLink { State.reset.link with passQueue := List.replicate 8 ⟨1, []⟩ })
      (fun t => (t.link.passOverrun, t.link.passQueue.length)) = some (true, 8) := by decide +kernel

theorem test_request_dropped :
    result (.hubRequest (arrived [1, 6])) (State.reset.withLink { State.reset.link with owed := 4 })
      (fun t => (t.link.requestDropped, t.link.owed)) = some (true, 4) := by decide +kernel

theorem test_urgent_frame_first :
    result .wallFrameEnd (State.reset.withLink { State.reset.link with
        passQueue := List.replicate 6 ⟨1, [9]⟩, scoreOut := some ⟨ViewImage.blank, none⟩ })
      (fun t => (t.link.wallTx.map (·.frame.cls), t.link.passQueue.length)) = some (some 1, 5) := by decide +kernel

theorem test_port_start :
    result (.portStart 1 3) (decoding [1, 4, 32, 3] State.reset)
      (fun t => (t.ports[(3 : Fin 4)].state, t.ports[(3 : Fin 4)].wakeTimer)) = some (.waking, some 161) := by decide +kernel

theorem test_port_start_bad :
    result (.portStart 1 4) (decoding [1, 4, 32, 4] State.reset) (·.link.consoleTx) = some (some ⟨4, [1, 4, 7]⟩) := by
  decide +kernel

theorem test_write_question_clamped :
    result (.writeQuestions 1 9 ([2, 7, 0] ++ List.replicate 18 0 ++ [5] ++ List.replicate 4 0 ++ [20]))
      (decoding ([1, 2, 3, 9, 2, 7, 0] ++ List.replicate 18 0 ++ [5] ++ List.replicate 4 0 ++ [20]) State.reset)
      (fun t => (t.questions[(9 : Fin 128)].options, t.questions[(9 : Fin 128)].window, t.questions[(9 : Fin 128)].changeLimit,
        t.questions[(9 : Fin 128)].reveal)) = some (6, 1, 3, some 15) := by decide +kernel

theorem test_portcfg_raised :
    result (.writePortcfg 1 1 [1, 64, 6, 0]) (decoding [1, 2, 7, 1, 1, 64, 6, 0] State.reset)
      (fun t => t.ports[(1 : Fin 4)].cfg) = some ⟨true, 64, 18, 0⟩ := by decide +kernel

theorem test_answer_first :
    result .frameHandoff (teamed (pressed .opened choice (.press 0 1 0 0)))
      (fun t => (t.resp.records[(192 : Fin 256)].answer, t.resp.tallies.counts[(0 : Fin 6)], t.seats[(192 : Fin 256)].lamp))
      = some (some (.option 0), 1, .answered) := by decide +kernel

theorem test_false_start :
    (nextOf (exec .frameHandoff ((teamed (pressed .opened buzzer (.press 6 1 0 0))).withStamper
      { State.reset.stamper with inHand := some ⟨3, 0, .press 6 1 0 0, some (500, ⟨false, false, false⟩)⟩ }))).map
      (fun t => (t.resp.records[(192 : Fin 256)].state, t.buzz.queue.length)) = some (.locked, 0) := by decide +kernel

/-- R92, R62: 2^31 − 100 ticks after the opening is, by the signed difference, before the guard interval: a stray press. -/
theorem test_stray_by_difference :
    (nextOf (exec .frameHandoff ((teamed (pressed .floor buzzer (.press 6 1 0 0))).withStamper
      { State.reset.stamper with inHand := some ⟨3, 0, .press 6 1 0 0, some (2147484548, ⟨false, false, false⟩)⟩ }))).map
      (fun t => (t.resp.records[(192 : Fin 256)].state, t.buzz.queue.length)) = some (.none, 0) := by decide +kernel

/-- Seat 192, of class DIGIT, has answered an ESTIMATE question while the HISTOGRAM is the resting view; one TALLY event is counted,
and the tally wait has been written to 0 since. -/
def estimated (frame : HandsetFrame) : State :=
  ((teamed (pressed .opened { choice with kind := .estimate, changeLimit := 1 } frame)).withResp
    ⟨⟨some 0, some .estimate, some 1000, none, false⟩,
      State.reset.resp.records.set 192 ⟨.answered, some (.value 5), some 1005, 0, none⟩,
      ⟨State.reset.resp.tallies.counts, 1⟩⟩).withHub
    { State.reset.hub with
      config := { State.reset.hub.config with resting := .histogram, tallyWait := 0 }
      tallyEvents := 1
      tallyTimer := some 160 }

/-- R82, R84, R128: a changed value moves no tally, so the READY back buffer stays. R168: the wait of 0 applies from the next first
event. -/
theorem test_estimate_change :
    let s := estimated (.digits 7 1 0 0)
    result .frameHandoff (s.withComp { s.comp with backState := .ready, back := { s.comp.back with view := .histogram } })
      (fun t => (t.resp.records[(192 : Fin 256)].answer, t.comp.backState, t.hub.tallyEvents, t.hub.tallyTimer))
      = some (some (.value 7), .ready, 2, some 160) := by decide +kernel

theorem test_inbox_overrun :
    result (.handsetFrameReceived 3 30 31 [2, 0, 0, 0, 0, 0, 254])
      ((sweeping 3 State.reset).setPort 3 { (sweeping 3 State.reset).ports[(3 : Fin 4)] with
        inbox := List.replicate 4 ⟨.press 0 0 0 0, 3, 24, 0, 0, false⟩ })
      (fun t => ((t.ports[(3 : Fin 4)].inbox.map (·.position)), t.ports[(3 : Fin 4)].flagOverrun))
      = some ([3, 3, 3, 7], true) := by decide +kernel

theorem test_window_closes :
    result .windowExpiry atWindowEnd (fun t => (t.round.state, t.resp.header.closeTime)) = some (.closed, some 0) := by
  decide +kernel

theorem test_mark_swaps :
    result (.mark (arrived [9])) readyView (fun t => (t.comp.front.view, t.comp.backState, t.comp.lastRefresh))
      = some (.standings, .stale, some 9) := by decide +kernel

theorem test_curtain :
    result (.showCurtainOn 1) (decoding [1, 5, 20] State.reset)
      (fun t => (t.comp.curtain, t.link.scoreOut.map (·.image.view))) = some (true, some .blank) := by decide +kernel

/-- R142: a frame whose sixth byte comes 9 ticks after the one before is discarded, and a start mark it holds begins the next; when
it comes 8 ticks after, nothing is. -/
theorem test_gap_discards :
    result (.linkFrameDiscarded .wall 4294967290 (heardAt 4294967295 [6, 4, 165, 9] ++ [⟨1, 8⟩])) State.reset
      (fun t => (t.link.linkCheck, t.link.wallRx))
      = some (true, .collecting 4294967295 [⟨9, 4294967295⟩, ⟨1, 8⟩])
    ∧ result (.linkFrameDiscarded .wall 4294967290 (heardAt 4294967295 [6, 4, 165, 9] ++ [⟨1, 7⟩])) State.reset
      (fun t => (t.link.linkCheck, t.link.wallRx)) = some (false, .hunting) := by decide +kernel

/-- R142: a PASS with a right check, 9 ticks between its start mark and its class, is discarded. -/
theorem test_gap_pass :
    result (.pass { arrived [7] with start := 4294967287 }) State.reset (fun t => (t.link.linkCheck, t.link.passQueue))
      = some (true, []) := by decide +kernel

/-- R48, R57: no break begins while the beacon is sent; one does when 9 active ticks lie after it. -/
theorem test_break_waits :
    result (.breakBegin 3 ⟨0, false⟩) ((sweeping 3 State.reset).withNow 4) (·.ports[(3 : Fin 4)].state) = some .sweeping
    ∧ result (.breakBegin 3 ⟨5, false⟩) ((sweeping 3 State.reset).withNow 14) (·.ports[(3 : Fin 4)].state) = some .broken := by
  decide +kernel

/-- R55: a start mark read before the first beacon departs is not hunted for, and sets no flag. -/
theorem test_first_sweep_slot :
    result (.handsetFrameReceived 3 (-1) 1 [1]) (sweeping 3 State.reset) (·.ports[(3 : Fin 4)].flagSlot) = some false := by
  decide +kernel

/-- R109: an ANSWERED seat of an active eligible team counts on a POLL too. -/
theorem test_poll_answered :
    result .walkSeatVisit
      ((teamed (walkAt 192 { choice with kind := .poll })).withResp { (walkAt 192 { choice with kind := .poll }).resp with
        records := State.reset.resp.records.set 192 ⟨.answered, some (.option 1), some 1010, 0, none⟩ })
      (·.score.walk.answered[(3 : Fin 16)]) = some 1 := by decide +kernel

/-- R144, R149: at urgent level 1 the burst of a CUE's CURTAIN_ON goes out before the unabsorbed CUE. -/
theorem test_cue_burst_first :
    result (.cue (arrived [0, 5]))
      (cued .curtainOn (State.reset.withHub { State.reset.hub with config := { State.reset.hub.config with urgent := 1 } }
        |>.withLink { State.reset.link with wallTx := none }))
      (fun t => (t.link.wallTx.map (·.frame.cls), t.link.passQueue.length)) = some (some 7, 1) := by decide +kernel

theorem test_load_empty : result .loadEnd (loading []) (fun t => (t.loader.running, t.loader.result))
    = some (false, .empty) := by decide +kernel

/-! ## States that meet the hypotheses of the statements -/

theorem witness_step : (State.reset.withPending [.showTimeTick]).pending = .showTimeTick :: [] ∧ State.reset.pending = [] :=
  ⟨rfl, rfl⟩

/-- The reset state with a REPLY on the console link. -/
def replying (payload : List Byte) : State := State.reset.withLink { State.reset.link with consoleTx := some ⟨4, payload⟩ }

theorem witness_arbiters : State.reset.link.wallTx.isSome ∧ (replying [1, 6, 0]).link.consoleTx.isSome := by decide +kernel

/-- The RESTART REPLY of tag 7 on the console link. -/
def restarting : State := (replying [7, 8, 0]).withHub { State.reset.hub with agent := .restarting }

theorem witness_restart : restarting.hub.agent = .restarting ∧ restarting.link.consoleTx = some ⟨4, [7, 8, 0]⟩ := ⟨rfl, rfl⟩

theorem witness_show_time : ∃ t, exec .showTimeTick State.reset = .next t ∧ t.now ≠ State.reset.now :=
  ⟨_, rfl, by decide +kernel⟩

theorem arrived_times (payload : List Byte) : ∀ t ∈ (arrived payload).start :: arrivalTimes (arrived payload), t = 0 := by
  simp only [arrived, arrivalTimes, List.map_map]
  intro t h
  simp only [List.mem_cons, List.mem_append, List.mem_map, List.not_mem_nil, or_false, Function.comp_apply] at h
  grind

/-- A frame all of whose bytes arrive within one tick is whole. -/
theorem arrived_whole (payload : List Byte) : ArrivedWhole (arrived payload) payload := by
  refine ⟨(List.map_map ..).trans (List.map_id payload), fun h => ?_⟩
  obtain ⟨i, a, b, h1, h2, h3⟩ := h
  rw [arrived_times payload a (List.mem_of_getElem? h1), arrived_times payload b (List.mem_of_getElem? h2)] at h3
  exact absurd h3 (by decide)

/-- What arrived as a CUE without a number, as a MARK of 2 bytes, and as a frame with a gap of 9 ticks before its last byte. -/
theorem witness_frames_short :
    (∃ heard, ArrivedAs 2 (arrived [7]) heard ∧ (arrived [7]).payload.length < 2)
    ∧ (∃ heard, ArrivedAs 9 (arrived [1, 2]) heard ∧ (arrived [1, 2]).payload.length ≠ 1)
    ∧ (∃ heard, ArrivedAs 1 { arrived [7] with checkLow := 9 } heard
      ∧ Gapped (({ arrived [7] with checkLow := 9 } : Arrival).start :: arrivalTimes { arrived [7] with checkLow := 9 })) :=
  ⟨⟨_, heardOf_arrived _ _, by decide⟩, ⟨_, heardOf_arrived _ _, by decide⟩, ⟨_, heardOf_arrived _ _, 4, 0, 9, rfl, rfl, by decide⟩⟩

/-- Bytes that R142 discards by their length, by a gap of 9 ticks and by their check, and a good check of a class no console frame has. -/
theorem witness_frames_discarded :
    (2 ≤ [(1 : Byte), 251].length ∧ 250 < u8 [1, 251] 1)
    ∧ (([⟨1, 0⟩, ⟨3, 9⟩] : List Heard).length ≤ u8 [1, 3] 1 + 4
      ∧ Gapped (0 :: ([⟨1, 0⟩, ⟨3, 9⟩] : List Heard).map (·.time)) ∧ ¬ Gapped (0 :: ([⟨1, 0⟩, ⟨3, 8⟩] : List Heard).map (·.time)))
    ∧ ([(1 : Byte), 0, 0, 0].length = u8 [1, 0, 0, 0] 1 + 4 ∧ u16 [1, 0, 0, 0] 2 ≠ (crc [1, 0]).toNat)
    ∧ ([(9 : Byte), 0, 167, 151].length = u8 [9, 0, 167, 151] 1 + 4 ∧ u16 [9, 0, 167, 151] 2 = (crc [9, 0]).toNat
      ∧ inwardGood .console ([(9 : Byte), 0, 167, 151].getD 0 0) 0 = false)
    ∧ 250 < (List.replicate 251 (0 : Byte)).length := by
  simp only [← gapped_iff]
  decide +kernel

theorem witness_frames_taken :
    ArrivedWhole (arrived (List.replicate 250 0)) (List.replicate 250 0)
    ∧ (List.replicate 250 (0 : Byte)).length ≤ 250 ∧ State.reset.link.reports.length < 2
    ∧ ¬ (State.reset.withLink { State.reset.link with reports := [[], []] }).link.reports.length < 2 :=
  ⟨arrived_whole _, by decide +kernel, by decide +kernel, by decide +kernel⟩

theorem cued_unique (a : CueAction) (s : State) (h : s.cues = State.reset.cues) : CueNumbersUnique (cued a s) := by
  have key : ∀ i : Fin 64, (cued a s).cues[i].valid = true → i = 63 := by
    intro i hi
    by_contra hne
    have hv : (63 : Nat) ≠ i.val := fun e => hne (Fin.ext e.symm)
    have : (cued a s).cues[i] = s.cues[i] := by simp [cued, State.withCues, hv]
    rw [this, h] at hi
    revert hi
    simp [State.reset, CueEntry.reset]
  intro i j hi hj _
  rw [key i hi, key j hj]

theorem witness_cue_forwarded :
    ArrivedWhole (arrived [0, 5]) [0, 5] ∧ 2 ≤ [(0 : Byte), 5].length ∧ (List.replicate 250 (0 : Byte)).length ≤ 250
    ∧ (∀ i : Fin 64, State.reset.cues[i].valid = true → State.reset.cues[i].number ≠ BitVec.ofNat 16 (u16 [0, 5] 0)) :=
  ⟨arrived_whole _, by decide +kernel⟩

theorem witness_cue_loading :
    ArrivedWhole (arrived [0, 5]) [0, 5] ∧ CueNumbersUnique (cued .next (loading [])) ∧ (cued .next (loading [])).cues[(63 : Fin 64)].valid = true
    ∧ (cued .next (loading [])).cues[(63 : Fin 64)].number = BitVec.ofNat 16 (u16 [0, 5] 0)
    ∧ (cued .next (loading [])).loader.running = true :=
  ⟨arrived_whole _, cued_unique _ _ rfl, by decide +kernel, by decide +kernel, rfl⟩

/-- A matched cue at an IDLE agent, one tick after reset. -/
theorem witness_cue_acts :
    ∃ s, ArrivedWhole (arrived [0, 5]) [0, 5] ∧ CueNumbersUnique s ∧ s.cues[(63 : Fin 64)].valid = true
    ∧ s.cues[(63 : Fin 64)].number = BitVec.ofNat 16 (u16 [0, 5] 0)
    ∧ s.loader.running = false ∧ 0 < since s.now 0 ∧ s.hub.agent = .idle
    ∧ requestOf (requestFor 9 s.cues[(63 : Fin 64)]).1 = some [9, 5, 18] :=
  ⟨(cued .freeze State.reset).withNow 1, arrived_whole _, cued_unique _ _ rfl, by decide +kernel, by decide +kernel, rfl, by decide +kernel, rfl,
    by decide +kernel⟩

theorem witness_hub_request :
    ArrivedWhole (arrived [1, 6]) [1, 6] ∧ 2 ≤ [(1 : Byte), 6].length ∧ (List.replicate 250 (0 : Byte)).length ≤ 250 :=
  ⟨arrived_whole _, by decide +kernel⟩

/-- The wall transmitter idle, the idle-fill timer expired. -/
def filling : State := State.reset.withLink { State.reset.link with wallTx := none, fillTimer := some 0 }

theorem witness_wall :
    State.reset.link.wallTx = some ⟨Frame.resetBurst 0, []⟩ ∧ filling.link.fillTimer = some 0
    ∧ 0 ≤ since filling.now 0 ∧ filling.link.wallTx = none := ⟨rfl, rfl, by decide +kernel, rfl⟩

theorem witness_console :
    (replying [1, 6, 0]).link.consoleTx = some ⟨4, [1, 6, 0]⟩ ∧ restartEnding (replying [1, 6, 0]) = false := ⟨rfl, rfl⟩

theorem witness_reads (t : Table) (tag first count : Byte) :
    Executing [tag, 1, t.number, first, count] (decoding [tag, 1, t.number, first, count] State.reset) :=
  decoding_executes _ _ rfl

theorem witness_writes :
    Table.seats.writable = true ∧ (∀ r ∈ List.replicate 246 [(255 : Byte)], r.length = Table.seats.writeLength)
    ∧ List.replicate 246 [(255 : Byte)] ≠ [] ∧ (List.replicate 246 [(255 : Byte)]).flatten.length ≤ 246 := by decide +kernel

/-- Any payload of a request is executed in some state: the hypothesis of every request statement. -/
theorem witness_request (payload : List Byte) : ∃ s, Executing payload s :=
  ⟨_, decoding_executes payload State.reset rfl⟩

/-- 64 seats of team 15, and seat 255 of none. -/
def fullTeam : State :=
  State.reset.withSeats (Vector.ofFn fun k => if k.val < 64 then { Seat.reset with team := some 15 } else Seat.reset)

theorem witness_seat_teams :
    (255 : Fin 256).val = (255 : Byte).toNat ∧ 16 ≤ (16 : Byte).toNat ∧ (16 : Byte) ≠ 255
    ∧ (15 : Fin 16).val = (15 : Byte).toNat ∧ 64 ≤ claims 15 255 fullTeam
    ∧ optFin (none : Option (Fin 16)) = 255 ∧ optFin (some (15 : Fin 16)) = 15 ∧ claims 15 255 State.reset < 64 := by
  decide +kernel

theorem witness_teams :
    (List.replicate 16 (0 : Byte)).length = 16 ∧ (15 : Fin 16).val = (15 : Byte).toNat
    ∧ 12 < u8 [0, 13] 1 ∧ ¬ 12 < u8 [0, 12] 1 := by decide +kernel

theorem witness_questions :
    (List.replicate 27 (0 : Byte)).length = 27 ∧ (127 : Fin 128).val = (127 : Byte).toNat
    ∧ ((playing .opened choice).resp.header.question = some 0 ∧ (playing .opened choice).round.state ≠ .idle)
    ∧ ¬ (State.reset.resp.header.question = some 127 ∧ State.reset.round.state ≠ .idle)
    ∧ 4 < u8 (5 :: List.replicate 26 (0 : Byte)) 0
    ∧ QKind.empty.code = (List.replicate 27 (0 : Byte)).getD 0 0 ∧ CommitMode.auto.code = (List.replicate 27 (0 : Byte)).getD 24 0 := by
  decide +kernel

theorem witness_cues :
    (List.replicate 6 (0 : Byte)).length = 6 ∧ (63 : Fin 64).val = (63 : Byte).toNat
    ∧ (∀ a : CueAction, a.code ≠ [(1 : Byte), 0, 5, 6, 0, 0].getD 3 0)
    ∧ CueAction.reveal.code = [(1 : Byte), 0, 5, 16, 15, 0].getD 3 0 :=
  ⟨rfl, rfl, fun a => by cases a <;> decide +kernel, by decide +kernel⟩

theorem witness_steps :
    (List.replicate 4 (0 : Byte)).length = 4 ∧ (15 : Fin 16).val = (15 : Byte).toNat ∧ 6 < u8 [7, 1, 0, 0, 0, 0] 0
    ∧ View.blank.code = [(6 : Byte), 1, 0, 0, 0, 15].getD 0 0 := by decide +kernel

theorem witness_portcfg :
    (List.replicate 4 (0 : Byte)).length = 4 ∧ (3 : Fin 4).val = (3 : Byte).toNat := by decide +kernel

theorem witness_config :
    (6 < u8 [0, 0, 0, 0, 0, 0, 0, 0, 0, 7] 9 ∨ u8 [0, 0, 0, 0, 0, 0, 0, 0, 0, 7] 9 = 2)
    ∧ (6 < u8 [0, 0, 0, 0, 0, 0, 0, 0, 0, 2] 9 ∨ u8 [0, 0, 0, 0, 0, 0, 0, 0, 0, 2] 9 = 2)
    ∧ View.blank.code = [(0 : Byte), 0, 0, 0, 0, 0, 0, 0, 0, 6].getD 9 0 ∧ View.blank ≠ .teamCard := by decide +kernel

theorem witness_unfit :
    (knownKind (u8 [1, 9] 1) = false ∧ Decoding [1, 9] (decoding [1, 9] State.reset))
    ∧ (payloadFits [1, 6, 0] = false ∧ Executing [1, 6, 0] (decoding [1, 6, 0] State.reset))
    ∧ 15 < (16 : Byte).toNat ∧ 8 < (9 : Byte).toNat
    ∧ payloadFits ([1, 2, 9, 0] ++ List.replicate 11 0) = true ∧ payloadFits ([1, 2, 0, 0] ++ []) = true :=
  ⟨⟨by decide +kernel, decoding_ends _ _⟩, ⟨by decide +kernel, decoding_executes _ _ rfl⟩, by decide +kernel, by decide +kernel,
    by decide +kernel, by decide +kernel⟩

theorem witness_loading :
    requestOf (.actNext 1) = some [1, 3, 2] ∧ (Instr.actNext 1).wf = true ∧ knownKind (u8 [1, 3, 2] 1) = true
    ∧ u8 [1, 3, 2] 1 ≠ 6 ∧ Decoding [1, 3, 2] (decoding [1, 3, 2] (loading []))
    ∧ (decoding [1, 3, 2] (loading [])).loader.running = true :=
  ⟨rfl, rfl, by decide +kernel, by decide +kernel, decoding_ends _ _, rfl⟩

/-- Question 127 is a CHOICE, every other one EMPTY. -/
def lastChoice : State := withQuestion 127 choice State.reset

theorem witness_open :
    lastChoice.round.state = .idle ∧ lastChoice.questions[(127 : Fin 128)].kind ≠ .empty
    ∧ (∀ l, lastChoice.round.lastOpened = some l → l.val < (127 : Fin 128).val)
    ∧ (∀ x : Fin 128, x.val < 127 → lastChoice.questions[x].kind = .empty) :=
  ⟨rfl, by decide +kernel, (fun l h => nomatch (show (none : Option (Fin 128)) = some l from h)), by decide +kernel⟩

theorem witness_open_waits :
    (inRound .opened).round.state = .opened ∧ (inRound .committing).round.state = .committing
    ∧ (∀ q : Fin 128, (none : Option (Fin 128)) = some q ↔
        (128 : Byte).toNat = q.val ∧ (inRound .committing).questions[q].kind ≠ .empty)
    ∧ nextQuestion lastChoice = some 127 ∧ nextQuestion State.reset = none :=
  ⟨rfl, rfl, by decide +kernel, by decide +kernel, by decide +kernel⟩

/-- A question in play with its settle interval over, or its head settle timer expired. -/
def atSettleEnd : State := (inRound .closing).withRound { (inRound .closing).round with settle := some 0 }

def atHeadEnd : State := State.reset.withBuzz { State.reset.buzz with headTimer := some 0 }

theorem witness_closing :
    (atWindowEnd.round.state = .opened ∧ atWindowEnd.round.window = .running 0 ∧ 0 ≤ since atWindowEnd.now 0)
    ∧ (atSettleEnd.round.state = .closing ∧ atSettleEnd.round.settle = some 0 ∧ 0 ≤ since atSettleEnd.now 0)
    ∧ (atHeadEnd.buzz.headTimer = some 0 ∧ 0 ≤ since atHeadEnd.now 0) := by decide +kernel

theorem witness_cancel :
    (∀ k : Fin 256, (inRound .opened).seats[k].pending = none) ∧ (inRound .opened).buzz.held = false := by decide +kernel

/-- The floor held by team 3, its answer timer at its expiry. -/
def floorHeld : State :=
  (playing .floor buzzer).withBuzz
    { State.reset.buzz with queue := [⟨40, 3, 1010, ⟨false, false, false⟩, false, false⟩], held := true, answerTimer := some 0 }

theorem witness_verdicts :
    floorHeld.round.state = .floor ∧ floorHeld.buzz.held = true
    ∧ floorHeld.buzz.queue = ⟨40, 3, 1010, ⟨false, false, false⟩, false, false⟩ :: []
    ∧ floorHeld.buzz.answerTimer = some 0 ∧ 0 ≤ since floorHeld.now 0
    ∧ Executing [1, 3, 6, 3, 0] (decoding [1, 3, 6, 3, 0] floorHeld)
    ∧ ∀ j ∈ floorHeld.buzz.judged, j.team ≠ 3 :=
  ⟨rfl, rfl, rfl, rfl, by decide +kernel, decoding_executes _ _ rfl, fun _ h => nomatch h⟩

theorem witness_stale :
    (16 ≤ (16 : Byte).toNat ∧ 2 ≤ (2 : Byte).toNat) ∧ (15 : Fin 16).val = (15 : Byte).toNat ∧ (1 : Byte).toNat ≤ 1
    ∧ (∃ j ∈ [(⟨15, 0, .wrong, 0⟩ : Judged)], j.team = 15) ∧ State.reset.round.state ≠ .floor
    ∧ floorHeld.round.state = .floor ∧ holderTeam floorHeld ≠ some 15 := by
  refine ⟨by decide, rfl, by decide, ⟨_, List.mem_singleton.mpr rfl, rfl⟩, by decide +kernel, rfl, by decide +kernel⟩

theorem witness_ports :
    (∀ p : Fin 4, p.val ≠ (4 : Byte).toNat) ∧ (3 : Fin 4).val = (3 : Byte).toNat
    ∧ ∀ k : Fin 256, portOf k = 3 → State.reset.seats[k].presence = .absent := by decide +kernel

/-- Port 3 WAKING with its wake timer expired, and port 3 SWEEPING between two sweeps. -/
def waking : State :=
  State.reset.setPort 3 { State.reset.ports[(3 : Fin 4)] with state := .waking, wakeTimer := some 0 }

def betweenSweeps : State :=
  State.reset.setPort 3 { State.reset.ports[(3 : Fin 4)] with state := .sweeping, sweepTimer := some 0 }

theorem witness_beacons :
    waking.ports[(3 : Fin 4)].cfg.positions = 64 ∧ waking.ports[(3 : Fin 4)].feedback.Nodup ∧ 0 ≤ since waking.now 0
    ∧ waking.ports[(3 : Fin 4)].state = .waking ∧ waking.ports[(3 : Fin 4)].wakeTimer = some 0
    ∧ betweenSweeps.ports[(3 : Fin 4)].cfg.positions = 64 ∧ betweenSweeps.ports[(3 : Fin 4)].feedback.Nodup
    ∧ betweenSweeps.ports[(3 : Fin 4)].state = .sweeping ∧ betweenSweeps.ports[(3 : Fin 4)].sweepTimer = some 0
    ∧ betweenSweeps.ports[(3 : Fin 4)].sweep = none := by decide +kernel

/-- Port 3 at the end of the last slot of its sweep. -/
def sweepOver : State := (sweeping 3 State.reset).withNow 144

theorem witness_sweep_end : ∃ sw, sweepOver.ports[(3 : Fin 4)].sweep = some sw ∧ sw.ended = false
    ∧ sw.beacon.checks.Nodup
    ∧ 0 ≤ since sweepOver.now (sw.departure + BitVec.ofNat 32 (16 + 2 * sweepOver.ports[(3 : Fin 4)].cfg.positions)) :=
  ⟨_, rfl, by decide +kernel, by decide +kernel, by decide +kernel⟩

/-- The first tick of slot 0 and the last of slot 63, each slot's two ticks, and a reading between the beacon and the slots. -/
theorem witness_receptions :
    (sweeping 3 State.reset).ports[(3 : Fin 4)].state = .sweeping
    ∧ (16 + 2 * ((0 : Nat) : Int) ≤ since 16 0 ∧ since 17 0 < 18 + 2 * ((0 : Nat) : Int))
    ∧ (16 + 2 * ((63 : Nat) : Int) ≤ since 142 0 ∧ since 143 0 < 18 + 2 * ((63 : Nat) : Int))
    ∧ 5 ≤ since 5 0 ∧ since 5 0 < 16 ∧ since 4 0 < 5 ∧ (since (-1) 0 < 0 ∧ State.reset.ports[(3 : Fin 4)].state ≠ .sweeping) := by
  decide +kernel

/-- Port 3 BROKEN with its idle timer expired. -/
def brokenLine : State :=
  State.reset.setPort 3 { State.reset.ports[(3 : Fin 4)] with state := .broken, idleTimer := some 0 }

/-- Active from 5 or from the beacon's start on, a line makes a break at 14, and not yet at 13; active from before a beacon that is
not the first, it makes one when 9 ticks lie outside the beacon's 5. -/
theorem witness_breaks :
    (sweeping 3 State.reset).ports[(3 : Fin 4)].state = .sweeping
    ∧ (5 ≤ since 14 0 ∧ 5 ≤ since 5 0 ∧ 8 < since 14 0 - since 5 0 ∧ since 13 0 - since 5 0 ≤ 8)
    ∧ (0 ≤ since 0 0 ∧ since 0 0 < 5 ∧ 13 < since 14 0 ∧ since 13 0 ≤ 13)
    ∧ (since (-4) 0 < 0 ∧ 13 < since 10 0 - since (-4) 0 ∧ since 9 0 - since (-4) 0 ≤ 13) ∧ since 4 0 < 5
    ∧ brokenLine.ports[(3 : Fin 4)].state = .broken
    ∧ brokenLine.ports[(3 : Fin 4)].idleTimer = some 0 ∧ 0 ≤ since brokenLine.now 0 := by decide +kernel

/-- One press in port 2's Inbox, its reference the beacon of 7 sweeps before. -/
def boxed : State :=
  (State.reset.setPort 2 { State.reset.ports[(2 : Fin 4)] with
    inbox := [⟨.press 0 1 0 70, 0, 1100, 7, 1080, false⟩] }).withStamper
    { State.reset.stamper with
      history := State.reset.stamper.history.set 2 ((Vector.replicate 16 none).set 0 (some 1000)) }

theorem witness_stamps :
    boxed.stamper.inHand = none ∧ boxed.ports[(2 : Fin 4)].inbox = ⟨.press 0 1 0 70, 0, 1100, 7, 1080, false⟩ :: []
    ∧ (∀ o : Fin 4, boxed.ports[o].inbox ≠ [] →
        ((2 : Fin 4) - boxed.stamper.lastServed - 1).val ≤ (o - boxed.stamper.lastServed - 1).val)
    ∧ boxed.stamper.history[(2 : Fin 4)][(0 : Fin 16)] = some 1000 ∧ ((7 : Fin 16) - 0).val ≤ 7 ∧ since 1000 1080 ≤ 0
    ∧ 7 < ((8 : Fin 16) - 0).val := by decide +kernel

theorem witness_frames :
    (holding ⟨3, 0, .hello 2 true, none⟩ State.reset).ports[(3 : Fin 4)].state ≠ .sweeping
    ∧ (pressed .opened choice (.hello 2 true)).ports[(3 : Fin 4)].state = .sweeping ∧ 2 < (3 : Byte).toNat
    ∧ HandsetClass.digit.code = 2 ∧ 7 < (8 : Byte).toNat
    ∧ ((5 : Byte).toNat < 7 ∧ (pressed .opened { choice with kind := .estimate } (.press 5 0 0 0)).resp.header.kind = some .estimate)
    ∧ (pressed .closed buzzer (.press 6 0 0 0)).resp.header.kind = some .buzz
    ∧ (pressed .closed buzzer (.press 6 0 0 0)).round.state ≠ .floor
    ∧ (pressed .opened choice (.digits 5 0 0 0)).resp.header.kind ≠ some .estimate := by decide +kernel

theorem witness_answers :
    (pressed .opened choice (.press 0 1 0 0)).stamper.inHand
      = some ⟨3, 0, .press 0 1 0 0, some (1010, ⟨false, false, false⟩)⟩
    ∧ (pressed .opened choice (.press 0 1 0 0)).ports[(3 : Fin 4)].state = .sweeping
    ∧ (pressed .opened choice (.press 0 1 0 0)).seats[seatOf 3 0].lastPress ≠ some 1
    ∧ (pressed .closing choice (.press 0 1 0 0)).round.state = .closing
    ∧ (1 : Nat) < (headerQuestion (pressed .opened choice (.press 1 1 0 0))).options
    ∧ (headerQuestion (pressed .opened choice (.press 2 1 0 0))).options ≤ (2 : Byte).toNat
    ∧ ((teamed (pressed .opened choice (.press 0 1 0 0))).seats[seatOf 3 0].team = some 3
      ∧ (teamed (pressed .opened choice (.press 0 1 0 0))).teams[(3 : Fin 16)].active = true
      ∧ (headerQuestion (teamed (pressed .opened choice (.press 0 1 0 0)))).eligible.mem 3)
    ∧ (∀ t : Fin 16, (pressed .opened choice (.press 0 1 0 0)).seats[seatOf 3 0].team ≠ some t) := by decide +kernel

theorem witness_estimate :
    (pressed .opened { choice with kind := .estimate } (.digits 9999 1 0 0)).resp.header.kind = some .estimate
    ∧ (teamed (pressed .opened { choice with kind := .estimate } (.digits 9999 1 0 0))).seats[seatOf 3 0].cls = some .digit := by
  decide +kernel

theorem witness_buzzes :
    (pressed .opened buzzer (.press 6 1 0 0)).resp.header.kind = some .buzz
    ∧ (pressed .opened buzzer (.press 6 1 0 0)).round.state = .opened
    ∧ (pressed .opened buzzer (.press 6 1 0 0)).seats[seatOf 3 0].lastPress ≠ some 1
    ∧ (pressed .opened buzzer (.press 6 1 0 0)).buzz.held = false
    ∧ (teamed (pressed .opened buzzer (.press 6 1 0 0))).seats[seatOf 3 0].team = some 3
    ∧ (pressed .idle buzzer (.press 7 1 0 0)).stamper.inHand
      = some ⟨3, 0, .press 7 1 0 0, some (1010, ⟨false, false, false⟩)⟩ := by decide +kernel

theorem witness_walk :
    (walkAt 255 choice).score.walk.walking = true ∧ (walkAt 255 choice).score.walk.position = (255 : Fin 256).val
    ∧ (walkAt 0 choice).resp.header.kind = some .choice ∧ (walkAt 0 buzzer).resp.header.kind = some .buzz
    ∧ (walkAt 0 { choice with kind := .estimate }).resp.header.kind = some .estimate
    ∧ (walkAt 0 { choice with kind := .poll }).resp.header.kind = some .poll
    ∧ (walkAt 0 choice).resp.records[(0 : Fin 256)].state ≠ .answered := by decide +kernel

/-- Sequence 15 valid, its one step 63. -/
def sequenced : State :=
  State.reset.withComp { State.reset.comp with sequences := State.reset.comp.sequences.set 15 ⟨true, 63, 1, false⟩ }

/-- The walk over, one tick after its beginning. -/
def walked : State := (walkAt 256 choice).withNow 1

theorem witness_application :
    walked.score.walk.walking = true ∧ 256 ≤ walked.score.walk.position ∧ 0 < since walked.now walked.score.walk.start
    ∧ walked.round.pendingOpen = none ∧ (∀ k : Fin 256, walked.seats[k].pending = none)
    ∧ (headerQuestion walked).reveal = none := by decide +kernel

/-- The same on a question with result lamps and the reveal of sequence 15, which is valid. -/
theorem witness_application_reveal :
    let s := ((walkAt 256 { choice with resultLamps := true, reveal := some 15 }).withNow 1).withComp sequenced.comp
    s.score.walk.walking = true ∧ 256 ≤ s.score.walk.position ∧ 0 < since s.now s.score.walk.start
    ∧ (headerQuestion s).reveal = some 15 ∧ s.comp.sequences[(15 : Fin 16)].valid = true
    ∧ (63 : Fin 64).val = s.comp.sequences[(15 : Fin 16)].first ∧ (headerQuestion s).resultLamps = true
    ∧ s.resp.header.kind = some .choice := by decide +kernel

/-- The same with a pending open of a question, which is EMPTY or a CHOICE. -/
def walkedPending (q : Question) : State :=
  (withQuestion 127 q walked).withRound { walked.round with pendingOpen := some 127 }

theorem witness_application_pending :
    (walkedPending choice).score.walk.walking = true ∧ 256 ≤ (walkedPending choice).score.walk.position
    ∧ 0 < since (walkedPending choice).now (walkedPending choice).score.walk.start
    ∧ (walkedPending choice).round.pendingOpen = some 127 ∧ (walkedPending choice).questions[(127 : Fin 128)].kind ≠ .empty
    ∧ (walkedPending Question.reset).score.walk.walking = true ∧ 256 ≤ (walkedPending Question.reset).score.walk.position
    ∧ 0 < since (walkedPending Question.reset).now (walkedPending Question.reset).score.walk.start
    ∧ (walkedPending Question.reset).questions[(127 : Fin 128)].kind = .empty := by decide +kernel

theorem revocable (t : State) : ∃ v w, v.score = t.score ∧ v.round.state = .idle ∧ Executing [1, 3, 7] v
    ∧ exec (.actRevoke 1) v = .next w :=
  ⟨decoding [1, 3, 7] (State.reset.withScore t.score), _, rfl, rfl, decoding_executes _ _ rfl, by
    rw [exec, execActRevoke, runAction_executing _ (decoding_executes _ _ rfl) (by decide +kernel)]⟩

theorem witness_revoke : ∃ t v w, TotalsInRange walked ∧ exec .applicationStep walked = .next t ∧ v.score = t.score
    ∧ v.round.state = .idle ∧ Executing [1, 3, 7] v ∧ exec (.actRevoke 1) v = .next w := by
  have due : applicationDue walked = true := by decide +kernel
  obtain ⟨v, w, h⟩ := revocable (settleLinks (applicationStep walked))
  refine ⟨_, v, w, by unfold TotalsInRange; decide +kernel, ?_, h⟩
  rw [exec, execApplicationStep, whenDue, due]; rfl

theorem witness_publication :
    (State.reset.withNow 1).sorter.running = true ∧ 0 < since (State.reset.withNow 1).now (State.reset.withNow 1).sorter.start := by
  decide +kernel

theorem witness_shows :
    (15 : Fin 16).val = (15 : Byte).toNat ∧ sequenced.comp.sequences[(15 : Fin 16)].valid = true
    ∧ (63 : Fin 64).val = sequenced.comp.sequences[(15 : Fin 16)].first
    ∧ (∀ n : Fin 16, n.val = (16 : Byte).toNat → State.reset.comp.sequences[n].valid = false)
    ∧ (∃ v : View, v.code = 6 ∧ v ≠ .teamCard) ∧ View.teamCard.code = 2 :=
  ⟨rfl, by decide +kernel, by decide +kernel, by decide +kernel, ⟨.blank, rfl, by decide⟩, rfl⟩

/-- A player in its last step, and a silent wall with its internal mark due. -/
def lastStep : State :=
  sequenced.withComp { sequenced.comp with player := .active false ⟨15, 63, 1, false, 63, .blank, 0, false, 0, 1⟩ }

def silentWall : State := State.reset.withComp { State.reset.comp with silent := true, silentTimer := none, markTimer := some 0 }

theorem witness_marks :
    ArrivedWhole (arrived [9]) [9] ∧ (63 + 1 ≤ 64 ∧ 63 < 63 + 1) ∧ lastStep.comp.player ≠ .stopped ∧ silentWall.comp.silent = true
    ∧ silentWall.comp.markTimer = some 0 ∧ 0 ≤ since silentWall.now 0 ∧ silentWall.comp.player = .stopped :=
  ⟨arrived_whole _, by decide +kernel⟩

theorem witness_compose :
    ((State.reset.withNow 1).comp.backState = .composing
      ∧ 0 < since (State.reset.withNow 1).now (State.reset.withNow 1).comp.composeStart)
    ∧ ((State.reset.withNow 1600).comp.silent = false ∧ (State.reset.withNow 1600).comp.silentTimer = some 1600
      ∧ 0 ≤ since (State.reset.withNow 1600).now 1600) := by decide +kernel

/-- The player stopped with a resting view that shows no team alone, and a player in a step. -/
theorem witness_composed :
    State.reset.comp.player = .stopped ∧ State.reset.hub.config.resting ≠ .teamCard
    ∧ lastStep.comp.player = .active false ⟨15, 63, 1, false, 63, .blank, 0, false, 0, 1⟩ := by decide +kernel

/-- Both coalescing timers expired. -/
def coalescing (notices : List Notice) : State :=
  State.reset.withHub { State.reset.hub with
    tallyTimer := some 0
    seatTimer := some 0
    seatChanges := [⟨0, ⟨true, false, false, false⟩, .present, none, none, false, 0⟩]
    notices := notices }

/-- An enabled notice of a kind that is not coalesced; a SEAT event for a seat in the list, and for one that is not. -/
theorem witness_events :
    (NoticeBody.cleared).kind ≠ .tally ∧ (NoticeBody.cleared).kind ≠ .seat
    ∧ State.reset.hub.config.enabled.getLsbD (NoticeBody.cleared).kind.code = true
    ∧ State.reset.hub.config.enabled.getLsbD 3 = true ∧ (⟨true, false, false, false⟩ : Causes) ≠ ⟨false, false, false, false⟩
    ∧ (coalescing []).hub.seatChanges = [] ++ ⟨0, ⟨true, false, false, false⟩, .present, none, none, false, 0⟩ :: []
    ∧ (∀ y ∈ (coalescing []).hub.seatChanges, y.seat ≠ 255) ∧ (∀ y ∈ State.reset.hub.seatChanges, y.seat ≠ 255) :=
  ⟨by decide, by decide, by decide +kernel, by decide +kernel, by decide, rfl, by decide +kernel, fun _ h => nomatch h⟩

theorem witness_coalescing :
    (coalescing []).hub.tallyTimer = some 0 ∧ (coalescing []).hub.seatTimer = some 0 ∧ 0 ≤ since (coalescing []).now 0
    ∧ (coalescing [⟨.cleared, 0⟩, ⟨.tally none none State.reset.resp.tallies, 0⟩]).hub.notices
      = [⟨.cleared, 0⟩] ++ ⟨.tally none none State.reset.resp.tallies, 0⟩ :: []
    ∧ (coalescing [⟨.seats [], 0⟩]).hub.notices = [] ++ ⟨.seats [], 0⟩ :: []
    ∧ (mergeChanges [] (coalescing []).hub.seatChanges).length ≤ 16
    ∧ 16 < (mergeChanges ((List.range 16).map fun i =>
        (⟨position (i + 1) |>.castLE (by decide), ⟨true, false, false, false⟩, .present, none, none, false, 0⟩ : SeatChange))
        (coalescing []).hub.seatChanges).length := by decide +kernel

/-- An image of one STEPS section with no records and a wrong check, and one with a right check. -/
def badImage : List Byte := [81, 113, 0, 4, 6, 0, 0, 0, 0, 0]

/-- Images whose section header names no table, runs past the length, passes the table's end, and takes its last index. -/
theorem witness_section :
    (loading badImage).loader.running = true ∧ (loading badImage).loader.fault = false
    ∧ badImage.getD 0 255 = 81 ∧ badImage.getD 1 255 = 113
    ∧ (loading badImage).loader.position < (badImage.getD 2 255).toNat * 256 + (badImage.getD 3 255).toNat
    ∧ ([81, 113, 0, 4, 9, 0, 0, 0] : List Byte).getD 4 255 = 9 ∧ 8 < (9 : Byte).toNat
    ∧ (let next (n : Nat) : Nat := (loading badImage).loader.position + 4 + n * 6
      4 < next 1 ∧ ¬ 10 < next 1 ∧ 64 < 64 + 1 ∧ ¬ 64 < 63 + 1) := by decide +kernel

/-- The same image when its section has been walked. -/
def walkedImage (image : List Byte) : State := (loading image).withLoader { (loading image).loader with position := 4 }

theorem witness_load_end :
    markerFound (loading []).loader.image = false
    ∧ (imageLength (walkedImage badImage).loader.image ≤ (walkedImage badImage).loader.position
      ∧ imageCheckGood badImage = false ∧ (walkedImage badImage).round.state = .idle)
    ∧ imageCheckGood (badImage.take 8 ++ be16 (crc [0, 4, 6, 0, 0, 0]).toNat) = true
    ∧ imageLength (badImage.take 8 ++ be16 (crc [0, 4, 6, 0, 0, 0]).toNat) = 4 := by decide +kernel

/-- A FAILED load that clears the active team 15, its name and seat 255's team, with another resting view. -/
def failing : State :=
  (((walkedImage badImage).withTeams (State.reset.teams.set 15 ⟨true, [65]⟩)).withSeats
    (State.reset.seats.set 255 { Seat.reset with team := some 15 })).withHub
      { State.reset.hub with config := { State.reset.hub.config with resting := .topFive } }

theorem witness_load_failed :
    failing.loader.running = true ∧ markerFound failing.loader.image = true ∧ failing.round.state = .idle
    ∧ imageLength failing.loader.image ≤ failing.loader.position ∧ imageCheckGood failing.loader.image = false
    ∧ failing.teams[(15 : Fin 16)].active = true ∧ (∀ x : Fin 16, x < 15 → failing.teams[x].active = false)
    ∧ failing.teams[(15 : Fin 16)].name ≠ [] ∧ (∀ x : Fin 16, x < 15 → failing.teams[x].name = [])
    ∧ currentView failing = .topFive ∧ failing.comp.player = .stopped ∧ failing.hub.config.resting ≠ .standings
    ∧ failing.seats[(255 : Fin 256)].team ≠ none := by decide +kernel

theorem witness_front_view : ∃ t, exec (.mark (arrived [9])) readyView = .next t ∧ t.comp.front ≠ readyView.comp.front :=
  ⟨_, rfl, by decide +kernel⟩

theorem witness_scores : ∃ s t, exec (.actAdjust 1 15 999) s = .next t ∧ t.score.table ≠ s.score.table :=
  ⟨decoding [1, 3, 8, 15, 3, 231] State.reset, _, rfl, by decide +kernel⟩

/-! ### The laws: a state with a question in play that meets them, and a step from it -/

/-- A question in play, one seat's answer recorded, a team ranked, an hour after reset. -/
def lawful : State :=
  ((((playing .opened choice).withNow 28800000).withRound
      { State.reset.round with state := .opened, current := some 0, window := .running 28900000 }).withResp
    ⟨⟨some 0, some .choice, some 28799000, none, false⟩,
      State.reset.resp.records.set 255 ⟨.answered, some (.option 0), some 28799500, 0, none⟩,
      ⟨State.reset.resp.tallies.counts.set 0 1, 1⟩⟩).withPending [.showTimeTick]

theorem witness_laws_step : ∃ t, step lawful = .next t := ⟨_, rfl⟩

theorem lawful_records : RecordsInRange lawful := by
  refine ⟨?_, by decide +kernel, by decide +kernel, by decide +kernel, by decide +kernel, ?_, by decide +kernel⟩
  · unfold questionInRange; decide +kernel
  · intro i hi
    have : lawful.hub.config.enabled = 0x1FF#16 := rfl
    rw [this]
    rcases Nat.lt_or_ge i 16 with h | h
    · interval_cases i <;> rfl
    · exact BitVec.getLsbD_of_ge _ _ h

theorem lawful_cues : CueNumbersUnique lawful := by
  intro i _ hi
  revert hi
  have : ∀ i : Fin 64, lawful.cues[i].valid = false := by decide +kernel
  rw [this i]; simp

/-- No walk runs in the state. -/
theorem lawful_walk : WalkOnlyCommitting lawful := fun h => nomatch (show (false : Bool) = true from h)

theorem witness_laws_tables : RecordsInRange lawful ∧ CueNumbersUnique lawful ∧ PortsLaw lawful ∧ PresenceLaw lawful := by
  refine ⟨lawful_records, lawful_cues, fun p => ?_, ⟨lawful_walk, fun h => nomatch (show (false : Bool) = true from h)⟩,
    fun k hk => ?_⟩
  · have h : ∀ p : Fin 4, lawful.ports[p] = Port.reset := by decide +kernel
    rw [h p]
    exact ⟨by decide, by decide, by decide, by decide, by decide, by decide, fun sw hs => nomatch hs⟩
  · have : ∀ k : Fin 256, lawful.seats[k].presence = .absent := by decide +kernel
    rw [this k] at hk
    cases hk

theorem witness_laws_floor : FloorLaw lawful ∧ RoundTimersLaw lawful := by
  refine ⟨⟨lawful_walk, by decide +kernel, ?_, List.Pairwise.nil, fun _ h => nomatch h⟩, lawful_walk, fun h => absurd rfl h,
    rfl, _, rfl⟩
  intro h
  exact nomatch (show (false : Bool) = true from h)

theorem witness_laws_queues : RepliesOwed lawful ∧ QueueBounds lawful := by
  refine ⟨⟨rfl, by decide +kernel, by decide +kernel, fun _ => rfl⟩, ?_⟩
  unfold QueueBounds; decide +kernel

theorem witness_laws_scores : TotalsInRange lawful ∧ StandingsLaw lawful := by
  refine ⟨by unfold TotalsInRange; decide +kernel, ?_, ?_, ?_⟩
  · intro e h; exact nomatch (show e ∈ ([] : List Standing) from h)
  · intro h; exact nomatch (show (true : Bool) = false from h)
  · refine fun _ => ⟨?_, fun _ => ⟨List.Pairwise.nil, fun t => ⟨fun h => ?_, ?_⟩⟩⟩
    · intro e h; exact nomatch (show e ∈ ([] : List Standing) from h)
    · revert h; revert t; decide +kernel
    · rintro ⟨e, h, _⟩; exact nomatch (show e ∈ ([] : List Standing) from h)

theorem witness_laws_tallies : lawful.resp.header.kind = some .choice ∧ TalliesMatch lawful := by
  refine ⟨rfl, fun _ => ⟨fun k => ?_, by decide +kernel, by decide +kernel⟩, fun h => nomatch (show some QKind.choice = some .estimate from h)⟩
  have h : ∀ k : Fin 256, (lawful.resp.records[k].state = .answered ∧ lawful.resp.records[k].answer = some (.option 0))
      ∨ (lawful.resp.records[k].state ≠ .answered ∧ lawful.resp.records[k].answer = none) := by decide +kernel
  rcases h k with ⟨a, b⟩ | ⟨a, b⟩
  · exact ⟨fun _ => ⟨0, b⟩, fun _ => a⟩
  · exact ⟨fun c => absurd c a, fun ⟨o, c⟩ => by rw [b] at c; cases c⟩

/-- The same with an ESTIMATE question. -/
def estimating : State :=
  lawful.withResp
    ⟨⟨some 0, some .estimate, some 28799000, none, false⟩,
      State.reset.resp.records.set 255 ⟨.answered, some (.value 9999), some 28799500, 0, none⟩,
      ⟨State.reset.resp.tallies.counts, 1⟩⟩

theorem witness_laws_estimate : estimating.resp.header.kind = some .estimate ∧ TalliesMatch estimating := by
  refine ⟨rfl, fun h => ?_, fun _ => ⟨fun k => ?_, by decide +kernel, by decide +kernel⟩⟩
  · exact h.elim (fun h => nomatch (show some QKind.estimate = some .choice from h))
      fun h => nomatch (show some QKind.estimate = some .poll from h)
  have h : ∀ k : Fin 256,
      (estimating.resp.records[k].state = .answered ∧ estimating.resp.records[k].answer = some (.value 9999))
      ∨ (estimating.resp.records[k].state ≠ .answered ∧ estimating.resp.records[k].answer = none) := by decide +kernel
  rcases h k with ⟨a, b⟩ | ⟨a, b⟩
  · exact ⟨fun _ => ⟨9999, b⟩, fun _ => a⟩
  · exact ⟨fun c => absurd c a, fun ⟨o, c⟩ => by rw [b] at c; cases c⟩

/-- The player in the step of a sequence that ends at step 63. -/
def showing : State := lawful.withComp lastStep.comp

theorem witness_laws_player :
    PlayerLaw lawful ∧ ∀ ended p, showing.comp.player = .active ended p → p.first + p.count ≤ 64 ∧ p.first ≤ p.step ∧ p.step < p.first + p.count := by
  refine ⟨⟨lawful_records, fun ended p h => ?_⟩, fun ended p h => ?_⟩
  · exact nomatch (show Player.stopped = .active ended p from h)
  · cases (show Player.active false ⟨15, 63, 1, false, 63, .blank, 0, false, 0, 1⟩ = .active ended p from h)
    decide

/-- The lawful state, decoding any payload, for the records of which the write-back is stated. -/
theorem witness_write_back (payload : List Byte) :
    RecordsInRange (decoding payload lawful) ∧ PortsLaw (decoding payload lawful) ∧ CueNumbersUnique (decoding payload lawful)
    ∧ Executing payload (decoding payload lawful)
    ∧ ¬ ((decoding payload lawful).resp.header.question = some 127 ∧ (decoding payload lawful).round.state ≠ .idle) :=
  ⟨lawful_records, witness_laws_tables.2.2.1, lawful_cues, decoding_executes _ _ rfl,
    fun h => nomatch (show (some 0 : Option (Fin 128)) = some 127 from h.1)⟩

end Sys2Proof.Tests
end

section
/-! SUPPORT. What a command can come to: the work of one owner, or none, and then quiet movements of the links and of the Hub
Agent. Each law is then proved over the works and not over the commands. -/

namespace Sys2Proof.Machine

/-! ## Frames -/

theorem Block.same_refl (b : Block) (s : State) : b.same s s := by cases b <;> simp [Block.same]

theorem Block.same_trans {b : Block} {s u v : State} (h : b.same s u) (g : b.same u v) : b.same s v := by
  cases b <;> simp_all [Block.same]

theorem Keeps.refl (bs : List Block) (s : State) : Keeps bs s s := fun b _ => b.same_refl s

theorem Keeps.trans {bs : List Block} {s u v : State} (h : Keeps bs s u) (g : Keeps bs u v) : Keeps bs s v :=
  fun b hb => Block.same_trans (h b hb) (g b hb)

theorem Keeps.mono {bs cs : List Block} {s u : State} (h : Keeps bs s u) (sub : ∀ b ∈ bs, b ∈ cs) : Keeps cs s u :=
  fun b hb => h b fun hb' => hb (sub b hb')

/-- The pieces of state that the links, the clock and the Hub Agent's queues move in: no table, port, seat or round is among
them. -/
def quietBlocks : List Block :=
  [.now, .passing, .replies, .reports, .scoreOut, .sending, .receivers, .linkFlags, .agent, .notices, .noticeLost, .tally,
    .seatList, .pending]

/-- Only quiet pieces of state differ. -/
abbrev Quiet (s u : State) : Prop := Keeps quietBlocks s u

theorem settleLinks_quiet (s : State) : Quiet s (settleLinks s) := by
  intro b hb; cases b <;> simp [quietBlocks, Block.same] at hb ⊢

theorem placeReply_quiet (payload : List Byte) (st : Status) (body : List Byte) (s : State) :
    Quiet s (placeReply payload st body s) := by
  intro b hb; cases b <;> simp [quietBlocks, Block.same] at hb ⊢

theorem nextRequest_quiet (s : State) : Quiet s (nextRequest s) := by
  intro b hb; cases b <;> simp [quietBlocks, Block.same] at hb ⊢

/-- The end of every executed request: its REPLY, the next request, and the arbiters. -/
theorem replied_quiet (payload : List Byte) (st : Status) (body : List Byte) (s : State) :
    Quiet s (settleLinks (nextRequest (placeReply payload st body s))) :=
  ((placeReply_quiet payload st body s).trans (nextRequest_quiet _)).trans (settleLinks_quiet _)

theorem withLink_quiet (s : State) (x : LinkSwitch) : Quiet s (s.withLink x) := by
  intro b hb; cases b <;> simp [quietBlocks, Block.same] at hb ⊢

theorem withFree_quiet (s : State) (x : Nat) : Quiet s (s.withFree x) := by
  intro b hb; cases b <;> simp [quietBlocks, Block.same] at hb ⊢

theorem withHub_quiet (s : State) (x : Hub) (h : x.config = s.hub.config) : Quiet s (s.withHub x) := by
  intro b hb; cases b <;> simp [quietBlocks, Block.same, h] at hb ⊢

theorem receiveOn_quiet (link : Link) (start : Time) (bytes : List Heard) (broken : Bool) (s : State) :
    Quiet s (receiveOn link start bytes broken s) := by
  cases link <;> exact withLink_quiet _ _

theorem discardFrame_quiet (link : Link) (start : Time) (bytes : List Heard) (broken : Bool) (s : State) :
    Quiet s (discardFrame link start bytes broken s) :=
  (withLink_quiet s _).trans (receiveOn_quiet link start bytes broken _)

theorem offerPass_quiet (f : Frame) (s : State) : Quiet s (offerPass f s) := by
  unfold offerPass; split <;> exact withLink_quiet _ _

theorem wallChoose_quiet (s : State) : Quiet s (wallChoose s) := by
  intro b hb
  obtain ⟨h1, h2, h3, h4⟩ := wallChoose_console s
  cases b <;> simp [quietBlocks, Block.same] at hb ⊢

theorem raiseNotice_quiet (b : NoticeBody) (s : State) : Quiet s (raiseNotice b s) := by
  intro b hb; cases b <;> simp [quietBlocks, Block.same] at hb ⊢

theorem buildTally_quiet (s : State) : Quiet s (buildTally s) := by
  intro b hb; cases b <;> simp [quietBlocks, Block.same] at hb ⊢

theorem buildSeat_quiet (s : State) : Quiet s (buildSeat s) := by
  intro b hb; cases b <;> simp [quietBlocks, Block.same] at hb ⊢

theorem withPending_quiet (s : State) (q : List Instr) : Quiet s (s.withPending q) := by
  intro b hb; cases b <;> simp [quietBlocks, Block.same, State.withPending] at hb ⊢

theorem takeRequest_quiet (payload : List Byte) (s : State) : Quiet s (takeRequest payload s) := by
  have queued : ∀ t : State, Quiet t (handOn.queueRequest payload t) := by
    intro t
    unfold handOn.queueRequest
    split
    · exact withHub_quiet t _ rfl
    · exact placeReply_quiet _ _ _ _
  have handed : ∀ t : State, Quiet t (handOn payload t) := by
    intro t
    unfold handOn
    split
    · exact withHub_quiet t _ rfl
    · exact queued t
    · exact queued t
  unfold takeRequest
  split
  · exact withLink_quiet _ _
  · exact (withLink_quiet s _).trans (handed _)

theorem takeReport_quiet (payload : List Byte) (s : State) : Quiet s (takeReport payload s) := by
  unfold takeReport; split <;> exact withLink_quiet _ _

theorem endWallFrame_quiet (t : WallTx) (s : State) : Quiet s (endWallFrame t s) := by
  unfold endWallFrame startFill
  cases t.rest <;> exact (withLink_quiet s _).trans (withLink_quiet _ _)

theorem clearLatched_quiet (s : State) : Quiet s (clearLatched s) :=
  (withLink_quiet s _).trans (withHub_quiet _ _ rfl)

theorem restartTaken_quiet (tag : Byte) (s : State) : Quiet s (restartTaken tag s) :=
  (placeReply_quiet [tag, 8] .ok [] s).trans (withHub_quiet _ _ rfl)

/-! ## Works -/

/-- The works of the Row Port Controllers and of the Press Stamper (chapters 3 and 4). -/
inductive PortWork (s : State) : State → Prop
  | starts (p : Fin 4) (idle : s.loader.running = false) : PortWork s (startPort p s).1
  | stops (p : Fin 4) (idle : s.loader.running = false) : PortWork s (stopPort true p s)
  | rollCalls (p : Fin 4) (idle : s.loader.running = false) : PortWork s (rollCall p s).1
  | wakes (p : Fin 4) (due : wakeDue p s = true) : PortWork s (enterSweeping p s)
  | sweeps (p : Fin 4) (due : sweepStartDue p s = true) : PortWork s (startSweep p s)
  | sweepEnds (p : Fin 4) (sw : Sweep) (runs : s.ports[p].sweep = some sw) : PortWork s (endSweep p sw s)
  | receives (p : Fin 4) (start last : Time) (bytes : List Byte) :
    PortWork s (s.setPort p (s.ports[p].receive start last bytes s.now))
  | breaks (p : Fin 4) (line : HeldLine) (due : s.ports[p].breakDue line.active s.now = true) :
    PortWork s (beginBreak p line.idle s)
  | lineChanges (p : Fin 4) (active : Bool) : PortWork s (lineChanged p active s)
  | breakEnds (p : Fin 4) (due : s.ports[p].state = .broken) : PortWork s (endBreak p s)
  | takesEntry (p : Fin 4) : PortWork s (takeEntry p s)

/-- The works of the Round Engine, the Buzz Arbiter and the press path, and the application step (chapters 1, 2, 5, 6, 7). -/
inductive RoundWork (s : State) : State → Prop
  | opens (q : Option (Fin 128)) (idle : s.loader.running = false) : RoundWork s (openChosen q s).1
  | closes (idle : s.loader.running = false) : RoundWork s (closeAction s).1
  | commits (idle : s.loader.running = false) : RoundWork s (commitAction s).1
  | cancels (idle : s.loader.running = false) : RoundWork s (cancelAction s).1
  | judges (team verdict : Byte) (idle : s.loader.running = false) : RoundWork s (judgeAction team verdict s).1
  | windowExpires (due : windowDue s = true) : RoundWork s (closeAnswering s)
  | settles (due : settleDue s = true) : RoundWork s (settleExpires s)
  | headSettles : RoundWork s (grantTest s)
  | answerExpires (due : answerDue s = true) : RoundWork s (answerTimeout s)
  | applies (due : applicationDue s = true) : RoundWork s (applicationStep s)
  | handsOff (f : Stamped) (held : s.stamper.inHand = some f) : RoundWork s (handOff f s)

/-- The other works of the Score Unit and of the Sorter (chapter 7). -/
inductive ScoreWork (s : State) : State → Prop
  | revokes : ScoreWork s (revokeAction s).1
  | adjusts (team : Byte) (delta : Int) : ScoreWork s (adjustAction team delta s).1
  | clears : ScoreWork s (clearScoresAction s).1
  | visits (k : Fin 256) : ScoreWork s (visitSeat k s)
  | publishes : ScoreWork s (publish s)

/-- The works of the Scoreboard Composer (chapter 8). -/
inductive CompWork (s : State) : State → Prop
  | reveals (n : Byte) : CompWork s (revealAction n s).1
  | stops : CompWork s (stopSequence s).1
  | freezes : CompWork s (freezeAction s).1
  | thaws : CompWork s (thawAction s).1
  | curtainOn : CompWork s (curtainOnAction s).1
  | curtainOff : CompWork s (curtainOffAction s).1
  | rests (v : Byte) : CompWork s (restingAction v s).1
  | marks (refresh : Byte) : CompWork s (takeMark refresh s)
  | marksItself : CompWork s (takeInternalMark s)
  | composed : CompWork s (endCompose s)
  | fallsSilent : CompWork s (wallFallsSilent s)

/-- The works on the tables, and those of the Preset Loader (10.2, chapter 11). -/
inductive TableWork (s : State) : State → Prop
  | writes (t : Table) (i : Nat) (records : List (List Byte)) : TableWork s (recordOutcomes t i records s).2
  | reads (t : Table) (first returned : Nat) : TableWork s (clearReadFlags t first returned s)
  | walksSection : TableWork s (walkSection s)
  | loadEnds (r : LoadResult) (due : loadResult s = some r) : TableWork s (endLoad r s)
  | reloads (flash : List Byte) : TableWork s (reloadAction flash s).1

/-- What a command can do before the links settle: the work of one owner, a reset, or nothing. -/
inductive Work (s : State) : State → Prop
  | nothing : Work s s
  | hardReset (strap : Bool) (flash : List Byte) : Work s (hardReset strap flash s)
  | warmRestart : Work s (warmRestart s)
  | port {u : State} (h : PortWork s u) : Work s u
  | round {u : State} (h : RoundWork s u) : Work s u
  | score {u : State} (h : ScoreWork s u) : Work s u
  | comp {u : State} (h : CompWork s u) : Work s u
  | table {u : State} (h : TableWork s u) : Work s u

/-- A work, and then quiet movements. -/
def Leads (s t : State) : Prop := ∃ u, Work s u ∧ Quiet u t

theorem Leads.quiet {s t : State} (h : Quiet s t) : Leads s t := ⟨s, .nothing, h⟩

theorem Leads.stay (s : State) : Leads s s := .quiet (.refl _ s)

theorem Leads.trans_quiet {s u t : State} (h : Leads s u) (g : Quiet u t) : Leads s t := by
  obtain ⟨v, hw, hq⟩ := h; exact ⟨v, hw, hq.trans g⟩

/-! ## What the outcomes of a command lead to -/

theorem leads_of_finish {s u t : State} (h : finish u = .next t) (g : Leads s u) : Leads s t := by
  cases h; exact g.trans_quiet (settleLinks_quiet u)

theorem leads_of_whenDue {due : Bool} {event : State → State} {s t : State} (h : whenDue due event s = .next t)
    (g : due = true → Leads s (event s)) : Leads s t := by
  unfold whenDue at h
  split at h
  · exact leads_of_finish h (g ‹_›)
  · cases h; exact .stay _

/-- A request's execution: its REPLY is quiet, and so is a refusal of the Hub Agent's own. -/
theorem leads_of_executeRequest {payload : List Byte} {execute : State → Executed} {s t : State}
    (h : executeRequest payload execute s = .next t)
    (g : s.loader.running = false ∨ u8 payload 1 = 6 → Leads s (execute s).state) : Leads s t := by
  unfold executeRequest at h
  split at h
  · cases h
    refine Leads.trans_quiet ?_ (replied_quiet payload _ _ _)
    unfold checkedExecution
    split
    · exact .quiet (withFree_quiet _ _)
    · rename_i hr
      split
      · refine g ?_
        cases hl : s.loader.running with
        | false => exact .inl rfl
        | true => right; simpa [hl] using hr
      · exact .stay _
  · cases h; exact .stay _

theorem leads_of_runAction {payload : List Byte} {act : State → State × Status} {s t : State}
    (h : runAction payload act s = .next t) (kind : u8 payload 1 ≠ 6)
    (g : s.loader.running = false → Work s (act s).1) : Leads s t :=
  leads_of_executeRequest h fun idle => ⟨_, g (idle.resolve_right kind), .refl _ _⟩

theorem leads_of_runRead {table : Table} {tag first count : Byte} {s t : State}
    (h : runRead table tag first count s = .next t) : Leads s t := by
  refine leads_of_executeRequest h fun _ => ?_
  unfold executeRead
  split
  · exact .quiet (withFree_quiet _ _)
  · exact ⟨_, .table (.reads table first.toNat _), withFree_quiet _ _⟩

theorem leads_of_runWrite {table : Table} {tag first : Byte} {records : List Byte} {s t : State}
    (h : runWrite table tag first records s = .next t) : Leads s t := by
  refine leads_of_executeRequest h fun _ => ?_
  unfold executeWrite
  simp only []
  split
  · exact .quiet (withFree_quiet _ _)
  · rw [writeRecords_outcomes]
    exact ⟨_, .table (.writes table first.toNat _), withFree_quiet _ _⟩

/-- A frame of a link: taken, and then its receiver goes on, or discarded. -/
theorem leads_of_takeGood {link : Link} {cls : Byte} {a : Arrival} {take : List Byte → State → State} {s t : State}
    (h : takeGood link cls a take s = .next t) (g : ∀ payload, Leads s (take payload s)) : Leads s t := by
  unfold takeGood at h
  split at h
  · exact leads_of_finish h ((g _).trans_quiet (receiveOn_quiet _ _ _ _ _))
  · exact leads_of_finish h (.quiet (discardFrame_quiet _ _ _ _ _))

/-- The action of a cue is the work of its owner. -/
theorem cueAction_work (c : CueAction) (x : Byte) (s : State) (idle : s.loader.running = false) :
    Work s (cueAction c x s).1 := by
  cases c with
  | openQuestion => exact .round (.opens _ idle)
  | next => exact .round (.opens _ idle)
  | close => exact .round (.closes idle)
  | commit => exact .round (.commits idle)
  | cancel => exact .round (.cancels idle)
  | reveal => exact .comp (.reveals x)
  | stopSequence => exact .comp .stops
  | freeze => exact .comp .freezes
  | thaw => exact .comp .thaws
  | curtainOn => exact .comp .curtainOn
  | curtainOff => exact .comp .curtainOff

theorem runCue_leads (c : CueEntry) (s : State) : Leads s (runCue c s) := by
  unfold runCue
  split
  · exact .quiet (raiseNotice_quiet _ _)
  · rename_i hr
    have act : Leads s (cueAction c.action c.argument s).1 :=
      ⟨_, cueAction_work _ _ s (by simpa using hr), .refl _ _⟩
    simp only []
    split
    · exact act.trans_quiet (raiseNotice_quiet _ _)
    · exact act

theorem takeCue_leads (payload : List Byte) (s : State) : Leads s (takeCue payload s) := by
  unfold takeCue
  split
  · exact .quiet (offerPass_quiet _ _)
  · split
    · exact runCue_leads _ s
    · exact (runCue_leads _ s).trans_quiet ((wallChoose_quiet _).trans (offerPass_quiet _ _))

theorem leads_of_onPort {port : Byte} {act : Fin 4 → State × Status} {s : State} (g : ∀ p, Work s (act p).1) :
    Work s (onPort port act s).1 := by
  unfold onPort
  split
  · exact g _
  · exact .nothing

/-- Every command comes to the work of one owner, or none, and then to quiet movements. -/
theorem exec_leads (c : Instr) (s t : State) (h : exec c s = .next t) : Leads s t := by
  cases c with
  | hardReset strap flash => cases h; exact ⟨_, .hardReset strap flash, .refl _ _⟩
  | warmRestart => exact leads_of_whenDue h fun _ => ⟨_, .warmRestart, .refl _ _⟩
  | showTimeTick =>
    cases h
    exact .quiet fun b hb => by cases b <;> simp [quietBlocks, Block.same] at hb ⊢
  | linkFrameDiscarded link start bytes => exact leads_of_whenDue h fun _ => .quiet (discardFrame_quiet _ _ _ _ _)
  | pass frame =>
    simp only [exec, execPass] at h
    exact leads_of_takeGood h fun _ => .quiet (offerPass_quiet _ _)
  | cue frame => exact leads_of_takeGood h fun payload => takeCue_leads payload s
  | hubRequest frame => exact leads_of_takeGood h fun _ => .quiet (takeRequest_quiet _ _)
  | mark frame =>
    simp only [exec, execMark] at h
    exact leads_of_takeGood h fun _ => ⟨_, .comp (.marks _), .refl _ _⟩
  | report frame => exact leads_of_takeGood h fun _ => .quiet (takeReport_quiet _ _)
  | wallFrameEnd =>
    simp only [exec, execWallFrameEnd] at h
    split at h
    · exact leads_of_finish h (.quiet (endWallFrame_quiet _ _))
    · cases h; exact .stay _
  | idleFillExpiry => exact leads_of_whenDue h fun _ => .quiet (withLink_quiet _ _)
  | consoleFrameEnd =>
    refine leads_of_whenDue h fun _ => ?_
    unfold endConsoleFrame
    split
    · exact ⟨_, .warmRestart, .refl _ _⟩
    · exact .quiet (withLink_quiet _ _)
  | requestMalformed payload =>
    simp only [exec, execRequestMalformed] at h
    split at h
    · split at h
      · cases h; exact .quiet (replied_quiet _ _ _ _)
      · split at h
        · cases h; exact .stay _
        · exact leads_of_executeRequest h fun _ => .stay _
    · cases h; exact .stay _
  | readUnknownTable tag table first count =>
    simp only [exec, execReadUnknownTable] at h
    split at h
    · cases h; exact .stay _
    · exact leads_of_executeRequest h fun _ => .quiet (withFree_quiet _ _)
  | writeReadOnlyTable tag table first records =>
    simp only [exec, execWriteReadOnlyTable] at h
    split at h
    · exact leads_of_executeRequest h fun _ => .quiet (withFree_quiet _ _)
    · cases h; exact .stay _
  | readSeats | readTeams | readQuestions | readCues | readSequences | readSteps | readPortcfg | readConfig | readResponses
  | readBuzzq | readJudged | readScores | readStandings | readCommit | readPortstat => exact leads_of_runRead h
  | writeSeats | writeTeams | writeQuestions | writeCues | writeSequences | writeSteps | writePortcfg | writeConfig =>
    exact leads_of_runWrite h
  | actOpen tag question => exact leads_of_runAction h (by simp [u8]) fun idle => .round (.opens _ idle)
  | actNext tag => exact leads_of_runAction h (by simp [u8]) fun idle => .round (.opens _ idle)
  | actClose tag => exact leads_of_runAction h (by simp [u8]) fun idle => .round (.closes idle)
  | actCommit tag => exact leads_of_runAction h (by simp [u8]) fun idle => .round (.commits idle)
  | actCancel tag => exact leads_of_runAction h (by simp [u8]) fun idle => .round (.cancels idle)
  | actJudge tag team verdict => exact leads_of_runAction h (by simp [u8]) fun idle => .round (.judges _ _ idle)
  | actRevoke tag => exact leads_of_runAction h (by simp [u8]) fun _ => .score .revokes
  | actAdjust tag team delta => exact leads_of_runAction h (by simp [u8]) fun _ => .score (.adjusts _ _)
  | actClearScores tag => exact leads_of_runAction h (by simp [u8]) fun _ => .score .clears
  | portStart tag port =>
    exact leads_of_runAction h (by simp [u8]) fun idle => leads_of_onPort fun p => .port (.starts p idle)
  | portStop tag port =>
    exact leads_of_runAction h (by simp [u8]) fun idle => leads_of_onPort fun p => .port (.stops p idle)
  | portRollCall tag port =>
    exact leads_of_runAction h (by simp [u8]) fun idle => leads_of_onPort fun p => .port (.rollCalls p idle)
  | showReveal tag sequence => exact leads_of_runAction h (by simp [u8]) fun _ => .comp (.reveals _)
  | showStopSequence tag => exact leads_of_runAction h (by simp [u8]) fun _ => .comp .stops
  | showFreeze tag => exact leads_of_runAction h (by simp [u8]) fun _ => .comp .freezes
  | showThaw tag => exact leads_of_runAction h (by simp [u8]) fun _ => .comp .thaws
  | showCurtainOn tag => exact leads_of_runAction h (by simp [u8]) fun _ => .comp .curtainOn
  | showCurtainOff tag => exact leads_of_runAction h (by simp [u8]) fun _ => .comp .curtainOff
  | showResting tag view => exact leads_of_runAction h (by simp [u8]) fun _ => .comp (.rests _)
  | status tag => exact leads_of_executeRequest h fun _ => .quiet (clearLatched_quiet s)
  | reload tag flash => exact leads_of_runAction h (by simp [u8]) fun _ => .table (.reloads flash)
  | restart tag =>
    simp only [exec, execRestart] at h
    split at h
    · split at h
      · cases h; exact .quiet (replied_quiet _ _ _ _)
      · exact leads_of_finish h (.quiet (restartTaken_quiet tag s))
    · cases h; exact .stay _
  | wakeTimerExpiry p => exact leads_of_whenDue h fun due => ⟨_, .port (.wakes p due), .refl _ _⟩
  | sweepStart p => exact leads_of_whenDue h fun due => ⟨_, .port (.sweeps p due), .refl _ _⟩
  | sweepEnd p =>
    simp only [exec, execSweepEnd] at h
    split at h
    · rename_i sw runs
      exact leads_of_whenDue h fun _ => ⟨_, .port (.sweepEnds p sw runs), .refl _ _⟩
    · cases h; exact .stay _
  | handsetFrameReceived p start last bytes =>
    exact leads_of_finish h ⟨_, .port (.receives p start last bytes), .refl _ _⟩
  | breakBegin p line => exact leads_of_whenDue h fun due => ⟨_, .port (.breaks p line due), .refl _ _⟩
  | lineIdleChange p active => exact leads_of_whenDue h fun _ => ⟨_, .port (.lineChanges p active), .refl _ _⟩
  | breakEnd p =>
    refine leads_of_whenDue h fun due => ⟨_, .port (.breakEnds p ?_), .refl _ _⟩
    simp only [Bool.and_eq_true, beq_iff_eq] at due
    exact due.1
  | inboxTake =>
    simp only [exec, execInboxTake] at h
    split at h
    · exact leads_of_finish h ⟨_, .port (.takesEntry _), .refl _ _⟩
    · cases h; exact .stay _
    · cases h; exact .stay _
  | frameHandoff =>
    simp only [exec, execFrameHandoff] at h
    split at h
    · exact leads_of_finish h ⟨_, .round (.handsOff _ ‹_›), .refl _ _⟩
    · cases h; exact .stay _
  | windowExpiry => exact leads_of_whenDue h fun due => ⟨_, .round (.windowExpires due), .refl _ _⟩
  | settleExpiry => exact leads_of_whenDue h fun due => ⟨_, .round (.settles due), .refl _ _⟩
  | headSettleExpiry => exact leads_of_whenDue h fun _ => ⟨_, .round .headSettles, .refl _ _⟩
  | answerTimerExpiry => exact leads_of_whenDue h fun due => ⟨_, .round (.answerExpires due), .refl _ _⟩
  | applicationStep => exact leads_of_whenDue h fun due => ⟨_, .round (.applies due), .refl _ _⟩
  | publicationStep => exact leads_of_whenDue h fun _ => ⟨_, .score .publishes, .refl _ _⟩
  | composeEnd => exact leads_of_whenDue h fun _ => ⟨_, .comp .composed, .refl _ _⟩
  | wallSilentExpiry => exact leads_of_whenDue h fun _ => ⟨_, .comp .fallsSilent, .refl _ _⟩
  | internalMark => exact leads_of_whenDue h fun _ => ⟨_, .comp .marksItself, .refl _ _⟩
  | tallyTimerExpiry => exact leads_of_whenDue h fun _ => .quiet (buildTally_quiet s)
  | seatTimerExpiry => exact leads_of_whenDue h fun _ => .quiet (buildSeat_quiet s)
  | presetSection => exact leads_of_whenDue h fun _ => ⟨_, .table .walksSection, .refl _ _⟩
  | loadEnd =>
    simp only [exec, execLoadEnd] at h
    split at h
    · exact leads_of_finish h ⟨_, .table (.loadEnds _ ‹_›), .refl _ _⟩
    · cases h; exact .stay _
  | walkSeatVisit =>
    simp only [exec, execWalkSeatVisit] at h
    split at h
    · exact leads_of_finish h ⟨_, .score (.visits _), .refl _ _⟩
    · cases h; exact .stay _

/-- A law that quiet movements and every work keep is kept by every step. -/
theorem step_keeps {P : State → Prop} (quiet : ∀ s u, Quiet s u → P s → P u) (work : ∀ s u, Work s u → P s → P u)
    {s t : State} (h : step s = .next t) (hs : P s) : P t := by
  unfold step at h
  split at h
  · cases h; exact hs
  · obtain ⟨u, hw, hq⟩ := exec_leads _ _ t h
    exact quiet u t hq (work _ u hw (quiet s _ (withPending_quiet s _) hs))

end Sys2Proof.Machine
end

section
/-! SUPPORT. What the works of each owner leave unchanged, as a whole and not operation by operation. -/

namespace Sys2Proof.Machine

/-! ## Runs of written records -/

/-- What every record outcome keeps a run of records keeps. -/
theorem recordOutcomes_invariant (t : Table) (P : State → Prop)
    (h : ∀ i r s, P s → P (writeRecord t i r s).1) :
    ∀ (rs : List (List Byte)) (i : Nat) (s : State), P s → P (recordOutcomes t i rs s).2
  | [], _, _, hs => hs
  | r :: rs, i, s, hs => recordOutcomes_invariant t P h rs (i + 1) _ (h i r s hs)

/-- A section walked is a run of records, or none, and a move of the loader that does not end the load (R173). -/
theorem walkSection_cases (s : State) :
    ∃ u : State, walkSection s = u.withLoader (walkSection s).loader ∧ (walkSection s).loader.running = s.loader.running
      ∧ (u = s ∨ ∃ t i rs, u = (recordOutcomes t i rs s).2) := by
  unfold walkSection
  split
  · exact ⟨s, rfl, rfl, .inl rfl⟩
  · rename_i t first count _
    unfold applySection
    split
    · exact ⟨s, rfl, rfl, .inl rfl⟩
    · simp only [writeRecords_outcomes]
      refine ⟨(recordOutcomes t first _ s).2, rfl, ?_, .inr ⟨t, first, _, rfl⟩⟩
      simp only [withLoader_loader, (recordOutcomes_keeps _ _ _ s).2.2.2.2]

/-! ## The ends of a load -/

theorem resetTables_round (s : State) :
    (resetTables s).round = s.round ∧ (resetTables s).buzz = s.buzz ∧ (resetTables s).score = s.score
      ∧ (resetTables s).loader = s.loader := by
  have seats := foldl_keeps (fun s k => assignTeam k none s) (fun s => (s.round, s.buzz, s.score, s.loader))
    (by intro s k; simp) (List.finRange 256)
  have teams := foldl_keeps (fun s t => storeTeam t Team.reset s) (fun s => (s.round, s.buzz, s.score, s.loader))
    (by intro s k; simp) (List.finRange 16)
  have h := (teams _).trans (seats s)
  simp only [Prod.mk.injEq] at h
  simpa [resetTables] using h

theorem autostart_same (s : State) :
    (autostart s).round = s.round ∧ (autostart s).buzz = s.buzz ∧ (autostart s).score = s.score
      ∧ (autostart s).seats = s.seats ∧ (autostart s).teams = s.teams ∧ (autostart s).questions = s.questions
      ∧ (autostart s).cues = s.cues ∧ (autostart s).comp = s.comp ∧ (autostart s).hub = s.hub
      ∧ (autostart s).loader = s.loader := by
  have h := foldl_keeps (fun (s : State) (p : Fin 4) => if s.ports[p].cfg.autostart = true then (startPort p s).1 else s)
    (fun s => (s.round, s.buzz, s.score, s.seats, s.teams, s.questions, s.cues, s.comp, s.hub, s.loader))
    (by intro s p; split <;> simp) (List.finRange 4) s
  simpa only [autostart, Prod.mk.injEq] using h

/-! ## Works and the round -/

theorem PortWork.keeps_round {s u : State} (h : PortWork s u) :
    u.round = s.round ∧ u.buzz = s.buzz ∧ u.score = s.score := by
  cases h <;> simp

theorem CompWork.keeps_round {s u : State} (h : CompWork s u) :
    u.round = s.round ∧ u.buzz = s.buzz ∧ u.score = s.score := by
  cases h <;> simp

theorem recordOutcomes_round (t : Table) (i : Nat) (rs : List (List Byte)) (s : State) :
    (recordOutcomes t i rs s).2.round = s.round ∧ (recordOutcomes t i rs s).2.buzz = s.buzz
      ∧ (recordOutcomes t i rs s).2.score = s.score :=
  recordOutcomes_invariant t (fun u => u.round = s.round ∧ u.buzz = s.buzz ∧ u.score = s.score)
    (fun i r u h => by simpa using h) rs i s ⟨rfl, rfl, rfl⟩

theorem TableWork.keeps_round {s u : State} (h : TableWork s u) :
    u.round = s.round ∧ u.buzz = s.buzz ∧ u.score = s.score := by
  cases h with
  | writes t i records => exact recordOutcomes_round t i records s
  | reads t first returned => simp
  | walksSection =>
    obtain ⟨u, e, -, rfl | ⟨t, i, rs, rfl⟩⟩ := walkSection_cases s
    · rw [e]; exact ⟨rfl, rfl, rfl⟩
    · rw [e]; exact recordOutcomes_round t i rs s
  | loadEnds r due =>
    have h := resetTables_round (s.withLoader { s.loader with result := r, refused := s.loader.count })
    have g := autostart_same (s.withLoader { s.loader with result := r, refused := s.loader.count })
    cases r <;> simp [endLoad, loadAction, h, g]
  | reloads flash => unfold reloadAction; split <;> exact ⟨rfl, rfl, rfl⟩

/-- R109: a walk runs on through the other works of the Score Unit. -/
theorem ScoreWork.keeps_round {s u : State} (h : ScoreWork s u) :
    u.round = s.round ∧ u.buzz = s.buzz ∧ u.score.walk.walking = s.score.walk.walking := by
  cases h with
  | revokes => simp only [revokeAction]; (repeat' split) <;> simp [revoke]
  | adjusts team delta => simp only [adjustAction]; split <;> simp
  | clears => simp only [clearScoresAction]; split <;> simp
  | visits k => simp only [visitSeat]; cases summedTeam s k <;> simp [Walk.add]
  | publishes => simp

theorem Quiet.keeps_round {s u : State} (h : Quiet s u) : u.round = s.round ∧ u.buzz = s.buzz ∧ u.score = s.score :=
  ⟨h .round (by decide), h .buzz (by decide), h .score (by decide)⟩

/-! ## The press path -/

/-- What becomes of a frame handed off (R32, R23): it is discarded, or its seat is heard on a SWEEPING port, and a press may then be
routed. -/
theorem handOff_cases (f : Stamped) (s : State) :
    handOff f s = stamperEmptied s ∨ (s.ports[f.port].state = .sweeping ∧ ∃ a,
      ((∃ cls battery, a = takeHello (seatOf f.port f.position) cls battery (stamperEmptied s))
        ∨ ∃ n, a = pressHeard (seatOf f.port f.position) n (stamperEmptied s))
      ∧ (handOff f s = a
        ∨ (∃ team key time marks, handOff f s = routeKey (seatOf f.port f.position) team key time marks a)
        ∨ ∃ team v time marks, handOff f s = routeDigits (seatOf f.port f.position) team v time marks a)) := by
  by_cases h : s.ports[f.port].state = .sweeping
  · obtain ⟨p, pos, frame, stamp⟩ := f
    have dropped : ∀ frame, handOff ⟨p, pos, frame, none⟩ s =
        takeFrame ⟨p, pos, frame, none⟩ (stamperEmptied s) := fun _ => rfl
    match frame, stamp with
    | .hello cls battery, stamp =>
      exact .inr ⟨h, _, .inl ⟨cls, battery, rfl⟩, .inl (handOff_hello p pos cls battery stamp s h)⟩
    | .press key n r o, some (time, marks) =>
      refine .inr ⟨h, _, .inr ⟨n, rfl⟩, ?_⟩
      rw [handOff_press p pos key n r o time marks s h]
      split
      · exact .inl rfl
      · exact .inr (.inl ⟨_, _, _, _, rfl⟩)
    | .digits v n r o, some (time, marks) =>
      refine .inr ⟨h, _, .inr ⟨n, rfl⟩, ?_⟩
      rw [handOff_digits p pos v n r o time marks s h]
      split
      · exact .inl rfl
      · exact .inr (.inr ⟨_, _, _, _, rfl⟩)
    | .press key n r o, none => exact .inl ((dropped _).trans (if_neg (not_not.mpr h)))
    | .digits v n r o, none => exact .inl ((dropped _).trans (if_neg (not_not.mpr h)))
  · exact .inl (handOff_stopped f s h)

/-- A press goes to the Buzz Arbiter while answers are collected or the floor is held, or the round, the race and the score stay
(R23). -/
theorem routeKey_cases (k : Fin 256) (team : Option (Fin 16)) (key : Byte) (time : Time) (marks : Marks) (s : State) :
    (routeKey k team key time marks s).round = s.round ∧ (routeKey k team key time marks s).buzz = s.buzz
      ∨ s.round.state ≠ .committing ∧ routeKey k team key time marks s = takeBuzz k team time marks s := by
  unfold routeKey
  split
  · exact .inl ⟨rfl, rfl⟩
  · split
    · simp
    · split
      case h_1 | h_2 => split <;> simp
      case h_3 =>
        split
        · rename_i asked
          refine .inr ⟨fun c => ?_, rfl⟩
          simp [collecting, c] at asked
        · exact .inl ⟨rfl, rfl⟩
      all_goals exact .inl ⟨rfl, rfl⟩

/-- The end of a commit pass (R115 step 8, R21): the round is IDLE, the walk is over, and the pending open is taken. -/
theorem applicationStep_cases (s : State) :
    ∃ a : State, applicationStep s = takePendingOpen a ∧ a.round = { s.round with state := .idle } ∧ a.buzz = s.buzz
      ∧ a.score.walk.walking = false := by
  unfold applicationStep roundAfterCommit
  exact ⟨_, rfl, by simp only [lampsOff_round, applyPending_round]; simp [moveRound, applyCommit], by simp [applyCommit],
    by simp⟩

end Sys2Proof.Machine
end

section
/-! SUPPORT. The floor, the queue and the round timers through each move of the round (R10, R20, R89, R97, R109): first for the
named moves, then for the works, and last for the step. -/

namespace Sys2Proof.Machine

/-! ## The parts of the two laws -/

/-- R97, R89: no two entries of the queue hold the same team, and none a locked team. -/
def QueueLawful (b : Buzz) : Prop :=
  b.queue.Pairwise (fun a b => a.team ≠ b.team) ∧ ∀ e ∈ b.queue, b.locked.mem e.team = false

/-- The floor law without the walk. -/
def FloorHeld (s : State) : Prop :=
  (s.round.state = .floor ↔ s.buzz.held = true) ∧ (s.buzz.held = true → s.buzz.queue ≠ []) ∧ QueueLawful s.buzz

theorem floorLaw_iff (s : State) : FloorLaw s ↔ WalkOnlyCommitting s ∧ FloorHeld s := Iff.rfl

/-- The window timer is as the round state lets it be (R10). -/
def WindowFits (r : Round) : Prop :=
  match r.state with
  | .opened => r.closedMark = false ∧ ∃ d, r.window = .running d
  | .floor => if r.closedMark then r.window = .stopped else ∃ x, r.window = .paused x
  | .idle | .closing | .closed | .committing => r.window = .stopped

/-- The round timers law without the walk. -/
def TimersFit (r : Round) : Prop := (r.settle ≠ none → r.state = .closing) ∧ WindowFits r

theorem roundTimersLaw_iff (s : State) : RoundTimersLaw s ↔ WalkOnlyCommitting s ∧ TimersFit s.round := by
  unfold RoundTimersLaw TimersFit WindowFits
  cases s.round.state <;> rfl

theorem TimersFit.settle_none {r : Round} (h : TimersFit r) (n : r.state ≠ .closing) : r.settle = none := by
  by_contra c; exact n (h.1 c)

theorem TimersFit.opened {r : Round} (h : TimersFit r) (e : r.state = .opened) :
    r.closedMark = false ∧ ∃ d, r.window = .running d := by
  simpa [WindowFits, e] using h.2

theorem TimersFit.floor {r : Round} (h : TimersFit r) (e : r.state = .floor) :
    if r.closedMark then r.window = .stopped else ∃ x, r.window = .paused x := by
  simpa [WindowFits, e] using h.2

/-- R10: outside OPEN and FLOOR the window timer is STOPPED. -/
theorem TimersFit.stopped {r : Round} (h : TimersFit r) (o : r.state ≠ .opened) (f : r.state ≠ .floor) :
    r.window = .stopped := by
  have := h.2
  unfold WindowFits at this
  cases e : r.state <;> simp_all

/-- A round without timers in a state that asks for none. -/
theorem TimersFit.of_stopped {r : Round} (h : r.settle = none) (w : r.window = .stopped) (o : r.state ≠ .opened)
    (f : r.state ≠ .floor) : TimersFit r := by
  refine ⟨fun c => absurd h c, ?_⟩
  unfold WindowFits
  cases e : r.state <;> simp_all

/-- The three readings of a law of the race: unchanged, it stays. -/
theorem walkOnly_congr {s u : State} (hr : u.round.state = s.round.state)
    (hw : u.score.walk.walking = s.score.walk.walking) (h : WalkOnlyCommitting s) : WalkOnlyCommitting u := by
  unfold WalkOnlyCommitting at *; rw [hr, hw]; exact h

theorem walkOnly_of_still {u : State} (h : u.score.walk.walking = false) : WalkOnlyCommitting u :=
  fun c => absurd (h.symm.trans c) (by decide)

theorem WalkOnlyCommitting.still {s : State} (h : WalkOnlyCommitting s) (n : s.round.state ≠ .committing) :
    s.score.walk.walking = false := by
  cases e : s.score.walk.walking with
  | false => rfl
  | true => exact absurd (h e) n

theorem floorHeld_congr {s u : State} (hr : u.round.state = s.round.state) (hb : u.buzz = s.buzz) (h : FloorHeld s) :
    FloorHeld u := by
  unfold FloorHeld at *; rw [hr, hb]; exact h

/-- A queue that nobody holds outside FLOOR. -/
theorem floorHeld_of_free {u : State} (hr : u.round.state ≠ .floor) (hb : u.buzz.held = false) (q : QueueLawful u.buzz) :
    FloorHeld u := by
  refine ⟨?_, ?_, q⟩ <;> simp [hr, hb]

theorem FloorHeld.free {s : State} (h : FloorHeld s) (n : s.round.state ≠ .floor) : s.buzz.held = false := by
  cases e : s.buzz.held with
  | false => rfl
  | true => exact absurd (h.1.mpr e) n

theorem queueLawful_congr {a b : Buzz} (hq : b.queue = a.queue) (hl : b.locked = a.locked) (h : QueueLawful a) :
    QueueLawful b := by
  unfold QueueLawful at *; rw [hq, hl]; exact h

theorem queueLawful_reset : QueueLawful Buzz.reset := ⟨List.Pairwise.nil, fun _ h => nomatch h⟩

/-! ## The end of a question -/

theorem QuestionEnds.timers {s u : State} (h : QuestionEnds s u) : TimersFit u.round := by
  obtain ⟨_, _, hr, -⟩ := h
  rw [hr]
  exact .of_stopped rfl rfl (by dsimp only; split <;> decide) (by dsimp only; split <;> decide)

theorem QuestionEnds.walk {s u : State} (h : QuestionEnds s u) (still : s.score.walk.walking = false) :
    WalkOnlyCommitting u := by
  obtain ⟨_, _, hr, -, -, -, hw, -⟩ := h
  by_cases m : (currentQuestion s).mode = .held
  · simp only [m, if_true] at hw
    exact walkOnly_of_still (by rw [hw]; exact still)
  · intro _; rw [hr]; exact if_neg m

theorem QuestionEnds.floor {s u : State} (h : QuestionEnds s u) (q : QueueLawful s.buzz) : FloorHeld u := by
  obtain ⟨_, _, hr, hb, -⟩ := h
  refine floorHeld_of_free ?_ (by rw [hb]) (queueLawful_congr (by rw [hb]) (by rw [hb]) q)
  rw [hr]; dsimp only; split <;> decide

/-! ## The grant -/

theorem FloorGranted.walk {e : BuzzEntry} {s u : State} (h : FloorGranted e s u) (still : s.score.walk.walking = false) :
    WalkOnlyCommitting u := by
  obtain ⟨_, _, -, -, -, -, -, hk⟩ := h
  have score : u.score = s.score := hk .score (by decide)
  exact walkOnly_of_still (by rw [score]; exact still)

theorem FloorGranted.timers {e : BuzzEntry} {s u : State} (h : FloorGranted e s u) (st : s.round.state = .opened ∨
    s.round.state = .closing) (fit : TimersFit s.round) : TimersFit u.round := by
  obtain ⟨_, _, hr, -⟩ := h
  rw [hr]
  rcases st with o | c
  · obtain ⟨mark, d, window⟩ := fit.opened o
    have settle := fit.settle_none (by rw [o]; decide)
    exact ⟨by simp [o, settle], by simp [WindowFits, o, mark, window]⟩
  · have window := fit.stopped (by rw [c]; decide) (by rw [c]; decide)
    exact ⟨by simp [c], by simp [WindowFits, c, window]⟩

theorem FloorGranted.floor {e : BuzzEntry} {s u : State} (h : FloorGranted e s u) (ne : s.buzz.queue ≠ [])
    (q : QueueLawful s.buzz) : FloorHeld u := by
  obtain ⟨_, _, hr, hb, -⟩ := h
  have st : u.round.state = .floor := by rw [hr]; split <;> rfl
  exact ⟨by simp [st, hb], fun _ => by rw [hb]; exact ne, queueLawful_congr (by rw [hb]) (by rw [hb]) q⟩

/-- What a grant test comes to (R96): nothing of the round, the floor and the walk moves, or the floor is granted. -/
theorem GrantTested.cases {s u : State} (h : GrantTested s u) :
    (u.round = s.round ∧ u.score = s.score ∧ u.buzz.held = s.buzz.held ∧ u.buzz.queue = s.buzz.queue
        ∧ u.buzz.locked = s.buzz.locked)
      ∨ ∃ e, s.buzz.queue ≠ [] ∧ (s.round.state = .opened ∨ s.round.state = .closing) ∧ FloorGranted e s u := by
  unfold GrantTested at h
  split at h
  · rw [h]; exact .inl ⟨rfl, rfl, rfl, rfl, rfl⟩
  · rename_i e rest hq
    simp only [] at h
    split at h
    · rw [h]; exact .inl ⟨rfl, rfl, rfl, rfl, rfl⟩
    · rename_i open_
      split at h
      · refine .inr ⟨e, by simp [hq], ?_, h⟩
        simp only [not_or, not_and_or, not_not] at open_
        exact open_.2
      · obtain ⟨hb, hk⟩ := h
        exact .inl ⟨hk .round (by decide), hk .score (by decide), by rw [hb], by rw [hb], by rw [hb]⟩

theorem GrantTested.walk {s u : State} (h : GrantTested s u) (still : s.score.walk.walking = false) :
    WalkOnlyCommitting u := by
  rcases h.cases with ⟨-, score, -⟩ | ⟨e, -, -, g⟩
  · exact walkOnly_of_still (by rw [score]; exact still)
  · exact g.walk still

theorem GrantTested.timers {s u : State} (h : GrantTested s u) (fit : TimersFit s.round) : TimersFit u.round := by
  rcases h.cases with ⟨round, -⟩ | ⟨e, -, st, g⟩
  · rw [round]; exact fit
  · exact g.timers st fit

theorem GrantTested.floor {s u : State} (h : GrantTested s u) (f : FloorHeld s) : FloorHeld u := by
  obtain ⟨held, ne, q⟩ := f
  rcases h.cases with ⟨round, -, hh, hq, hl⟩ | ⟨e, ne, -, g⟩
  · exact ⟨by rw [round, hh]; exact held, by rw [hh, hq]; exact ne, queueLawful_congr hq hl q⟩
  · exact g.floor ne q

theorem grantTest_walk (s : State) (still : s.score.walk.walking = false) : WalkOnlyCommitting (grantTest s) :=
  (grantTest_tested s).walk still

/-- A grant test never starts nor ends a walk (R96). -/
theorem GrantTested.score {s u : State} (h : GrantTested s u) : u.score = s.score := by
  rcases h.cases with ⟨-, score, -⟩ | ⟨e, -, -, _, _, -, -, -, -, -, hk⟩
  · exact score
  · exact hk .score (by decide)

/-- R96: in COMMITTING a grant test does nothing to the round. -/
theorem GrantTested.keeps_walk {s u : State} (h : GrantTested s u) (w : WalkOnlyCommitting s) : WalkOnlyCommitting u := by
  by_cases c : s.round.state = .committing
  · rcases h.cases with ⟨round, score, -⟩ | ⟨e, -, st, -⟩
    · exact walkOnly_congr (by rw [round]) (by rw [score]) w
    · rw [c] at st; simp at st
  · exact h.walk (w.still c)

/-! ## Closing -/

theorem SettleOver.walk {s u : State} (h : SettleOver s u) (still : s.score.walk.walking = false) : WalkOnlyCommitting u := by
  obtain ⟨a, -, hk, h⟩ := h
  have score : a.score = s.score := hk .score (by decide)
  split at h
  · exact h.walk (by rw [score]; exact still)
  · exact h.walk (by rw [score]; exact still)

theorem SettleOver.timers {s u : State} (h : SettleOver s u) (fit : TimersFit s.round) : TimersFit u.round := by
  obtain ⟨a, hr, hk, h⟩ := h
  split at h
  · refine h.timers ?_
    rw [hr]
    exact ⟨fun c => absurd rfl c, fit.2⟩
  · exact h.timers

theorem SettleOver.floor {s u : State} (h : SettleOver s u) (f : FloorHeld s) : FloorHeld u := by
  obtain ⟨a, hr, hk, h⟩ := h
  have buzz : a.buzz = s.buzz := hk .buzz (by decide)
  split at h
  · exact h.floor (floorHeld_congr (by rw [hr]) buzz f)
  · exact h.floor (by rw [buzz]; exact f.2.2)

theorem AnsweringCloses.walk {s u : State} (h : AnsweringCloses s u) (still : s.score.walk.walking = false) :
    WalkOnlyCommitting u := by
  obtain ⟨a, -, -, -, hk, h⟩ := h
  have score : a.score = s.score := hk .score (by decide)
  split at h
  · exact h.walk (by rw [score]; exact still)
  · rw [h]; exact walkOnly_of_still (by rw [score]; exact still)

theorem AnsweringCloses.timers {s u : State} (h : AnsweringCloses s u) : TimersFit u.round := by
  obtain ⟨a, hr, -, -, -, h⟩ := h
  have fit : TimersFit a.round := by rw [hr]; exact ⟨fun _ => rfl, rfl⟩
  split at h
  · exact h.timers fit
  · rw [h]; exact fit

theorem AnsweringCloses.floor {s u : State} (h : AnsweringCloses s u) (f : FloorHeld s) (n : s.round.state ≠ .floor) :
    FloorHeld u := by
  obtain ⟨a, hr, -, -, hk, h⟩ := h
  have buzz : a.buzz = s.buzz := hk .buzz (by decide)
  have fa : FloorHeld a :=
    floorHeld_of_free (by rw [hr]; simp) (by rw [buzz]; exact f.free n) (by rw [buzz]; exact f.2.2)
  split at h
  · exact h.floor fa
  · rw [h]; exact fa

/-! ## Opens -/

theorem QuestionOpened.timers {q : Fin 128} {s u : State} (h : QuestionOpened q s u) : TimersFit u.round := by
  obtain ⟨-, -, -, -, -, hr, -⟩ := h
  rw [hr]
  exact ⟨fun c => absurd rfl c, rfl, _, rfl⟩

theorem QuestionOpened.floor {q : Fin 128} {s u : State} (h : QuestionOpened q s u) : FloorHeld u := by
  obtain ⟨-, -, -, -, hb, hr, -⟩ := h
  exact floorHeld_of_free (by rw [hr]; simp) (by rw [hb]) (by rw [hb]; exact queueLawful_reset)

theorem QuestionOpened.walk {q : Fin 128} {s u : State} (h : QuestionOpened q s u) (still : s.score.walk.walking = false) :
    WalkOnlyCommitting u := by
  obtain ⟨-, -, -, -, -, -, -, -, -, -, -, hk⟩ := h
  have score : u.score = s.score := hk .score (by decide)
  exact walkOnly_of_still (by rw [score]; exact still)

/-- What the end of a commit pass leaves of the round (R14): IDLE as it stood but for the pending open, or a question opened. -/
theorem PendingTaken.cases {s u : State} (h : PendingTaken s u) :
    (u.round = { s.round with pendingOpen := u.round.pendingOpen } ∧ u.buzz = s.buzz ∧ u.score = s.score)
      ∨ ∃ q v, v.score = s.score ∧ QuestionOpened q v u := by
  unfold PendingTaken at h
  split at h
  · rw [h]; exact .inl ⟨rfl, rfl, rfl⟩
  · split at h
    · obtain ⟨hr, -, hk⟩ := h
      exact .inl ⟨by rw [hr], hk .buzz (by decide), hk .score (by decide)⟩
    · obtain ⟨v, -, hk, ho⟩ := h
      exact .inr ⟨_, v, hk .score (by decide), ho⟩

/-! ## Verdicts -/

theorem releaseWrong_cases (used : Nat) (s : State) :
    releaseWrong used s = grantTest (floorOpenAgain s) ∨ releaseWrong used s = endQuestion s := by
  unfold releaseWrong; split
  · exact .inl rfl
  · exact .inr rfl

/-- R98 to R102: after a verdict the question ends, or the floor is open again with the holder's team removed and locked. -/
theorem judgeHolder_cases (v : Verdict) (e : BuzzEntry) (rest : List BuzzEntry) (s : State) :
    (∃ a : State, a.round = s.round ∧ a.score = s.score ∧ QuestionEnds a (judgeHolder v e rest s) ∧
      (a.buzz.queue = s.buzz.queue ∧ a.buzz.locked = s.buzz.locked
        ∨ a.buzz.queue = rest ∧ a.buzz.locked = s.buzz.locked.insert e.team))
    ∨ ∃ a b : State, a.round = s.round ∧ a.score = s.score ∧ a.buzz.held = false ∧ a.buzz.queue = rest
      ∧ a.buzz.locked = s.buzz.locked.insert e.team ∧ FloorOpenAgain a b ∧ GrantTested b (judgeHolder v e rest s) := by
  unfold judgeHolder
  simp only []
  split
  · exact .inl ⟨_, by simp [recordVerdict], by simp [recordVerdict], endQuestion_ends _, .inl (by simp [recordVerdict])⟩
  · rcases releaseWrong_cases s.buzz.stealsUsed _ with h | h <;> rw [h]
    · exact .inr ⟨_, _, by simp [recordVerdict], by simp [recordVerdict], by simp, by simp, by simp [recordVerdict],
        floorOpenAgain_open _, grantTest_tested _⟩
    · exact .inl ⟨_, by simp [recordVerdict], by simp [recordVerdict], endQuestion_ends _, .inr (by simp [recordVerdict])⟩

theorem FloorOpenAgain.timers {s u : State} (h : FloorOpenAgain s u) (fit : TimersFit s.round) (st : s.round.state = .floor) :
    TimersFit u.round := by
  have hw := fit.floor st
  have settle := fit.settle_none (by rw [st]; decide)
  obtain ⟨hr, -⟩ := h
  cases m : s.round.closedMark with
  | true =>
    rw [m, if_pos rfl] at hr hw
    rw [hr]
    exact ⟨fun _ => rfl, hw⟩
  | false =>
    rw [m, if_neg (by decide)] at hr hw
    obtain ⟨x, hx⟩ := hw
    rw [hr, hx]
    exact ⟨fun c => absurd settle c, m, _, rfl⟩

theorem FloorOpenAgain.state {s u : State} (h : FloorOpenAgain s u) : u.round.state = .closing ∨ u.round.state = .opened := by
  obtain ⟨hr, -⟩ := h
  split at hr <;> rw [hr]
  · exact .inl rfl
  · exact .inr rfl

theorem TeamSet.mem_insert_ne {set : TeamSet} {t u : Fin 16} (h : u ≠ t) : (set.insert t).mem u = set.mem u := by
  have ne : u.val ≠ t.val := Fin.val_ne_of_ne h
  simp only [TeamSet.mem, TeamSet.insert]
  simp
  omega

/-- R102: with the holder removed and its team locked, the queue that is left is lawful. -/
theorem queueLawful_release {b c : Buzz} {e : BuzzEntry} {rest : List BuzzEntry} (h : QueueLawful b) (hq : b.queue = e :: rest)
    (cq : c.queue = rest) (cl : c.locked = b.locked.insert e.team) : QueueLawful c := by
  obtain ⟨pair, free⟩ := h
  rw [hq] at pair free
  obtain ⟨apart, pair⟩ := List.pairwise_cons.mp pair
  unfold QueueLawful
  rw [cq, cl]
  refine ⟨pair, fun x hx => ?_⟩
  have ne : x.team ≠ e.team := (apart x hx).symm
  rw [TeamSet.mem_insert_ne ne]
  exact free x (List.mem_cons_of_mem _ hx)

theorem judgeHolder_walk (v : Verdict) (e : BuzzEntry) (rest : List BuzzEntry) (s : State)
    (still : s.score.walk.walking = false) : WalkOnlyCommitting (judgeHolder v e rest s) := by
  rcases judgeHolder_cases v e rest s with ⟨a, -, score, ends, -⟩ | ⟨a, b, -, score, -, -, -, again, tested⟩
  · exact ends.walk (by rw [score]; exact still)
  · have sb : b.score = a.score := again.2.2 .score (by decide)
    exact tested.walk (by rw [sb, score]; exact still)

theorem judgeHolder_timers (v : Verdict) (e : BuzzEntry) (rest : List BuzzEntry) (s : State) (fit : TimersFit s.round)
    (st : s.round.state = .floor) : TimersFit (judgeHolder v e rest s).round := by
  rcases judgeHolder_cases v e rest s with ⟨a, -, -, ends, -⟩ | ⟨a, b, round, -, -, -, -, again, tested⟩
  · exact ends.timers
  · exact tested.timers (again.timers (by rw [round]; exact fit) (by rw [round]; exact st))

theorem judgeHolder_floor (v : Verdict) (e : BuzzEntry) (rest : List BuzzEntry) (s : State) (f : FloorHeld s)
    (hq : s.buzz.queue = e :: rest) : FloorHeld (judgeHolder v e rest s) := by
  obtain ⟨-, -, q⟩ := f
  rcases judgeHolder_cases v e rest s with ⟨a, -, -, ends, same | left⟩ | ⟨a, b, -, -, held, aq, al, again, tested⟩
  · exact ends.floor (queueLawful_congr same.1 same.2 q)
  · exact ends.floor (queueLawful_release q hq left.1 left.2)
  · have buzz : b.buzz = a.buzz := again.2.2 .buzz (by decide)
    refine tested.floor (floorHeld_of_free ?_ (by rw [buzz]; exact held) (by rw [buzz]; exact queueLawful_release q hq aq al))
    rcases again.state with c | c <;> rw [c] <;> decide

/-! ## Buzzes -/

/-- R94: the teams of the queue with a new entry are the old ones and the new one, in some order. -/
theorem queueLawful_insert {b : Buzz} {e : BuzzEntry} {front back : List BuzzEntry} {c : Buzz} (h : QueueLawful b)
    (split : (front ++ back).map (·.team) = b.queue.map (·.team)) (new : ∀ x ∈ b.queue, x.team ≠ e.team)
    (free : b.locked.mem e.team = false) (cq : c.queue = front ++ e :: back) (cl : c.locked = b.locked) : QueueLawful c := by
  have apart : ∀ x ∈ front ++ back, x.team ≠ e.team := by
    intro x hx c
    have : x.team ∈ b.queue.map (·.team) := split ▸ List.mem_map_of_mem (f := (·.team)) hx
    obtain ⟨y, hy, ey⟩ := List.mem_map.mp this
    exact new y hy (ey.trans c)
  obtain ⟨pair, unlocked⟩ := h
  have pair' : (front ++ back).Pairwise (fun a b => a.team ≠ b.team) := by
    have names : (b.queue.map (·.team)).Pairwise (· ≠ ·) := List.pairwise_map.mpr pair
    rw [← split] at names
    exact List.pairwise_map.mp names
  unfold QueueLawful
  rw [cq, cl]
  constructor
  · rw [List.pairwise_append] at pair' ⊢
    obtain ⟨p, q, r⟩ := pair'
    refine ⟨p, List.pairwise_cons.mpr ⟨fun x hx => (apart x (List.mem_append_right _ hx)).symm, q⟩, ?_⟩
    intro a ha x hx
    rcases List.mem_cons.mp hx with rfl | hx
    · exact apart a (List.mem_append_left _ ha)
    · exact r a ha x hx
  · intro x hx
    by_cases c : x = e
    · rw [c]; exact free
    · have : x ∈ front ++ back := by simp only [List.mem_append, List.mem_cons, c, false_or] at hx ⊢; exact hx
      have : x.team ∈ b.queue.map (·.team) := split ▸ List.mem_map_of_mem (f := (·.team)) this
      obtain ⟨y, hy, ey⟩ := List.mem_map.mp this
      rw [← ey]; exact unlocked y hy

/-- What a BUZZ key comes to (R91 to R96): the round, the race and the walk stay, or its entry is inserted, of a team neither
locked nor queued. -/
theorem takeBuzz_cases (k : Fin 256) (team : Option (Fin 16)) (time : Time) (marks : Marks) (s : State) :
    ((takeBuzz k team time marks s).round = s.round ∧ (takeBuzz k team time marks s).buzz = s.buzz)
      ∨ ∃ t, takeBuzz k team time marks s = insertEntry k t time marks s ∧ s.buzz.locked.mem t = false
        ∧ ∀ x ∈ s.buzz.queue, x.team ≠ t := by
  unfold takeBuzz
  split
  · simp
  · rename_i t _
    split
    · split <;> simp
    · rename_i unlocked
      split
      · split <;> simp
      · rename_i absent
        have new : ∀ x ∈ s.buzz.queue, x.team ≠ t := fun x hx c => by
          simpa [c] using List.find?_eq_none.mp absent x hx
        split
        · simp
        · split
          · simp
          · split
            · simp [falseStart]
            · split
              · simp
              · exact .inr ⟨t, rfl, by simpa using unlocked, new⟩

/-- An entry inserted, before its grant test. -/
theorem BuzzInserted.cases {k : Fin 256} {t : Fin 16} {time : Time} {marks : Marks} {s u : State}
    (h : BuzzInserted k t time marks s u) (q : QueueLawful s.buzz) (free : s.buzz.locked.mem t = false)
    (new : ∀ x ∈ s.buzz.queue, x.team ≠ t) :
    ∃ b : State, b.round = s.round ∧ b.score = s.score ∧ b.buzz.held = s.buzz.held ∧ b.buzz.queue ≠ []
      ∧ QueueLawful b.buzz ∧ (u = b ∨ GrantTested b u) := by
  obtain ⟨e, front, back, b, he, split, -, -, -, hb, -, -, -, hk, hu⟩ := h
  have et : e.team = t := by rw [he]
  refine ⟨b, hk .round (by decide), hk .score (by decide), by rw [hb], by rw [hb]; simp, ?_, ?_⟩
  · refine queueLawful_insert (e := e) (front := front) (back := back) q ?_ (by rw [et]; exact new) (by rw [et]; exact free)
      (by rw [hb]) (by rw [hb])
    rw [split, List.map_map]
    refine List.map_congr_left fun x _ => ?_
    simp only [Function.comp_apply]
    split <;> rfl
  · split at hu
    · exact .inr hu
    · exact .inl hu

end Sys2Proof.Machine
end

section
/-! SUPPORT. The floor law and the round timers law through every work, and with them through every step (R10, R20, R89, R97,
R109). -/

namespace Sys2Proof.Machine

/-! ## The works of the round -/

/-- What a handed-off press comes to for the race (R23): nothing, or a BUZZ key outside COMMITTING. -/
theorem handOff_race (f : Stamped) (s : State) :
    ((handOff f s).round = s.round ∧ (handOff f s).buzz = s.buzz)
      ∨ ∃ k team time marks a, a.round = s.round ∧ a.buzz = s.buzz ∧ a.score = s.score
        ∧ s.round.state ≠ .committing ∧ handOff f s = takeBuzz k team time marks a := by
  rcases handOff_cases f s with h | ⟨-, a, ha, h⟩
  · rw [h]; exact .inl (by simp [stamperEmptied])
  · have same : a.round = s.round ∧ a.buzz = s.buzz ∧ a.score = s.score := by
      rcases ha with ⟨cls, battery, rfl⟩ | ⟨n, rfl⟩ <;> simp [stamperEmptied, pressHeard]
    obtain ⟨ar, ab, as⟩ := same
    rcases h with h | ⟨team, key, time, marks, h⟩ | ⟨team, v, time, marks, h⟩
    · rw [h]; exact .inl ⟨ar, ab⟩
    · rcases routeKey_cases (seatOf f.port f.position) team key time marks a with ⟨kr, kb⟩ | ⟨open_, buzz⟩
      · rw [h]; exact .inl ⟨kr.trans ar, kb.trans ab⟩
      · exact .inr ⟨_, _, _, _, a, ar, ab, as, by rw [← ar]; exact open_, h.trans buzz⟩
    · rw [h]; exact .inl ⟨by simp [ar], by simp [ab]⟩

/-- What a work of the round comes to for the race: the record of what each action does, by the rule that says it. -/
inductive RaceMove (s u : State) : Prop
  | stays (hr : u.round = { s.round with pendingOpen := u.round.pendingOpen }) (hb : u.buzz = s.buzz) (hs : u.score = s.score)
  | opens (q : Fin 128) (v : State) (hs : v.score = s.score) (st : s.round.state = .idle) (h : QuestionOpened q v u)
  | closes (st : s.round.state = .opened) (h : AnsweringCloses s u)
  | closesFloor (st : s.round.state = .floor)
      (hr : u.round = { s.round with window := .stopped, closedMark := true }) (hb : u.buzz = s.buzz) (hs : u.score = s.score)
  | commits (st : s.round.state = .closed) (hr : u.round = { s.round with state := .committing }) (hb : u.buzz = s.buzz)
  | cancels (st : s.round.state ≠ .committing)
      (hr : u.round = { s.round with state := .idle, window := .stopped, settle := none })
      (hb : u.buzz = { s.buzz with held := false, headTimer := none, answerTimer := none }) (hs : u.score = s.score)
  | judges (v : Verdict) (e : BuzzEntry) (rest : List BuzzEntry) (st : s.round.state = .floor)
      (hq : s.buzz.queue = e :: rest) (h : u = judgeHolder v e rest s)
  | settles (st : s.round.state = .closing) (h : SettleOver s u)
  | tests (h : GrantTested s u)
  | applies (a : State) (st : s.score.walk.walking = true) (hr : a.round = { s.round with state := .idle })
      (hb : a.buzz = s.buzz) (hw : a.score.walk.walking = false) (h : PendingTaken a u)
  | buzzes (k : Fin 256) (t : Fin 16) (time : Time) (marks : Marks) (a : State) (hr : a.round = s.round)
      (hb : a.buzz = s.buzz) (hs : a.score = s.score) (st : s.round.state ≠ .committing)
      (free : s.buzz.locked.mem t = false) (new : ∀ x ∈ s.buzz.queue, x.team ≠ t)
      (h : u = insertEntry k t time marks a)

theorem RaceMove.refl (s : State) : RaceMove s s := .stays rfl rfl rfl

theorem openChosen_move (q : Option (Fin 128)) (s : State) : RaceMove s (openChosen q s).1 := by
  unfold openChosen
  cases st : s.round.state
  case idle =>
    simp only []
    split
    · exact .opens _ s rfl st (openQuestion_opened _ s)
    · exact .refl s
  case committing =>
    simp only []
    split
    · exact .stays rfl rfl rfl
    · exact .refl s
  all_goals exact .refl s

theorem closeAction_move (s : State) : RaceMove s (closeAction s).1 := by
  unfold closeAction
  cases st : s.round.state
  case opened => exact .closes st (closeAnswering_closes s)
  case floor =>
    simp only []
    split
    · exact .refl s
    · exact .closesFloor st rfl rfl rfl
  all_goals exact .refl s

theorem commitAction_move (s : State) : RaceMove s (commitAction s).1 := by
  unfold commitAction
  cases st : s.round.state
  case closed => exact .commits st (by simp [enterCommitting, beginWalk, moveRound]) (by simp)
  all_goals exact .refl s

theorem cancelAction_move (s : State) : RaceMove s (cancelAction s).1 := by
  have taken (st : s.round.state ≠ .committing) : RaceMove s (cancelQuestion s) :=
    .cancels st (by simp [cancelQuestion, moveRound]) (by simp [cancelQuestion, releaseFloor_buzz]) (by simp)
  unfold cancelAction
  cases st : s.round.state
  case idle => exact .refl s
  case committing => exact .refl s
  all_goals exact taken (by rw [st]; decide)

theorem judgeAction_move (team verdict : Byte) (s : State) : RaceMove s (judgeAction team verdict s).1 := by
  unfold judgeAction
  split
  · split
    · exact .refl s
    · split
      · exact .refl s
      · rename_i floor
        split
        · rename_i hq
          split
          · exact .judges _ _ _ (not_not.mp floor) hq rfl
          · exact .refl s
        · exact .refl s
  · exact .refl s

theorem answerTimeout_move (s : State) (st : s.round.state = .floor) : RaceMove s (answerTimeout s) := by
  unfold answerTimeout
  split
  · exact .judges _ _ _ st ‹_› rfl
  · exact .refl s

theorem handOff_move (f : Stamped) (s : State) : RaceMove s (handOff f s) := by
  have score : (handOff f s).score = s.score := by simp
  rcases handOff_race f s with ⟨hr, hb⟩ | ⟨k, team, time, marks, a, ar, ab, as, st, h⟩
  · exact .stays (by rw [hr]) hb score
  · rcases takeBuzz_cases k team time marks a with ⟨hr, hb⟩ | ⟨t, e, free, new⟩
    · exact .stays (by rw [h, hr, ar]) (by rw [h, hb, ab]) score
    · exact .buzzes k t time marks a ar ab as st (by rw [← ab]; exact free) (by rw [← ab]; exact new) (h.trans e)

theorem RoundWork.move {s u : State} (h : RoundWork s u) : RaceMove s u := by
  cases h with
  | opens q idle => exact openChosen_move q s
  | closes idle => exact closeAction_move s
  | commits idle => exact commitAction_move s
  | cancels idle => exact cancelAction_move s
  | judges team verdict idle => exact judgeAction_move team verdict s
  | windowExpires due =>
    refine .closes ?_ (closeAnswering_closes s)
    unfold windowDue at due
    split at due
    · assumption
    · cases due
  | settles due =>
    simp only [settleDue, Bool.and_eq_true, beq_iff_eq] at due
    exact .settles due.1 (settleExpires_over s)
  | headSettles => exact .tests (grantTest_tested s)
  | answerExpires due =>
    simp only [answerDue, Bool.and_eq_true, beq_iff_eq] at due
    exact answerTimeout_move s due.1
  | applies due =>
    simp only [applicationDue, Bool.and_eq_true] at due
    obtain ⟨a, h, hr, hb, hw⟩ := applicationStep_cases s
    exact .applies a due.1.1 hr hb hw (h ▸ takePendingOpen_taken a)
  | handsOff f held => exact handOff_move f s

/-- Works of the other owners leave the race as it is. -/
theorem Work.move {s u : State} (h : Work s u) :
    RaceMove s u ∨ (u.round = s.round ∧ u.buzz = s.buzz ∧ u.score.walk.walking = s.score.walk.walking)
      ∨ (u.round.state = .idle ∧ u.round.settle = none ∧ u.round.window = .stopped ∧ u.buzz = Buzz.reset
        ∧ u.score.walk.walking = false) := by
  cases h with
  | nothing => exact .inr (.inl ⟨rfl, rfl, rfl⟩)
  | hardReset strap flash | warmRestart => exact .inr (.inr ⟨rfl, rfl, rfl, rfl, rfl⟩)
  | round h => exact .inl h.move
  | score h => exact .inr (.inl h.keeps_round)
  | port h => obtain ⟨r, b, s⟩ := h.keeps_round; exact .inr (.inl ⟨r, b, by rw [s]⟩)
  | comp h => obtain ⟨r, b, s⟩ := h.keeps_round; exact .inr (.inl ⟨r, b, by rw [s]⟩)
  | table h => obtain ⟨r, b, s⟩ := h.keeps_round; exact .inr (.inl ⟨r, b, by rw [s]⟩)

/-! ## The three laws through a move -/

theorem RaceMove.walk {s u : State} (h : RaceMove s u) (w : WalkOnlyCommitting s) : WalkOnlyCommitting u := by
  cases h with
  | stays hr hb hs => exact walkOnly_congr (by rw [hr]) (by rw [hs]) w
  | opens q v hs st h => exact h.walk (by rw [hs]; exact w.still (by rw [st]; decide))
  | closes st h => exact h.walk (w.still (by rw [st]; decide))
  | closesFloor st hr hb hs => exact walkOnly_congr (by rw [hr]) (by rw [hs]) w
  | commits st hr hb => intro _; rw [hr]
  | cancels st hr hb hs => exact walkOnly_of_still (by rw [hs]; exact w.still st)
  | judges v e rest st hq h => rw [h]; exact judgeHolder_walk v e rest s (w.still (by rw [st]; decide))
  | settles st h => exact h.walk (w.still (by rw [st]; decide))
  | tests h => exact h.keeps_walk w
  | applies a st hr hb hw h =>
    rcases h.cases with ⟨-, -, score⟩ | ⟨q, v, score, opened⟩
    · exact walkOnly_of_still (by rw [score]; exact hw)
    · exact opened.walk (by rw [score]; exact hw)
  | buzzes k t time marks a hr hb hs st free new h =>
    have score : u.score = s.score := by rw [h, insertEntry_score, hs]
    exact walkOnly_of_still (by rw [score]; exact w.still st)

theorem RaceMove.timers {s u : State} (h : RaceMove s u) (w : WalkOnlyCommitting s) (fit : TimersFit s.round) :
    TimersFit u.round := by
  cases h with
  | stays hr hb hs => rw [hr]; exact fit
  | opens q v hs st h => exact h.timers
  | closes st h => exact h.timers
  | closesFloor st hr hb hs =>
    rw [hr]
    exact ⟨fit.1, by simp [WindowFits, st]⟩
  | commits st hr hb =>
    rw [hr]
    exact .of_stopped (fit.settle_none (by rw [st]; decide)) (fit.stopped (by rw [st]; decide) (by rw [st]; decide))
      (by simp) (by simp)
  | cancels st hr hb hs => rw [hr]; exact .of_stopped rfl rfl (by simp) (by simp)
  | judges v e rest st hq h => rw [h]; exact judgeHolder_timers v e rest s fit st
  | settles st h => exact h.timers fit
  | tests h => exact h.timers fit
  | applies a st hr hb hw h =>
    rcases h.cases with ⟨round, -⟩ | ⟨q, v, -, opened⟩
    · have c := w st
      rw [round, hr]
      exact .of_stopped (fit.settle_none (by rw [c]; decide)) (fit.stopped (by rw [c]; decide) (by rw [c]; decide))
        (by simp) (by simp)
    · exact opened.timers
  | buzzes k t time marks a hr hb hs st free new h =>
    rw [h]
    unfold insertEntry
    simp only []
    split
    · exact (grantTest_tested _).timers (by simpa [hr] using fit)
    · simpa [hr] using fit

theorem RaceMove.floor {s u : State} (h : RaceMove s u) (w : WalkOnlyCommitting s) (f : FloorHeld s) : FloorHeld u := by
  cases h with
  | stays hr hb hs => exact floorHeld_congr (by rw [hr]) hb f
  | opens q v hs st h => exact h.floor
  | closes st h => exact h.floor f (by rw [st]; decide)
  | closesFloor st hr hb hs => exact floorHeld_congr (by rw [hr]) hb f
  | commits st hr hb =>
    exact floorHeld_of_free (by rw [hr]; simp) (by rw [hb]; exact f.free (by rw [st]; decide)) (by rw [hb]; exact f.2.2)
  | cancels st hr hb hs =>
    exact floorHeld_of_free (by rw [hr]; simp) (by rw [hb])
      (queueLawful_congr (by rw [hb]) (by rw [hb]) f.2.2)
  | judges v e rest st hq h => rw [h]; exact judgeHolder_floor v e rest s f hq
  | settles st h => exact h.floor f
  | tests h => exact h.floor f
  | applies a st hr hb hw h =>
    have fa : FloorHeld a :=
      floorHeld_of_free (by rw [hr]; simp) (by rw [hb]; exact f.free (by rw [w st]; decide)) (by rw [hb]; exact f.2.2)
    rcases h.cases with ⟨round, buzz, -⟩ | ⟨q, v, -, opened⟩
    · exact floorHeld_congr (by rw [round]) buzz fa
    · exact opened.floor
  | buzzes k t time marks a hr hb hs st free new h =>
    obtain ⟨held, ne, q⟩ := f
    have inserted := insertEntry_inserted k t time marks a (by rw [hb]; exact ne) (by rw [hb]; exact new)
    rw [← h] at inserted
    obtain ⟨b, br, -, bh, bn, bq, end_⟩ := inserted.cases (by rw [hb]; exact q) (by rw [hb]; exact free) (by rw [hb]; exact new)
    have fb : FloorHeld b := ⟨by rw [br, bh, hr, hb]; exact held, fun _ => bn, bq⟩
    rcases end_ with rfl | tested
    · exact fb
    · exact tested.floor fb

/-! ## The laws through every work and every step -/

theorem Work.keeps_walk {s u : State} (h : Work s u) (w : WalkOnlyCommitting s) : WalkOnlyCommitting u := by
  rcases h.move with m | ⟨r, -, k⟩ | ⟨-, -, -, -, k⟩
  · exact m.walk w
  · exact walkOnly_congr (by rw [r]) k w
  · exact walkOnly_of_still k

theorem Work.keeps_floor {s u : State} (h : Work s u) (f : FloorLaw s) : FloorLaw u := by
  obtain ⟨w, f⟩ := (floorLaw_iff s).mp f
  refine (floorLaw_iff u).mpr ⟨h.keeps_walk w, ?_⟩
  rcases h.move with m | ⟨r, b, -⟩ | ⟨st, -, -, b, -⟩
  · exact m.floor w f
  · exact floorHeld_congr (by rw [r]) b f
  · exact floorHeld_of_free (by rw [st]; decide) (by rw [b]; rfl) (by rw [b]; exact queueLawful_reset)

theorem Work.keeps_timers {s u : State} (h : Work s u) (f : RoundTimersLaw s) : RoundTimersLaw u := by
  obtain ⟨w, f⟩ := (roundTimersLaw_iff s).mp f
  refine (roundTimersLaw_iff u).mpr ⟨h.keeps_walk w, ?_⟩
  rcases h.move with m | ⟨r, -, -⟩ | ⟨st, settle, window, -, -⟩
  · exact m.timers w f
  · rw [r]; exact f
  · exact .of_stopped settle window (by rw [st]; decide) (by rw [st]; decide)

theorem Quiet.keeps_walk {s u : State} (h : Quiet s u) (w : WalkOnlyCommitting s) : WalkOnlyCommitting u := by
  obtain ⟨r, -, k⟩ := h.keeps_round
  exact walkOnly_congr (by rw [r]) (by rw [k]) w

theorem Quiet.keeps_floor {s u : State} (h : Quiet s u) (f : FloorLaw s) : FloorLaw u := by
  obtain ⟨w, f⟩ := (floorLaw_iff s).mp f
  obtain ⟨r, b, -⟩ := h.keeps_round
  exact (floorLaw_iff u).mpr ⟨h.keeps_walk w, floorHeld_congr (by rw [r]) b f⟩

theorem Quiet.keeps_timers {s u : State} (h : Quiet s u) (f : RoundTimersLaw s) : RoundTimersLaw u := by
  obtain ⟨w, f⟩ := (roundTimersLaw_iff s).mp f
  obtain ⟨r, -, -⟩ := h.keeps_round
  exact (roundTimersLaw_iff u).mpr ⟨h.keeps_walk w, by rw [r]; exact f⟩

/-- Settles O56: by the moves of the race (RaceMove), the only works that touch the round, the race or the walk. -/
theorem everyStepKeepsTheFloorAndTimersLawful : Obligations.EveryStepKeepsTheFloorAndTimersLawful := fun _ _ h =>
  ⟨step_keeps (fun _ _ q => q.keeps_floor) (fun _ _ w => w.keeps_floor) h,
    step_keeps (fun _ _ q => q.keeps_timers) (fun _ _ w => w.keeps_timers) h⟩

end Sys2Proof.Machine
end

section
/-! SUPPORT. The records that WRITEs set stay within their ranges, and valid cue numbers stay unique (R3, R6, R134, R135, R163):
per record, per record outcome, and for every work. -/

namespace Sys2Proof.Machine

/-! ## Ranges of stored records -/

theorem clampNat_bounds {x lo hi : Nat} (h : lo ≤ hi) : lo ≤ clampNat x lo hi ∧ clampNat x lo hi ≤ hi := by
  unfold clampNat; split <;> (try split) <;> omega

theorem u8_lt (r : List Byte) (i : Nat) : u8 r i < 256 := (r.getD i 0).isLt

/-- R3: the set of the first n options holds no key beyond them. -/
theorem optionMask_getLsbD (n : Nat) (k : Fin 8) : (optionMask n).getLsbD k.val = decide (k.val < n) := by
  unfold optionMask
  rw [BitVec.getLsbD_ofNat, Nat.testBit_two_pow_sub_one]
  simp

/-- R1, R3: a record that passes the checks of R2 is stored within its ranges. -/
theorem questionRecord_inRange (kind : QKind) (mode : CommitMode) (r : List Byte)
    (h : ¬ (kind = .choice ∧ badCorrectSet r = true)) : questionInRange (questionRecord kind mode r) := by
  have opts : 2 ≤ clampNat (u8 r 1) 2 6 ∧ clampNat (u8 r 1) 2 6 ≤ 6 := clampNat_bounds (by decide)
  have tol : 1 ≤ clampNat (u16 r 16) 1 9999 ∧ clampNat (u16 r 16) 1 9999 ≤ 9999 := clampNat_bounds (by decide)
  have win : 1 ≤ clampNat (u16 r 18) 1 600 ∧ clampNat (u16 r 18) 1 600 ≤ 600 := clampNat_bounds (by decide)
  have below : ∀ x hi : Nat, clampNat x 0 hi ≤ hi := fun _ _ => (clampNat_bounds (Nat.zero_le _)).2
  have byte : ∀ i, u8 r i ≤ 255 := fun i => Nat.le_of_lt_succ (u8_lt r i)
  refine ⟨opts.1, opts.2, below _ _, below _ _, below _ _, below _ _, below _ _, below _ _, byte _, below _ _, tol.1, tol.2,
    win.1, win.2, byte _, below _ _, fun k hk => ?_, fun choice => ?_⟩
  · have mask := optionMask_getLsbD (clampNat (u8 r 1) 2 6) k
    by_cases choice : kind = .choice
    · have sub : r.getD 2 0 &&& optionMask (clampNat (u8 r 1) 2 6) = r.getD 2 0 := by
        have good := not_and.mp h choice
        simp only [badCorrectSet, Bool.or_eq_true, bne_iff_ne, ne_eq, not_or, not_not] at good
        exact good.2
      have hk' : (r.getD 2 0).getLsbD k.val = true := by simpa [questionRecord, choice] using hk
      rw [← sub, BitVec.getLsbD_and, mask] at hk'
      simp only [Bool.and_eq_true, decide_eq_true_eq] at hk'
      exact hk'.2
    · have hk' : (r.getD 2 0 &&& optionMask (clampNat (u8 r 1) 2 6)).getLsbD k.val = true := by
        simpa [questionRecord, choice] using hk
      rw [BitVec.getLsbD_and, mask] at hk'
      simp only [Bool.and_eq_true, decide_eq_true_eq] at hk'
      exact hk'.2
  · intro zero
    have choice : kind = .choice := choice
    have set : r.getD 2 0 = 0 := by simpa [questionRecord, choice] using zero
    exact h ⟨choice, by simp only [badCorrectSet, set, beq_self_eq_true, Bool.true_or]⟩

theorem questionInRange_reset : questionInRange Question.reset := by
  refine ⟨by decide, by decide, by decide, by decide, by decide, by decide, by decide, by decide, by decide, by decide,
    by decide, by decide, by decide, by decide, by decide, by decide, ?_, by decide⟩
  intro k hk; simp [Question.reset] at hk

/-- R6: a stored argument is within the range of its action. -/
theorem cueArgument_le (a : CueAction) (arg : Byte) :
    (a = .openQuestion → (cueArgument a arg).1.toNat ≤ 127) ∧ (a = .reveal → (cueArgument a arg).1.toNat ≤ 15) := by
  constructor <;> rintro rfl <;> simp only [cueArgument, CueAction.limit] <;> split <;> simp [byteOf] <;> omega

/-- R163: a CONFIG record within its ranges. -/
def configInRange (c : Config) : Prop :=
  (∀ i : Nat, 9 ≤ i → c.enabled.getLsbD i = false)
    ∧ 1 ≤ c.tallyCount ∧ c.tallyCount ≤ 255 ∧ c.tallyWait ≤ 255 ∧ c.seatWait ≤ 255 ∧ 1 ≤ c.urgent ∧ c.urgent ≤ 8
    ∧ 10 ≤ c.silentTimeout ∧ c.silentTimeout ≤ 255 ∧ c.resting ≠ .teamCard

/-- R163: TEAM_CARD is no resting view. -/
theorem ofResting_ne {b : Byte} {v : View} (h : View.ofResting b = some v) : v ≠ .teamCard := by
  rintro rfl
  unfold View.ofResting at h
  split at h <;> simp_all

/-- R167: the notice kinds are those of nine codes. -/
theorem enabled_beyond (x : BitVec 16) (i : Nat) (h : 9 ≤ i) : (x &&& 0x1FF).getLsbD i = false := by
  have : (0x1FF#16).getLsbD i = false := by
    rcases Nat.lt_or_ge i 16 with h' | h'
    · interval_cases i <;> rfl
    · exact BitVec.getLsbD_of_ge _ _ h'
  rw [BitVec.getLsbD_and]
  simp [this]

theorem configRecord_inRange (v : View) (r : List Byte) (h : v ≠ .teamCard) : configInRange (configRecord v r) := by
  have byte : ∀ i, u8 r i ≤ 255 := fun i => Nat.le_of_lt_succ (u8_lt r i)
  have c1 : 1 ≤ clampNat (u8 r 2) 1 255 ∧ clampNat (u8 r 2) 1 255 ≤ 255 := clampNat_bounds (by decide)
  have c2 : 1 ≤ clampNat (u8 r 5) 1 8 ∧ clampNat (u8 r 5) 1 8 ≤ 8 := clampNat_bounds (by decide)
  have c3 : 10 ≤ clampNat (u8 r 6) 10 255 ∧ clampNat (u8 r 6) 10 255 ≤ 255 := clampNat_bounds (by decide)
  exact ⟨enabled_beyond _, c1.1, c1.2, byte _, byte _, c2.1, c2.2, c3.1, c3.2, h⟩

theorem configInRange_reset : configInRange Config.reset :=
  ⟨fun i h => enabled_beyond 0x1FF i h, by decide, by decide, by decide, by decide, by decide, by decide, by decide, by decide,
    by decide⟩

/-- R30, R31: a name within its ranges. -/
def nameInRange (name : List Byte) : Prop := name.length ≤ 12 ∧ ∀ c ∈ name, 32 ≤ c.toNat ∧ c.toNat ≤ 126

theorem nameField_inRange {r name : List Byte} (h : nameField r = some name) : nameInRange name := by
  unfold nameField at h
  simp only [] at h
  split at h
  · rename_i fits
    cases h
    simp only [Bool.and_eq_true, decide_eq_true_eq, List.all_eq_true] at fits
    exact ⟨le_trans (List.length_take_le _ _) fits.1, fits.2⟩
  · cases h

/-! ## The tables of a state -/

/-- R134, R135: the sequences and steps within their ranges. -/
def ShowInRange (c : Composer) : Prop :=
  (∀ i : Fin 16, 1 ≤ c.sequences[i].count ∧ c.sequences[i].first + c.sequences[i].count ≤ 64)
    ∧ ∀ i : Fin 64, 1 ≤ c.steps[i].hold ∧ c.steps[i].hold ≤ 255

/-- R6: the arguments of the cues within their ranges. -/
def CuesInRange (cues : Vector CueEntry 64) : Prop :=
  ∀ i : Fin 64, (cues[i].action = .openQuestion → cues[i].argument.toNat ≤ 127)
    ∧ (cues[i].action = .reveal → cues[i].argument.toNat ≤ 15)

theorem recordsInRange_iff (s : State) :
    RecordsInRange s ↔ (∀ q : Fin 128, questionInRange s.questions[q]) ∧ CuesInRange s.cues ∧ ShowInRange s.comp
      ∧ (∀ t : Fin 16, nameInRange s.teams[t].name) ∧ configInRange s.hub.config := by
  unfold RecordsInRange CuesInRange ShowInRange nameInRange configInRange
  constructor
  · rintro ⟨q, c, a, b, t, k⟩; exact ⟨q, c, ⟨a, b⟩, t, k⟩
  · rintro ⟨q, c, ⟨a, b⟩, t, k⟩; exact ⟨q, c, a, b, t, k⟩

theorem showInRange_congr {c d : Composer} (h1 : d.sequences = c.sequences) (h2 : d.steps = c.steps) (h : ShowInRange c) :
    ShowInRange d := by
  unfold ShowInRange at *; rw [h1, h2]; exact h

/-- The records that WRITEs set are the same in both states. -/
def SameRecords (s u : State) : Prop :=
  u.questions = s.questions ∧ u.cues = s.cues ∧ u.comp.sequences = s.comp.sequences ∧ u.comp.steps = s.comp.steps
    ∧ u.teams = s.teams ∧ u.hub.config = s.hub.config

theorem RecordsInRange.congr {s u : State} (h : RecordsInRange s) (e : SameRecords s u) : RecordsInRange u := by
  obtain ⟨e1, e2, e3, e4, e5, e6⟩ := e
  unfold RecordsInRange at *
  rw [e1, e2, e3, e4, e5, e6]; exact h

theorem CueNumbersUnique.congr {s u : State} (h : CueNumbersUnique s) (e : u.cues = s.cues) : CueNumbersUnique u := by
  unfold CueNumbersUnique at *; rw [e]; exact h

/-! ## Record outcomes -/

theorem onIndex_keeps {P : State → Prop} {n i : Nat} {write : Fin n → State × Status} {s : State} (none : P s)
    (some : ∀ k, P (write k).1) : P (onIndex n i write s).1 := by
  unfold onIndex
  split
  · exact some _
  · exact none

/-- What a written record comes to for the state: nothing, or the store of its owner (R161). -/
inductive RecordStore (r : List Byte) (s : State) : State → Prop
  | refused : RecordStore r s s
  | seat (k : Fin 256) : RecordStore r s (writeSeat k r s).1
  | team (t : Fin 16) : RecordStore r s (writeTeam t r s).1
  | question (q : Fin 128) : RecordStore r s (writeQuestion q r s).1
  | cue (i : Fin 64) : RecordStore r s (writeCue i r s).1
  | sequence (i : Fin 16) : RecordStore r s (writeSequence i r s).1
  | step (i : Fin 64) : RecordStore r s (writeStep i r s).1
  | port (p : Fin 4) : RecordStore r s (writePort p r s).1
  | config : RecordStore r s (writeConfigRecord r s).1

theorem writeRecord_store (t : Table) (i : Nat) (r : List Byte) (s : State) : RecordStore r s (writeRecord t i r s).1 := by
  cases t
  case seats => exact onIndex_keeps .refused .seat
  case teams => exact onIndex_keeps .refused .team
  case questions => exact onIndex_keeps .refused .question
  case cues => exact onIndex_keeps .refused .cue
  case sequences => exact onIndex_keeps .refused .sequence
  case steps => exact onIndex_keeps .refused .step
  case portcfg => exact onIndex_keeps .refused .port
  case config => exact .config
  all_goals exact .refused

/-- What every store of a record keeps a run of records keeps. -/
theorem recordOutcomes_stores {P : State → Prop} (h : ∀ r s u, RecordStore r s u → P s → P u) (t : Table)
    (rs : List (List Byte)) (i : Nat) (s : State) (hs : P s) : P (recordOutcomes t i rs s).2 :=
  recordOutcomes_invariant t P (fun i r s hs => h r s _ (writeRecord_store t i r s) hs) rs i s hs

theorem storeTeam_teams (t : Fin 16) (x : Team) (s : State) : (storeTeam t x s).teams = s.teams.set t x := by
  simp only [storeTeam]
  (repeat' split) <;> simp

theorem setResting_config (v : View) (s : State) : (setResting v s).hub.config = { s.hub.config with resting := v } := by
  simp only [setResting]
  (repeat' split) <;> simp

theorem storeConfig_config (c : Config) (s : State) : (storeConfig c s).hub.config = c := by
  simp only [storeConfig, setResting_config, withHub_hub]

theorem sequence_inRange {x y : Nat} (flag loops : Bool) (h : ¬ 64 < clampNat x 0 63 + clampNat y 1 64) :
    1 ≤ (⟨flag, clampNat x 0 63, clampNat y 1 64, loops⟩ : Sequence).count
      ∧ (⟨flag, clampNat x 0 63, clampNat y 1 64, loops⟩ : Sequence).first
        + (⟨flag, clampNat x 0 63, clampNat y 1 64, loops⟩ : Sequence).count ≤ 64 :=
  ⟨(clampNat_bounds (by decide)).1, Nat.le_of_not_lt h⟩

/-- R3, R6, R31, R134, R135, R163: a store keeps every record within its ranges. -/
theorem RecordStore.keeps_records {r : List Byte} {s u : State} (h : RecordStore r s u) (w : RecordsInRange s) :
    RecordsInRange u := by
  cases h with
  | refused => exact w
  | seat k => exact w.congr (by simp [SameRecords])
  | port p => exact w.congr (by simp [SameRecords])
  | team t =>
    unfold writeTeam
    split
    · exact w
    · rename_i name hn
      split
      · exact w
      · obtain ⟨q, c, x, names, k⟩ := (recordsInRange_iff s).mp w
        refine (recordsInRange_iff _).mpr ⟨by simpa using q, by simpa using c, showInRange_congr (by simp) (by simp) x,
          fun o => ?_, by simpa using k⟩
        dsimp only
        rw [storeTeam_teams, vector_set_get]
        split
        · exact nameField_inRange hn
        · exact names o
  | question i =>
    unfold writeQuestion
    split
    · exact w
    · split
      · split
        · exact w
        · rename_i kind mode _ _ fits
          obtain ⟨q, rest⟩ := (recordsInRange_iff s).mp w
          refine (recordsInRange_iff _).mpr ⟨fun o => ?_, rest⟩
          dsimp only [withQuestions_questions]
          rw [vector_set_get]
          split
          · exact questionRecord_inRange kind mode r fits
          · exact q o
      · exact w
  | cue i =>
    unfold writeCue
    split
    · exact w
    · rename_i a _
      dsimp only
      split
      · exact w
      · obtain ⟨q, c, rest⟩ := (recordsInRange_iff s).mp w
        refine (recordsInRange_iff _).mpr ⟨q, fun o => ?_, rest⟩
        dsimp only [withCues_cues]
        rw [vector_set_get]
        split
        · exact cueArgument_le a _
        · exact c o
  | sequence i =>
    unfold writeSequence
    dsimp only
    split
    · exact w
    · rename_i fits
      obtain ⟨q, c, ⟨seqs, steps⟩, rest⟩ := (recordsInRange_iff s).mp w
      refine (recordsInRange_iff _).mpr ⟨q, c, ⟨fun o => ?_, steps⟩, rest⟩
      dsimp only [withComp_comp]
      rw [vector_set_get]
      split
      · exact sequence_inRange _ _ fits
      · exact seqs o
  | step i =>
    unfold writeStep
    split
    · exact w
    · obtain ⟨q, c, ⟨seqs, steps⟩, rest⟩ := (recordsInRange_iff s).mp w
      refine (recordsInRange_iff _).mpr ⟨q, c, ⟨seqs, fun o => ?_⟩, rest⟩
      dsimp only [withComp_comp]
      rw [vector_set_get]
      split
      · exact clampNat_bounds (by decide)
      · exact steps o
  | config =>
    unfold writeConfigRecord
    split
    · exact w
    · rename_i v hv
      obtain ⟨q, c, x, names, -⟩ := (recordsInRange_iff s).mp w
      refine (recordsInRange_iff _).mpr ⟨by simpa using q, by simpa using c, showInRange_congr (by simp) (by simp) x,
        by simpa using names, ?_⟩
      dsimp only
      rw [storeConfig_config]
      exact configRecord_inRange v r (ofResting_ne hv)

/-- R6: a store keeps the numbers of the valid cues unique. -/
theorem RecordStore.keeps_cues {r : List Byte} {s u : State} (h : RecordStore r s u) (w : CueNumbersUnique s) :
    CueNumbersUnique u := by
  cases h with
  | cue i =>
    unfold writeCue
    split
    · exact w
    · dsimp only
      split
      · exact w
      · rename_i fresh
        have other : flagAt r 0 = true → ∀ j : Fin 64, j ≠ i → s.cues[j].valid = true →
            s.cues[j].number ≠ BitVec.ofNat 16 (u16 r 1) := by
          intro valid j ne hj same
          refine fresh ⟨valid, List.any_eq_true.mpr ⟨j, List.mem_finRange j, ?_⟩⟩
          simp only [Bool.and_eq_true, decide_eq_true_eq, beq_iff_eq]
          exact ⟨⟨ne, hj⟩, same⟩
        intro a b
        dsimp only [withCues_cues]
        rw [vector_set_get, vector_set_get]
        by_cases ha : a = i <;> by_cases hb : b = i
        · intro _ _ _; rw [ha, hb]
        · rw [if_pos ha, if_neg hb]
          intro valid hv same
          exact absurd same.symm (other valid b hb hv)
        · rw [if_neg ha, if_pos hb]
          intro hv valid same
          exact absurd same (other valid a ha hv)
        · rw [if_neg ha, if_neg hb]; exact w a b
  | refused => exact w
  | seat k => exact w.congr (by simp)
  | team t => exact w.congr (by simp)
  | question q => exact w.congr (by simp)
  | sequence i => exact w.congr (by simp)
  | step i => exact w.congr (by simp)
  | port p => exact w.congr (by simp)
  | config => exact w.congr (by simp)

/-! ## The tables after a FAILED load and after a reset (R174, 10.2) -/

theorem resetTables_records (s : State) :
    (resetTables s).questions = Vector.replicate 128 Question.reset ∧ (resetTables s).cues = Vector.replicate 64 CueEntry.reset
      ∧ (resetTables s).comp.sequences = Vector.replicate 16 Sequence.reset
      ∧ (resetTables s).comp.steps = Vector.replicate 64 Step.reset ∧ (∀ t : Fin 16, (resetTables s).teams[t] = Team.reset)
      ∧ (resetTables s).hub.config = Config.reset := by
  refine ⟨by simp [resetTables], by simp [resetTables], by simp [resetTables], by simp [resetTables], fun t => ?_,
    storeConfig_config _ _⟩
  have cleared := foldl_at_most_once (fun s t => storeTeam t Team.reset s) (fun s => s.teams[t]) t
    (fun s o ne => by simp only [storeTeam_teams]; rw [vector_set_get, if_neg (Ne.symm ne)]) (List.finRange 16)
    (List.nodup_finRange 16)
    ((List.finRange 256).foldl (fun s k => assignTeam k none s) s) (fun _ x => x = Team.reset)
    (fun s _ => by simp only [storeTeam_teams]; rw [vector_set_get, if_pos rfl])
  simp only [resetTables, storeConfig_teams, withPorts_teams, withComp_teams, withCues_teams, withQuestions_teams]
  exact cleared.1 (List.mem_finRange t)

theorem replicate_get {α : Type} {n : Nat} (x : α) (i : Fin n) : (Vector.replicate n x)[i] = x := by simp

/-- The tables at their hard-reset values are within their ranges (10.2). -/
theorem recordsInRange_of_reset {s : State} (q : s.questions = Vector.replicate 128 Question.reset)
    (c : s.cues = Vector.replicate 64 CueEntry.reset) (x : s.comp.sequences = Vector.replicate 16 Sequence.reset)
    (y : s.comp.steps = Vector.replicate 64 Step.reset) (t : ∀ t : Fin 16, s.teams[t] = Team.reset)
    (k : s.hub.config = Config.reset) : RecordsInRange s := by
  refine (recordsInRange_iff s).mpr ⟨fun i => ?_, fun i => ?_, ⟨fun i => ?_, fun i => ?_⟩, fun i => ?_, ?_⟩
  · rw [q, replicate_get]; exact questionInRange_reset
  · rw [c, replicate_get]; exact ⟨nofun, nofun⟩
  · rw [x, replicate_get]; decide
  · rw [y, replicate_get]; decide
  · rw [t]; exact ⟨by decide, nofun⟩
  · rw [k]; exact configInRange_reset

theorem cueNumbersUnique_of_reset {s : State} (c : s.cues = Vector.replicate 64 CueEntry.reset) : CueNumbersUnique s := by
  intro i j hi
  rw [c, replicate_get] at hi
  exact absurd hi (by decide)

/-! ## Every work -/

theorem endLoad_eq (r : LoadResult) (s : State) :
    endLoad r s = raiseNotice (.preset r s.loader.count)
      ((loadAction r (s.withLoader { s.loader with result := r, refused := s.loader.count })).withLoader
        { s.loader with result := r, refused := s.loader.count, running := false }) := by
  have loader : (loadAction r (s.withLoader { s.loader with result := r, refused := s.loader.count })).loader =
      { s.loader with result := r, refused := s.loader.count } := by
    cases r <;> simp [loadAction, (resetTables_round _).2.2.2, autostart_same]
  simp only [endLoad, loader]

theorem TableWork.keeps_records {s u : State} (h : TableWork s u) (w : RecordsInRange s) : RecordsInRange u := by
  cases h with
  | writes t i records => exact recordOutcomes_stores (fun r s u h => h.keeps_records) t records i s w
  | reads t first returned => exact w.congr (by simp [SameRecords])
  | walksSection =>
    obtain ⟨u, e, -, rfl | ⟨t, i, rs, rfl⟩⟩ := walkSection_cases s
    · rw [e]; exact w
    · rw [e]
      exact recordOutcomes_stores (P := RecordsInRange) (fun r s u h => h.keeps_records) t rs i s w
  | loadEnds r due =>
    rw [endLoad_eq]
    cases r with
    | none => exact w.congr (by simp [SameRecords, loadAction])
    | empty => exact w.congr (by simp [SameRecords, loadAction])
    | loaded => exact w.congr (by simp [SameRecords, loadAction, autostart_same])
    | failed =>
      obtain ⟨q, c, x, y, t, k⟩ := resetTables_records (s.withLoader { s.loader with result := .failed, refused := s.loader.count })
      exact recordsInRange_of_reset (by simpa [loadAction] using q) (by simpa [loadAction] using c)
        (by simpa [loadAction] using x) (by simpa [loadAction] using y) (fun i => by simpa [loadAction] using t i)
        (by simpa [loadAction] using k)
  | reloads flash => unfold reloadAction; split <;> exact w.congr ⟨rfl, rfl, rfl, rfl, rfl, rfl⟩

theorem TableWork.keeps_cues {s u : State} (h : TableWork s u) (w : CueNumbersUnique s) : CueNumbersUnique u := by
  cases h with
  | writes t i records => exact recordOutcomes_stores (fun r s u h => h.keeps_cues) t records i s w
  | reads t first returned => exact w.congr (by simp)
  | walksSection =>
    obtain ⟨u, e, -, rfl | ⟨t, i, rs, rfl⟩⟩ := walkSection_cases s
    · rw [e]; exact w
    · rw [e]
      exact recordOutcomes_stores (P := CueNumbersUnique) (fun r s u h => h.keeps_cues) t rs i s w
  | loadEnds r due =>
    rw [endLoad_eq]
    cases r with
    | none => exact w.congr (by simp [loadAction])
    | empty => exact w.congr (by simp [loadAction])
    | loaded => exact w.congr (by simp [loadAction, autostart_same])
    | failed =>
      obtain ⟨-, c, -⟩ := resetTables_records (s.withLoader { s.loader with result := .failed, refused := s.loader.count })
      exact cueNumbersUnique_of_reset (by simpa [loadAction] using c)
  | reloads flash => unfold reloadAction; split <;> exact w.congr rfl

/-- The owners other than the tables' leave the records as they are; SHOW RESTING changes the resting view alone (R138). -/
theorem PortWork.same_records {s u : State} (h : PortWork s u) : SameRecords s u := by
  cases h <;> simp [SameRecords]

theorem RoundWork.same_records {s u : State} (h : RoundWork s u) : SameRecords s u := by
  cases h <;> simp [SameRecords]

theorem ScoreWork.same_records {s u : State} (h : ScoreWork s u) : SameRecords s u := by
  cases h <;> simp [SameRecords]

theorem CompWork.keeps_records {s u : State} (h : CompWork s u) (w : RecordsInRange s) : RecordsInRange u := by
  cases h
  case rests v =>
    unfold restingAction
    split
    · rename_i x hx
      obtain ⟨q, c, show_, t, k, rest⟩ := (recordsInRange_iff s).mp w
      refine (recordsInRange_iff _).mpr ⟨by simpa using q, by simpa using c, showInRange_congr (by simp) (by simp) show_,
        by simpa using t, ?_⟩
      dsimp only
      rw [setResting_config]
      obtain ⟨r1, r2, r3, r4, r5, r6, r7, r8, -⟩ := rest
      exact ⟨k, r1, r2, r3, r4, r5, r6, r7, r8, ofResting_ne hx⟩
    · exact w
  all_goals exact w.congr (by simp [SameRecords])

theorem CompWork.same_cues {s u : State} (h : CompWork s u) : u.cues = s.cues := by cases h <;> simp

theorem Quiet.same_records {s u : State} (h : Quiet s u) : SameRecords s u := by
  have comp : u.comp = s.comp := h .comp (by decide)
  exact ⟨h .questions (by decide), h .cues (by decide), by rw [comp], by rw [comp], h .teams (by decide),
    h .config (by decide)⟩

/-- R3, R6, R31, R134, R135, R138, R163, R174: every work keeps the records within their ranges. -/
theorem Work.keeps_records {s u : State} (h : Work s u) (w : RecordsInRange s) : RecordsInRange u := by
  cases h with
  | nothing => exact w
  | hardReset strap flash => exact recordsInRange_of_reset rfl rfl rfl rfl (fun _ => replicate_get _ _) rfl
  | warmRestart => exact w.congr (by simp [SameRecords, Machine.warmRestart, Composer.restarted, Hub.restarted])
  | port h => exact w.congr h.same_records
  | round h => exact w.congr h.same_records
  | score h => exact w.congr h.same_records
  | comp h => exact h.keeps_records w
  | table h => exact h.keeps_records w

/-- R6, R174: every work keeps the numbers of the valid cues unique. -/
theorem Work.keeps_cues {s u : State} (h : Work s u) (w : CueNumbersUnique s) : CueNumbersUnique u := by
  cases h with
  | nothing => exact w
  | hardReset strap flash => exact cueNumbersUnique_of_reset rfl
  | warmRestart => exact w.congr (by simp [Machine.warmRestart])
  | port h => exact w.congr h.same_records.2.1
  | round h => exact w.congr h.same_records.2.1
  | score h => exact w.congr h.same_records.2.1
  | comp h => exact w.congr h.same_cues
  | table h => exact h.keeps_cues w

end Sys2Proof.Machine
end

section
/-! SUPPORT. The fixtures: the sequence player, what the port laws say of each port, and the presence of each seat. No move of the
round, of a lamp or of a notice touches them: one simp lemma for each operation. -/

namespace Sys2Proof.Machine

/-- What the laws of the ports, of the presence and of the player are about. -/
def fixtures (s : State) : Player × (Fin 4 → PortState × PortCfg × Option Sweep) × (Fin 256 → Presence) :=
  (s.comp.player, fun p => (s.ports[p].state, s.ports[p].cfg, s.ports[p].sweep), fun k => s.seats[k].presence)

/-- The ports' and seats' part of the fixtures. -/
abbrev posts (s : State) : (Fin 4 → PortState × PortCfg × Option Sweep) × (Fin 256 → Presence) := (fixtures s).2

theorem posts_of_same {s u : State} (hp : u.ports = s.ports) (hs : u.seats = s.seats) : posts u = posts s := by
  simp only [posts, fixtures, hp, hs]

theorem fixtures_of_same {s u : State} (hc : u.comp.player = s.comp.player) (hp : u.ports = s.ports)
    (hs : u.seats = s.seats) : fixtures u = fixtures s := Prod.ext hc (posts_of_same hp hs)

theorem posts_of_each {s u : State}
    (hp : ∀ p : Fin 4, u.ports[p].state = s.ports[p].state ∧ u.ports[p].cfg = s.ports[p].cfg ∧ u.ports[p].sweep = s.ports[p].sweep)
    (hs : ∀ k : Fin 256, u.seats[k].presence = s.seats[k].presence) : posts u = posts s := by
  refine Prod.ext (funext fun p => ?_) (funext hs)
  obtain ⟨h1, h2, h3⟩ := hp p
  simp only [posts, fixtures, h1, h2, h3]

theorem fixtures_of_each {s u : State} (hc : u.comp = s.comp)
    (hp : ∀ p : Fin 4, u.ports[p].state = s.ports[p].state ∧ u.ports[p].cfg = s.ports[p].cfg ∧ u.ports[p].sweep = s.ports[p].sweep)
    (hs : ∀ k : Fin 256, u.seats[k].presence = s.seats[k].presence) : fixtures u = fixtures s :=
  Prod.ext (by simp only [fixtures, hc]) (posts_of_each hp hs)

variable (s : State)

/-! ## Block updates -/

@[simp] theorem withRound_fixtures (x : Round) : fixtures (s.withRound x) = fixtures s := rfl
@[simp] theorem withResp_fixtures (x : Responses) : fixtures (s.withResp x) = fixtures s := rfl
@[simp] theorem withBuzz_fixtures (x : Buzz) : fixtures (s.withBuzz x) = fixtures s := rfl
@[simp] theorem withScore_fixtures (x : Score) : fixtures (s.withScore x) = fixtures s := rfl
@[simp] theorem withStamper_fixtures (x : Stamper) : fixtures (s.withStamper x) = fixtures s := rfl
@[simp] theorem withHub_fixtures (x : Hub) : fixtures (s.withHub x) = fixtures s := rfl
@[simp] theorem withSorter_fixtures (x : Sorter) : fixtures (s.withSorter x) = fixtures s := rfl
@[simp] theorem withTeams_fixtures (x : Vector Team 16) : fixtures (s.withTeams x) = fixtures s := rfl

/-! ## Notices, passes and composes -/

@[simp] theorem raiseNotice_fixtures (b : NoticeBody) : fixtures (raiseNotice b s) = fixtures s :=
  fixtures_of_same (by simp) (by simp) (by simp)
@[simp] theorem buildTally_fixtures : fixtures (buildTally s) = fixtures s := fixtures_of_same (by simp) (by simp) (by simp)
@[simp] theorem raiseTally_fixtures : fixtures (raiseTally s) = fixtures s := fixtures_of_same (by simp) (by simp) (by simp)
@[simp] theorem raiseSeat_fixtures (k : Fin 256) (c : Causes) : fixtures (raiseSeat k c s) = fixtures s :=
  fixtures_of_same (by simp) (by simp) (by simp)
@[simp] theorem triggerRanking_fixtures : fixtures (triggerRanking s) = fixtures s :=
  fixtures_of_same (by simp) (by simp) (by simp)

@[simp] theorem recompose_player : (recompose s).comp.player = s.comp.player := by
  unfold recompose startCompose; split <;> rfl

@[simp] theorem reportChange_fixtures (f : View → Bool) : fixtures (reportChange f s) = fixtures s :=
  fixtures_of_same (reportChange_player f s) (by simp) (by simp)
@[simp] theorem reportBuzz_fixtures : fixtures (reportBuzz s) = fixtures s := reportChange_fixtures s _
@[simp] theorem reportTallies_fixtures : fixtures (reportTallies s) = fixtures s := reportChange_fixtures s _

/-! ## Lamps and teams -/

@[simp] theorem startLampSweep_fixtures (p : Fin 4) : fixtures (startLampSweep p s) = fixtures s := by
  refine fixtures_of_each (by simp) (fun o => ?_) (fun k => by rw [startLampSweep_seat])
  rw [startLampSweep_port]
  split
  · rename_i e; rw [e]; exact ⟨rfl, rfl, rfl⟩
  · exact ⟨rfl, rfl, rfl⟩

@[simp] theorem queueFeedback_fixtures (k : Fin 256) : fixtures (queueFeedback k s) = fixtures s := by
  refine fixtures_of_each (by simp) (fun o => ?_) (fun j => by rw [queueFeedback_seat])
  obtain ⟨-, other, own⟩ := queueFeedback_asked k s
  by_cases e : o = portOf k
  · rw [e]
    split at own
    · rw [own.2]; exact ⟨rfl, rfl, rfl⟩
    · split at own <;> rw [own.1] <;> exact ⟨rfl, rfl, rfl⟩
  · rw [other o e]; exact ⟨rfl, rfl, rfl⟩

/-- A seat record with the same presence, stored. -/
theorem setSeat_fixtures {k : Fin 256} {x : Seat} (h : x.presence = s.seats[k].presence) :
    fixtures (s.setSeat k x) = fixtures s := by
  refine fixtures_of_each (by simp) (fun o => ⟨rfl, rfl, rfl⟩) (fun j => ?_)
  rw [setSeat_get]
  split
  · rename_i e; rw [e, h]
  · rfl

@[simp] theorem requestLamp_fixtures (k : Fin 256) (x : Lamp) : fixtures (requestLamp k x s) = fixtures s := by
  unfold requestLamp
  split
  · rfl
  · exact (queueFeedback_fixtures _ k).trans (setSeat_fixtures s rfl)

@[simp] theorem lampsOff_fixtures (keep : Lamp → Bool) : fixtures (lampsOff keep s) = fixtures s := by
  refine fixtures_of_each (by simp) (fun o => by rw [lampsOff_ports]; exact ⟨rfl, rfl, rfl⟩) (fun k => ?_)
  rw [lampsOff_seat]
  split <;> rfl

@[simp] theorem openLamps_fixtures (q : Fin 128) : fixtures (openLamps q s) = fixtures s := by
  refine fixtures_of_each (by simp) (fun p => ?_) (fun k => by rw [openLamps_seat])
  rw [openLamps_port]
  split <;> exact ⟨rfl, rfl, rfl⟩

@[simp] theorem applyPending_fixtures (loud : Bool) : fixtures (applyPending loud s) = fixtures s :=
  fixtures_of_each (by simp) (fun p => by rw [applyPending_ports]; exact ⟨rfl, rfl, rfl⟩)
    (fun k => by rw [applyPending_seat])

/-! ## The round -/

@[simp] theorem moveRound_fixtures (st : RoundState) (w : Bool) : fixtures (moveRound st w s) = fixtures s := by
  simp [moveRound]
@[simp] theorem enterCommitting_fixtures (w : Bool) : fixtures (enterCommitting w s) = fixtures s := by
  simp [enterCommitting, beginWalk]
@[simp] theorem releaseFloor_fixtures : fixtures (releaseFloor s) = fixtures s := by
  simp only [releaseFloor]; split <;> simp
@[simp] theorem endQuestion_fixtures : fixtures (endQuestion s) = fixtures s := by
  rw [endQuestion_eq]; split <;> simp [questionStopped]
@[simp] theorem floorGranted_fixtures : fixtures (floorGranted s) = fixtures s := by
  simp only [floorGranted]; split <;> simp [takeSnapshot]
@[simp] theorem grantFloor_fixtures (e : BuzzEntry) : fixtures (grantFloor e s) = fixtures s := by simp [grantFloor]
@[simp] theorem grantTest_fixtures : fixtures (grantTest s) = fixtures s := by
  unfold grantTest; (repeat' split) <;> simp
@[simp] theorem settleExpires_fixtures : fixtures (settleExpires s) = fixtures s := by
  simp only [settleExpires]; split <;> simp
@[simp] theorem closeAnswering_fixtures : fixtures (closeAnswering s) = fixtures s := by
  simp only [closeAnswering]; split <;> simp
@[simp] theorem closeAction_fixtures : fixtures (closeAction s).1 = fixtures s := by
  unfold closeAction; (repeat' split) <;> simp
@[simp] theorem commitAction_fixtures : fixtures (commitAction s).1 = fixtures s := by
  unfold commitAction; split <;> simp
@[simp] theorem cancelQuestion_fixtures : fixtures (cancelQuestion s) = fixtures s := by simp [cancelQuestion]
@[simp] theorem cancelAction_fixtures : fixtures (cancelAction s).1 = fixtures s := by
  unfold cancelAction; split <;> simp
@[simp] theorem openQuestion_fixtures (q : Fin 128) : fixtures (openQuestion q s) = fixtures s := by
  simp only [openQuestion, clearResponses, moveRound_fixtures, withRound_fixtures, openLamps_fixtures, reportBuzz_fixtures,
    withBuzz_fixtures, reportTallies_fixtures, withResp_fixtures]
  split <;> simp
@[simp] theorem openChosen_fixtures (q : Option (Fin 128)) : fixtures (openChosen q s).1 = fixtures s := by
  unfold openChosen; (repeat' split) <;> simp
@[simp] theorem takePendingOpen_fixtures : fixtures (takePendingOpen s) = fixtures s := by
  simp only [takePendingOpen]; (repeat' split) <;> simp
@[simp] theorem roundAfterCommit_fixtures : fixtures (roundAfterCommit s) = fixtures s := by simp [roundAfterCommit]

/-! ## Verdicts and buzzes -/

@[simp] theorem recordVerdict_fixtures (v : Verdict) (e : BuzzEntry) (rest : List BuzzEntry) :
    fixtures (recordVerdict v e rest s) = fixtures s := by simp [recordVerdict]
@[simp] theorem floorOpenAgain_fixtures : fixtures (floorOpenAgain s) = fixtures s := by
  simp only [floorOpenAgain]; split <;> simp
@[simp] theorem releaseWrong_fixtures (n : Nat) : fixtures (releaseWrong n s) = fixtures s := by
  rcases releaseWrong_cases n s with h | h <;> simp [h]
@[simp] theorem judgeHolder_fixtures (v : Verdict) (e : BuzzEntry) (rest : List BuzzEntry) :
    fixtures (judgeHolder v e rest s) = fixtures s := by
  simp only [judgeHolder]; split <;> simp
@[simp] theorem judgeAction_fixtures (t v : Byte) : fixtures (judgeAction t v s).1 = fixtures s := by
  unfold judgeAction; (repeat' split) <;> simp
@[simp] theorem answerTimeout_fixtures : fixtures (answerTimeout s) = fixtures s := by
  unfold answerTimeout; split <;> simp
@[simp] theorem insertEntry_fixtures (k : Fin 256) (t : Fin 16) (x : Time) (m : Marks) :
    fixtures (insertEntry k t x m s) = fixtures s := by
  simp only [insertEntry]; split <;> simp
@[simp] theorem falseStart_fixtures (k : Fin 256) (t : Fin 16) (x : Time) (m : Marks) :
    fixtures (falseStart k t x m s) = fixtures s := by simp [falseStart]
@[simp] theorem takeBuzz_fixtures (k : Fin 256) (t : Option (Fin 16)) (x : Time) (m : Marks) :
    fixtures (takeBuzz k t x m s) = fixtures s := by
  unfold takeBuzz; (repeat' split) <;> simp

/-! ## Answers and routing -/

@[simp] theorem recordAnswer_fixtures (k : Fin 256) (r : Response) (t : Tallies) : fixtures (recordAnswer k r t s) = fixtures s := by
  simp only [recordAnswer]; split <;> simp
@[simp] theorem answerTaken_fixtures (k : Fin 256) (t : Fin 16) (a : Answer) (x : Time) (m : Marks) :
    fixtures (answerTaken k t a x m s) = fixtures s := by
  simp only [answerTaken, raiseAnswer]; split <;> simp
@[simp] theorem takeAnswer_fixtures (k : Fin 256) (t : Fin 16) (a : Answer) (x : Time) (m : Marks) :
    fixtures (takeAnswer k t a x m s) = fixtures s := by
  unfold takeAnswer; (repeat' split) <;> simp [firstAnswer, acceptedChange]
@[simp] theorem judgePress_fixtures (k : Fin 256) (t : Option (Fin 16)) (a : Option Answer) (x : Time) (m : Marks) :
    fixtures (judgePress k t a x m s) = fixtures s := by
  unfold judgePress; (repeat' split) <;> simp [setResponseState]
@[simp] theorem routeKey_fixtures (k : Fin 256) (t : Option (Fin 16)) (key : Byte) (x : Time) (m : Marks) :
    fixtures (routeKey k t key x m s) = fixtures s := by
  unfold routeKey; (repeat' split) <;> simp [takeHelp]
@[simp] theorem routeDigits_fixtures (k : Fin 256) (t : Option (Fin 16)) (v : Nat) (x : Time) (m : Marks) :
    fixtures (routeDigits k t v x m s) = fixtures s := by
  unfold routeDigits; split <;> simp

/-! ## The application step -/

@[simp] theorem resultLamps_fixtures : fixtures (resultLamps s) = fixtures s := by
  unfold resultLamps
  split
  · exact foldl_keeps _ fixtures (fun s k => by split <;> simp) _ s
  · rfl

/-- R115 step 7: of the fixtures an application step changes the player alone, by the reveal of the question. -/
theorem applicationStep_fixtures :
    ∃ (a : State) (r : Option (Fin 16)), fixtures a = fixtures s ∧ SameRecords s a
      ∧ fixtures (applicationStep s) = fixtures (revealAfterCommit r a) := by
  let lit := resultLamps (applyCommit s)
  let a := triggerRanking (raiseNotice (committedNotice s lit) lit)
  refine ⟨a, (headerQuestion a).reveal, by simp [a, lit, applyCommit], by simp [a, lit, SameRecords, applyCommit], ?_⟩
  unfold applicationStep
  rw [roundAfterCommit_fixtures, withScore_fixtures]

end Sys2Proof.Machine
end

section
/-! SUPPORT. The sequence player stays within its sequence, and the sequence within the Step Table (R134, R136, R137). -/

namespace Sys2Proof.Machine

/-- The step held is one of the sequence's, and the sequence ends at step 63 at the latest. -/
def StepFits (p : Playing) : Prop := p.first + p.count ≤ 64 ∧ p.first ≤ p.step ∧ p.step < p.first + p.count

/-- The player shows nothing, or a step that fits. -/
def PlayerFits (p : Player) : Prop := ∀ ended q, p = .active ended q → StepFits q

theorem playerLaw_iff (s : State) : PlayerLaw s ↔ RecordsInRange s ∧ PlayerFits s.comp.player := Iff.rfl

theorem playerFits_active {ended : Bool} {p : Playing} : PlayerFits (.active ended p) ↔ StepFits p :=
  ⟨fun h => h ended p rfl, fun h _ _ e => by cases e; exact h⟩

theorem playerFits_stopped : PlayerFits .stopped := nofun

theorem enterStep_player (p : Playing) (n : Nat) (s : State) :
    (enterStep p n s).comp.player = .active false (p.inStep n s.comp.steps[stepIndex n]) := by
  unfold enterStep; rw [recompose_player]; rfl

/-- R136: a step of the sequence entered. -/
theorem enterStep_fits {p : Playing} {n : Nat} (s : State) (h : p.first + p.count ≤ 64) (lo : p.first ≤ n)
    (hi : n < p.first + p.count) : PlayerFits (enterStep p n s).comp.player := by
  rw [enterStep_player, playerFits_active]; exact ⟨h, lo, hi⟩

/-- R134, R136: a sequence played begins within its steps. -/
theorem playSequence_fits (n : Fin 16) {s : State} (w : RecordsInRange s) : PlayerFits (playSequence n s).comp.player := by
  obtain ⟨-, -, ⟨seqs, -⟩, -⟩ := (recordsInRange_iff s).mp w
  obtain ⟨count, last⟩ := seqs n
  exact enterStep_fits s last (Nat.le_refl _) (by dsimp only; omega)

theorem revealAfterCommit_fits (r : Option (Fin 16)) {s : State} (h : PlayerLaw s) :
    PlayerFits (revealAfterCommit r s).comp.player := by
  obtain ⟨w, f⟩ := (playerLaw_iff s).mp h
  unfold revealAfterCommit
  split
  · split
    · exact playSequence_fits _ w
    · exact f
  · exact f

theorem fixtures_player {s u : State} (h : fixtures u = fixtures s) : u.comp.player = s.comp.player := congrArg Prod.fst h

/-- R137: the step run out is followed by one of the sequence, or kept. -/
theorem stepRunsOut_fits {p : Playing} (s : State) (h : StepFits p) : PlayerFits (stepRunsOut p s).comp.player := by
  obtain ⟨last, lo, hi⟩ := h
  unfold stepRunsOut
  split
  · exact enterStep_fits s last (by omega) (by omega)
  · split
    · exact enterStep_fits s last (Nat.le_refl _) (by omega)
    · rw [raiseNotice_comp, withComp_comp, playerFits_active]; exact ⟨last, lo, hi⟩

theorem countStep_fits {s : State} (f : PlayerFits s.comp.player) : PlayerFits (countStep s).comp.player := by
  unfold countStep
  split
  · exact f
  · split
    · rename_i p hp
      rw [hp, playerFits_active] at f
      split
      · exact stepRunsOut_fits s f
      · rw [withComp_comp, playerFits_active]; exact f
    · exact f

theorem swapBuffers_player (refresh : Option Byte) (s : State) : (swapBuffers refresh s).comp.player = s.comp.player := by
  simp only [swapBuffers]; (repeat' split) <;> simp [placeCurtainBlank]

theorem countdownRule_player (s : State) : (countdownRule s).comp.player = s.comp.player := by
  simp only [countdownRule, withComp_comp]
  split
  · exact reportChange_player _ s
  · rfl

/-- R131: the steps of a mark. -/
theorem markSteps_fits {refresh : Option Byte} {s : State} (f : PlayerFits s.comp.player) :
    PlayerFits (markSteps refresh s).comp.player := by
  unfold markSteps
  rw [countdownRule_player]
  exact countStep_fits (by rw [swapBuffers_player]; exact f)

theorem markWall_player (refresh : Byte) (s : State) : (markWall refresh s).comp.player = s.comp.player := by
  simp only [markWall]; split <;> simp

theorem setResting_player (v : View) (s : State) : (setResting v s).comp.player = s.comp.player := by
  simp only [setResting]
  split
  · split
    · rfl
    · exact recompose_player _
  · rfl

theorem storeTeam_player (t : Fin 16) (x : Team) (s : State) : (storeTeam t x s).comp.player = s.comp.player := by
  simp only [storeTeam]
  split
  · split <;> simp
  · rw [reportChange_player]; split <;> simp

theorem storeConfig_player (c : Config) (s : State) : (storeConfig c s).comp.player = s.comp.player := by
  simp only [storeConfig, setResting_player, withHub_comp, dropCoalescing]
  (repeat' split) <;> rfl

/-! ## The works -/

theorem CompWork.keeps_player {s u : State} (h : CompWork s u) (l : PlayerLaw s) : PlayerFits u.comp.player := by
  obtain ⟨w, f⟩ := (playerLaw_iff s).mp l
  cases h with
  | reveals n =>
    unfold revealAction
    split
    · split
      · exact playSequence_fits _ w
      · exact f
    · exact f
  | stops =>
    unfold stopSequence
    split
    · exact f
    · dsimp only; rw [recompose_player]; exact playerFits_stopped
  | freezes => exact f
  | thaws => exact f
  | curtainOn => unfold curtainOnAction; split <;> exact f
  | curtainOff => unfold curtainOffAction; split <;> exact f
  | rests v =>
    unfold restingAction
    split
    · dsimp only; rw [setResting_player]; exact f
    · exact f
  | marks refresh => exact markSteps_fits (by rw [markWall_player]; exact f)
  | marksItself => exact markSteps_fits f
  | composed => unfold endCompose; split <;> exact f
  | fallsSilent => simpa [wallFallsSilent] using f

theorem handOff_player (f : Stamped) (s : State) : (handOff f s).comp.player = s.comp.player := by
  rcases handOff_cases f s with h | ⟨-, a, ha, h⟩
  · rw [h]; rfl
  · have same : a.comp.player = s.comp.player := by
      rcases ha with ⟨cls, battery, rfl⟩ | ⟨n, rfl⟩ <;> simp [pressHeard]
    rw [← same]
    rcases h with h | ⟨team, key, time, marks, h⟩ | ⟨team, v, time, marks, h⟩
    · rw [h]
    · rw [h]; exact fixtures_player (by simp)
    · rw [h]; exact fixtures_player (by simp)

theorem RoundWork.keeps_player {s u : State} (h : RoundWork s u) (l : PlayerLaw s) : PlayerFits u.comp.player := by
  have f := ((playerLaw_iff s).mp l).2
  cases h with
  | opens q idle => rw [fixtures_player (openChosen_fixtures s q)]; exact f
  | closes idle => rw [fixtures_player (closeAction_fixtures s)]; exact f
  | commits idle => rw [fixtures_player (commitAction_fixtures s)]; exact f
  | cancels idle => rw [fixtures_player (cancelAction_fixtures s)]; exact f
  | judges team verdict idle => rw [fixtures_player (judgeAction_fixtures s team verdict)]; exact f
  | windowExpires due => rw [fixtures_player (closeAnswering_fixtures s)]; exact f
  | settles due => rw [fixtures_player (settleExpires_fixtures s)]; exact f
  | headSettles => rw [fixtures_player (grantTest_fixtures s)]; exact f
  | answerExpires due => rw [fixtures_player (answerTimeout_fixtures s)]; exact f
  | applies due =>
    obtain ⟨a, r, same, records, revealed⟩ := applicationStep_fixtures s
    rw [fixtures_player revealed]
    exact revealAfterCommit_fits r ⟨l.1.congr records, by rw [fixtures_player same]; exact l.2⟩
  | handsOff f' held => rw [handOff_player]; exact f

theorem ScoreWork.keeps_player {s u : State} (h : ScoreWork s u) : u.comp.player = s.comp.player := by
  cases h with
  | publishes => simp only [publish]; split <;> exact reportChange_player _ _
  | revokes => unfold revokeAction; (repeat' split) <;> simp [revoke]
  | adjusts team delta => unfold adjustAction; split <;> simp
  | clears => unfold clearScoresAction; split <;> simp
  | visits k => simp

theorem RecordStore.keeps_player {r : List Byte} {s u : State} (h : RecordStore r s u) : u.comp.player = s.comp.player := by
  cases h with
  | team t =>
    unfold writeTeam
    (repeat' split)
    · rfl
    · rfl
    · exact storeTeam_player _ _ s
  | config =>
    unfold writeConfigRecord
    split
    · rfl
    · exact storeConfig_player _ s
  | sequence i => simp only [writeSequence]; split <;> rfl
  | step i => simp only [writeStep]; split <;> rfl
  | refused => rfl
  | seat k => simp
  | question q => simp
  | cue i => simp
  | port p => simp

theorem resetTables_player (s : State) : (resetTables s).comp.player = s.comp.player := by
  have seats := foldl_keeps (fun s k => assignTeam k none s) (fun s => s.comp.player) (by intro s k; simp) (List.finRange 256)
  have teams := foldl_keeps (fun s t => storeTeam t Team.reset s) (fun s => s.comp.player)
    (fun s t => storeTeam_player t _ s) (List.finRange 16)
  simp only [resetTables, storeConfig_player, withPorts_comp, withComp_comp, withCues_comp, withQuestions_comp]
  exact (teams _).trans (seats s)

theorem TableWork.keeps_player {s u : State} (h : TableWork s u) : u.comp.player = s.comp.player := by
  have run : ∀ t i rs, (recordOutcomes t i rs s).2.comp.player = s.comp.player := fun t i rs =>
    recordOutcomes_stores (P := fun u => u.comp.player = s.comp.player) (fun r v u h e => h.keeps_player.trans e) t rs i s rfl
  cases h with
  | writes t i records => exact run t i records
  | reads t first returned => simp
  | walksSection =>
    obtain ⟨u, e, -, rfl | ⟨t, i, rs, rfl⟩⟩ := walkSection_cases s
    · rw [e]; rfl
    · rw [e]; exact run t i rs
  | loadEnds r due =>
    rw [endLoad_eq]
    cases r <;> simp [loadAction, resetTables_player, autostart_same]
  | reloads flash => unfold reloadAction; split <;> rfl

/-- R136, R137: every work keeps the player lawful. -/
theorem Work.keeps_player {s u : State} (h : Work s u) (l : PlayerLaw s) : PlayerLaw u := by
  have f := ((playerLaw_iff s).mp l).2
  refine (playerLaw_iff u).mpr ⟨h.keeps_records l.1, ?_⟩
  cases h with
  | nothing => exact f
  | hardReset strap flash => exact playerFits_stopped
  | warmRestart => exact playerFits_stopped
  | port h => rw [show u.comp = s.comp by cases h <;> simp]; exact f
  | round h => exact h.keeps_player l
  | score h => rw [h.keeps_player]; exact f
  | comp h => exact h.keeps_player l
  | table h => rw [h.keeps_player]; exact f

end Sys2Proof.Machine
end

section
/-! SUPPORT. What the works of the Row Port Controllers do to a port and to the presence of a seat (chapter 3, R34 to R36), and the
ports law (R43, R44, R50). -/

namespace Sys2Proof.Machine

/-! ## The ports after each operation -/

theorem startSweep_port (p o : Fin 4) (s : State) :
    (startSweep p s).ports[o] = if o = p then s.ports[p].afterBeacon (builtBeacon p s) s.now else s.ports[o] := by
  simp only [startSweep, withStamper_ports, setPort_get, mapSeats_now, mapSeats_ports]

/-- R46: the port that the wake timer's expiry sweeps with. -/
def wokenPort (x : Port) : Port :=
  { x with
    state := .sweeping, wakeTimer := none, checkPointer := 0, roll := some ((x.cfg.positions + 3) / 4), feedback := []
    lampNext := some 0 }

theorem enterSweeping_port (p o : Fin 4) (s : State) :
    ∃ b now, b.checks = (wokenPort s.ports[p]).checks ∧
      (enterSweeping p s).ports[o] = if o = p then (wokenPort s.ports[p]).afterBeacon b now else s.ports[o] := by
  let woken := startLampSweep p (startRoll p (s.setPort p { s.ports[p] with state := .sweeping, wakeTimer := none }))
  have own : woken.ports[p] = wokenPort s.ports[p] := by
    simp only [woken, startLampSweep_port, startRoll, setPort_get, if_true, wokenPort]
  refine ⟨builtBeacon p woken, woken.now, by simp only [builtBeacon, own], ?_⟩
  rw [enterSweeping_eq]
  refine (startSweep_port p o woken).trans ?_
  by_cases e : o = p
  · rw [if_pos e, if_pos e, own]
  · rw [if_neg e, if_neg e]
    simp only [woken, startLampSweep_port, startRoll, setPort_get, if_neg e]

theorem finishRoll_port (p o : Fin 4) (sw : Sweep) (s : State) :
    (finishRoll p sw s).ports[o] =
      if o = p then { s.ports[p] with roll := if sw.beacon.roll ∧ s.ports[p].roll = some 0 then none else s.ports[p].roll }
      else s.ports[o] := by
  unfold finishRoll
  by_cases h : sw.beacon.roll = true ∧ s.ports[p].roll = some 0
  · rw [if_pos h, raiseNotice_ports, setPort_get, if_pos h]
  · rw [if_neg h, if_neg h]
    split
    · rename_i e; rw [e]
    · rfl

theorem endSweep_port (p o : Fin 4) (sw : Sweep) (s : State) :
    (endSweep p sw s).ports[o] =
      if o = p then { s.ports[p] with
        sweep := some { sw with ended := true }
        roll := if sw.beacon.roll ∧ s.ports[p].roll = some 0 then none else s.ports[p].roll }
      else s.ports[o] := by
  unfold endSweep
  simp only [finishRoll_port, reportChecks_ports, setPort_get, if_true]
  split <;> rfl

theorem beginBreak_port (p o : Fin 4) (idle : Bool) (s : State) :
    (beginBreak p idle s).ports[o] = if o = p then { s.ports[p] with feedback := [] }.broken idle s.now else s.ports[o] := by
  simp only [beginBreak, raiseNotice_ports, silencePort_ports, setPort_get, emptyFeedback_port, if_true, emptyFeedback_now]
  split <;> rfl

theorem endBreak_port (p o : Fin 4) (s : State) :
    (endBreak p s).ports[o] =
      if o = p then { s.ports[p] with idleTimer := none, state := .waking, wakeTimer := some (after s.now 160) }
      else s.ports[o] := by
  simp only [endBreak, wakePort, setPort_get, raiseNotice_ports, raiseNotice_now, setPort_now, if_true]
  split <;> rfl

/-- R55, R56: a reception keeps the port's state and configuration, and the beacon of its sweep. -/
theorem Port.receive_keeps (x : Port) (start last : Time) (bytes : List Byte) (now : Time) :
    (x.receive start last bytes now).state = x.state ∧ (x.receive start last bytes now).cfg = x.cfg
      ∧ (x.receive start last bytes now).sweep.map (·.beacon) = x.sweep.map (·.beacon) := by
  unfold Port.receive
  split
  · rename_i sw st running
    split
    · split
      · exact ⟨rfl, rfl, rfl⟩
      · split
        · exact ⟨rfl, rfl, rfl⟩
        · unfold Port.slotFrame
          (repeat' split) <;> simp [Port.enterInbox_eq, running]
    · exact ⟨rfl, rfl, rfl⟩
  · exact ⟨rfl, rfl, rfl⟩

theorem takeEntry_port (p o : Fin 4) (s : State) :
    ∃ rest, (takeEntry p s).ports[o] = if o = p then { s.ports[p] with inbox := rest } else s.ports[o] := by
  unfold takeEntry
  split
  · refine ⟨s.ports[p].inbox, ?_⟩
    split
    · rename_i e; rw [e]
    · rfl
  · exact ⟨_, setPort_get _ _ _ _⟩

/-! ## One port -/

/-- R50: a port in range builds a beacon without a position twice. -/
theorem Port.checks_nodup (x : Port) (h1 : 1 ≤ x.cfg.positions) (h2 : x.cfg.positions ≤ 64) : x.checks.Nodup := by
  refine List.Nodup.of_map Fin.val ?_
  rw [x.checks_val h1 h2]
  have few : x.checkCount ≤ x.cfg.positions := by unfold Port.checkCount; split <;> omega
  have start : x.pointer < x.cfg.positions := by unfold Port.pointer; split <;> omega
  refine List.Nodup.map_on ?_ List.nodup_range
  intro i hi j hj same
  have hi := List.mem_range.mp hi
  have hj := List.mem_range.mp hj
  have wrap : ∀ k, k < x.checkCount → (x.pointer + k) % x.cfg.positions =
      if x.pointer + k < x.cfg.positions then x.pointer + k else x.pointer + k - x.cfg.positions := by
    intro k hk
    split
    · exact Nat.mod_eq_of_lt ‹_›
    · rw [Nat.mod_eq_sub_mod (by omega), Nat.mod_eq_of_lt (by omega)]
  rw [wrap i hi, wrap j hj] at same
  split at same <;> split at same <;> omega

/-- What a command can make of a port (chapter 3), of its state, its configuration and the beacon of its sweep; `shows` tells which
of its positions have a PRESENT seat afterwards (R36), and `free` that no load runs (R173). -/
inductive PortChange (free : Prop) (shows : Fin 64 → Prop) (x y : Port) : Prop
  | stays (st : y.state = x.state) (cfg : y.cfg = x.cfg) (sw : y.sweep.map (·.beacon) = x.sweep.map (·.beacon))
  | starts (idle : free) (was : x.state = .stopped) (st : y.state = .waking) (cfg : y.cfg = x.cfg) (sw : y.sweep = x.sweep)
  | stops (st : y.state = .stopped) (cfg : y.cfg = x.cfg) (sw : y.sweep = none) (absent : ∀ pos, ¬ shows pos)
  | sweeps (was : x.state = .waking ∨ x.state = .sweeping) (st : y.state = .sweeping) (cfg : y.cfg = x.cfg)
      (sw : ∃ z : Port, z.cfg = x.cfg ∧ y.sweep.map (·.beacon.checks) = some z.checks)
  | breaks (was : x.state = .sweeping) (st : y.state = .broken) (cfg : y.cfg = x.cfg) (sw : y.sweep = none)
      (silent : ∀ pos, shows pos → x.cfg.positions ≤ pos.val)
  | wakes (was : x.state = .broken) (st : y.state = .waking) (cfg : y.cfg = x.cfg) (sw : y.sweep = x.sweep)

theorem PortChange.refl (free : Prop) (shows : Fin 64 → Prop) (x : Port) : PortChange free shows x x := .stays rfl rfl rfl

/-- One port changes, and the others stay. -/
theorem PortChange.at_port {free : Prop} {shows : Fin 64 → Prop} {p o : Fin 4} {x y z : Port}
    (h : z = if o = p then y else x) (c : o = p → PortChange free shows x y) : PortChange free shows x z := by
  split at h
  · rw [h]; exact c ‹_›
  · rw [h]; exact .refl free shows x

/-- R36: the presences that a STOP leaves. -/
theorem stopPort_presence (loud : Bool) (p : Fin 4) (s : State) (k : Fin 256) :
    (stopPort loud p s).seats[k].presence = if portOf k = p then .absent else s.seats[k].presence := by
  simp only [stopPort, absentPort_seat, clearHistory, withStamper_seats, setPort_seats, emptyFeedback_seat]
  split <;> rfl

/-- R36: the presences that the beginning of a break leaves. -/
theorem beginBreak_presence (p : Fin 4) (idle : Bool) (s : State) (k : Fin 256) :
    (beginBreak p idle s).seats[k].presence =
      if portOf k = p ∧ (posOf k).val < s.ports[p].cfg.positions then .silent else s.seats[k].presence := by
  have cfg : ((emptyFeedback p s).setPort p ((emptyFeedback p s).ports[p].broken idle (emptyFeedback p s).now)).ports[p].cfg
      = s.ports[p].cfg := by
    simp only [setPort_get, if_true, emptyFeedback_port]; rfl
  simp only [beginBreak, raiseNotice_seats, silencePort_seat, cfg, setPort_seats, emptyFeedback_seat]
  split <;> rfl

/-- Position `pos` of port o has a PRESENT seat. -/
def Shows (s : State) (o : Fin 4) (pos : Fin 64) : Prop := s.seats[seatOf o pos].presence = .present

theorem PortWork.port_change {s u : State} (h : PortWork s u) (o : Fin 4) :
    PortChange (s.loader.running = false) (Shows u o) s.ports[o] u.ports[o] := by
  cases h with
  | starts p idle =>
    rw [startPort_port]
    split
    · rename_i e; rw [e.1]; exact .starts idle e.2 rfl rfl rfl
    · exact .refl _ _ _
  | stops p idle =>
    refine .at_port (stopPort_port _ _ _ _) fun e => ?_
    rw [e]
    refine .stops rfl rfl rfl fun pos => ?_
    unfold Shows
    rw [stopPort_presence, if_pos (portOf_seatOf p pos)]
    decide
  | rollCalls p idle =>
    unfold rollCall
    (repeat' split)
    · exact .refl _ _ _
    · exact .refl _ _ _
    · exact .at_port (setPort_get _ _ _ _) fun e => by rw [e]; exact .stays rfl rfl rfl
  | wakes p due =>
    simp only [wakeDue, Bool.and_eq_true, beq_iff_eq] at due
    obtain ⟨b, now, checks, h⟩ := enterSweeping_port p o s
    refine .at_port h fun e => ?_
    rw [e]
    exact .sweeps (.inl due.1) rfl rfl ⟨wokenPort s.ports[p], rfl, by simp [Port.afterBeacon, checks]⟩
  | sweeps p due =>
    simp only [sweepStartDue, Bool.and_eq_true, beq_iff_eq] at due
    refine .at_port (startSweep_port p o s) fun e => ?_
    rw [e]
    exact .sweeps (.inr due.1.1) due.1.1 rfl ⟨s.ports[p], rfl, rfl⟩
  | sweepEnds p sw runs =>
    refine .at_port (endSweep_port p o sw s) fun e => ?_
    rw [e]
    exact .stays rfl rfl (by dsimp only; rw [runs]; rfl)
  | receives p start last bytes =>
    refine .at_port (setPort_get _ _ _ _) fun e => ?_
    rw [e]
    obtain ⟨st, cfg, sw⟩ := s.ports[p].receive_keeps start last bytes s.now
    exact .stays st cfg sw
  | breaks p line due =>
    refine .at_port (beginBreak_port p o line.idle s) fun e => ?_
    rw [e]
    refine .breaks ?_ rfl rfl rfl fun pos shows => ?_
    · unfold Port.breakDue at due
      split at due
      · assumption
      · cases due
    · unfold Shows at shows
      rw [beginBreak_presence, portOf_seatOf, posOf_seatOf] at shows
      by_contra below
      rw [if_pos ⟨rfl, Nat.lt_of_not_le below⟩] at shows
      cases shows
  | lineChanges p active => exact .at_port (setPort_get _ _ _ _) fun e => by rw [e]; exact .stays rfl rfl rfl
  | breakEnds p due => exact .at_port (endBreak_port p o s) fun e => by rw [e]; exact .wakes due rfl rfl rfl
  | takesEntry p =>
    obtain ⟨rest, h⟩ := takeEntry_port p o s
    exact .at_port h fun e => by rw [e]; exact .stays rfl rfl rfl

/-! ## The ports law -/

/-- R43, R44: a PORTCFG record within its ranges. -/
def portCfgInRange (c : PortCfg) : Prop :=
  1 ≤ c.positions ∧ c.positions ≤ 64 ∧ 8 ≤ c.period ∧ c.period ≤ 64 ∧ 16 + 2 * c.positions ≤ 8 * c.period ∧ c.skew ≤ 255

/-- R50: the beacon of a sweep names no position twice. -/
def SweepFits (x : Option Sweep) : Prop := ∀ sw, x = some sw → sw.beacon.checks.Nodup

theorem portsLaw_iff (s : State) : PortsLaw s ↔ ∀ p : Fin 4, portCfgInRange s.ports[p].cfg ∧ SweepFits s.ports[p].sweep := by
  unfold PortsLaw portCfgInRange SweepFits
  simp only [and_assoc]

theorem PortsLaw.congr {s u : State} (h : PortsLaw s) (e : (posts u).1 = (posts s).1) : PortsLaw u := by
  refine (portsLaw_iff u).mpr fun p => ?_
  have same := congrFun e p
  simp only [posts, fixtures, Prod.mk.injEq] at same
  rw [same.2.1, same.2.2]
  exact (portsLaw_iff s).mp h p

theorem sweepFits_congr {x y : Option Sweep} (e : y.map (·.beacon) = x.map (·.beacon)) (h : SweepFits x) : SweepFits y := by
  rintro sw rfl
  obtain ⟨old, he, beacon⟩ := Option.map_eq_some_iff.mp e.symm
  have beacon : old.beacon = sw.beacon := beacon
  rw [← beacon]; exact h old he

theorem sweepFits_none : SweepFits none := nofun

theorem PortChange.lawful {free : Prop} {shows : Fin 64 → Prop} {x y : Port} (c : PortChange free shows x y)
    (cfg : portCfgInRange x.cfg) (sw : SweepFits x.sweep) :
    portCfgInRange y.cfg ∧ SweepFits y.sweep := by
  cases c with
  | stays _ same beacon => rw [same]; exact ⟨cfg, sweepFits_congr beacon sw⟩
  | starts _ _ _ same sweep => rw [same, sweep]; exact ⟨cfg, sw⟩
  | stops _ same sweep => rw [same, sweep]; exact ⟨cfg, sweepFits_none⟩
  | sweeps _ _ same beacon =>
    obtain ⟨z, zc, hz⟩ := beacon
    refine ⟨by rw [same]; exact cfg, fun sw' e => ?_⟩
    rw [e, Option.map_some, Option.some.injEq] at hz
    rw [hz]
    obtain ⟨h1, h2, -⟩ := cfg
    exact z.checks_nodup (by rw [zc]; exact h1) (by rw [zc]; exact h2)
  | breaks _ _ same sweep => rw [same, sweep]; exact ⟨cfg, sweepFits_none⟩
  | wakes _ _ same sweep => rw [same, sweep]; exact ⟨cfg, sw⟩

theorem portCfgInRange_reset : portCfgInRange PortCfg.reset := by unfold portCfgInRange; decide

/-- R44: a stored PORTCFG record is in range, its period at or above the minimum. -/
theorem portRecord_inRange (r : List Byte) : portCfgInRange (portRecord r) := by
  have c1 : 1 ≤ clampNat (u8 r 1) 1 64 ∧ clampNat (u8 r 1) 1 64 ≤ 64 := clampNat_bounds (by decide)
  have c2 : 8 ≤ clampNat (u8 r 2) 8 64 ∧ clampNat (u8 r 2) 8 64 ≤ 64 := clampNat_bounds (by decide)
  have c3 := u8_lt r 3
  simp only [portCfgInRange, portRecord, minPeriod]
  omega

/-- R44: a store of a PORTCFG record changes the configuration of its port alone. -/
theorem writePort_cases (p : Fin 4) (r : List Byte) (s : State) :
    (writePort p r s).1 = s
      ∨ ((s.ports[p].state = .stopped ∨ (portRecord r).positions = s.ports[p].cfg.positions)
        ∧ (writePort p r s).1 = s.setPort p { s.ports[p] with cfg := portRecord r }) := by
  unfold writePort
  simp only []
  split
  · exact .inl rfl
  · rename_i free
    refine .inr ⟨?_, rfl⟩
    simp only [ne_eq, not_and_or, not_or, not_not] at free
    exact free.imp_right (·.1)

end Sys2Proof.Machine
end

section
/-! SUPPORT. A load runs in IDLE alone, with every port STOPPED (R173), and the presence of a seat is bounded by the state of its
port (R36): through every work, and with them through every step. -/

namespace Sys2Proof.Machine

/-! ## The parts of the law -/

/-- R173: while a load runs the round is IDLE and every port STOPPED. -/
def LoadFits (s : State) : Prop :=
  s.loader.running = true → s.round.state = .idle ∧ ∀ p : Fin 4, s.ports[p].state = .stopped

/-- R36: what a PRESENT seat says of its port. -/
def PresentAllowed (p : Port) (pos : Fin 64) : Prop :=
  p.state = .sweeping ∨ (p.cfg.positions ≤ pos.val ∧ p.state ≠ .stopped)

/-- R36: every PRESENT seat is allowed by its port. -/
def PresenceFits (s : State) : Prop :=
  ∀ k : Fin 256, s.seats[k].presence = .present → PresentAllowed s.ports[portOf k] (posOf k)

theorem presenceLaw_iff (s : State) : PresenceLaw s ↔ (WalkOnlyCommitting s ∧ LoadFits s) ∧ PresenceFits s := Iff.rfl

theorem loadFits_idle {u : State} (h : u.loader.running = false) : LoadFits u := fun c => absurd (h.symm.trans c) (by decide)

/-- The states of the ports, as the fixtures give them. -/
theorem port_state_of_posts {s u : State} (h : (posts u).1 = (posts s).1) (p : Fin 4) :
    u.ports[p].state = s.ports[p].state ∧ u.ports[p].cfg = s.ports[p].cfg ∧ u.ports[p].sweep = s.ports[p].sweep := by
  have same := congrFun h p
  simpa only [posts, fixtures, Prod.mk.injEq] using same

theorem presence_of_posts {s u : State} (h : posts u = posts s) (k : Fin 256) : u.seats[k].presence = s.seats[k].presence :=
  congrFun (congrArg Prod.snd h) k

theorem LoadFits.congr {s u : State} (h : LoadFits s) (l : u.loader.running = s.loader.running)
    (r : u.round.state = s.round.state) (p : (posts u).1 = (posts s).1) : LoadFits u := by
  intro c
  rw [l] at c
  obtain ⟨idle, stopped⟩ := h c
  exact ⟨r.trans idle, fun o => (port_state_of_posts p o).1.trans (stopped o)⟩

theorem presentAllowed_congr {p q : Port} {pos : Fin 64} (st : q.state = p.state) (cfg : q.cfg = p.cfg)
    (h : PresentAllowed p pos) : PresentAllowed q pos := by
  unfold PresentAllowed at *; rw [st, cfg]; exact h

/-- R36: presences that were there before, on ports with the same state and configuration. -/
theorem PresenceFits.mono {s u : State} (h : PresenceFits s) (p : (posts u).1 = (posts s).1)
    (k : ∀ k : Fin 256, u.seats[k].presence = .present → s.seats[k].presence = .present) : PresenceFits u := by
  intro j hj
  obtain ⟨st, cfg, -⟩ := port_state_of_posts p (portOf j)
  exact presentAllowed_congr st cfg (h j (k j hj))

theorem PresenceFits.congr {s u : State} (h : PresenceFits s) (e : posts u = posts s) : PresenceFits u :=
  h.mono (congrArg Prod.fst e) fun k hk => by rw [← presence_of_posts e k]; exact hk

/-- R36: with every port STOPPED no seat is PRESENT. -/
theorem PresenceFits.none_present {s : State} (h : PresenceFits s) {k : Fin 256} (st : s.ports[portOf k].state = .stopped) :
    s.seats[k].presence ≠ .present := by
  intro c
  rcases h k c with sw | ⟨-, ne⟩
  · rw [st] at sw; cases sw
  · exact ne st

theorem presenceFits_none {u : State} (h : ∀ k : Fin 256, u.seats[k].presence ≠ .present) : PresenceFits u :=
  fun k hk => absurd hk (h k)

/-! ## The works of the ports -/

theorem reportChecks_presence (p : Fin 4) (sw : Sweep) (s : State) (k : Fin 256)
    (h : (reportChecks p sw s).seats[k].presence = .present) : s.seats[k].presence = .present := by
  have kept := foldl_invariant
    (fun (s : State) pos => reportCheck (decide (pos ∈ sw.hellos)) sw.beacon.roll (seatOf p pos) s)
    (fun u => u.seats[k].presence = .present → s.seats[k].presence = .present) (fun u pos hu hk => by
      rw [reportCheck_seat] at hk
      split at hk
      · rename_i e
        refine hu ?_
        rw [e]
        unfold Seat.reported at hk
        split at hk
        · exact hk
        · split at hk
          · cases hk
          · dsimp only at hk
            split at hk
            · cases hk
            · exact hk
      · exact hu hk) sw.beacon.checks s id
  exact kept h

/-- R34 to R36: the ports make no seat PRESENT. -/
theorem PortWork.presence {s u : State} (h : PortWork s u) (k : Fin 256) (hk : u.seats[k].presence = .present) :
    s.seats[k].presence = .present := by
  cases h with
  | stops p idle =>
    rw [stopPort_presence] at hk
    split at hk
    · cases hk
    · exact hk
  | wakes p due =>
    have same : (enterSweeping p s).seats[k].presence = s.seats[k].presence := by
      rw [enterSweeping_eq, startSweep_seat]
      dsimp only
      rw [startLampSweep_seat]
      rfl
    exact same.symm.trans hk
  | sweeps p due => rw [startSweep_seat] at hk; exact hk
  | sweepEnds p sw runs =>
    refine reportChecks_presence p sw (s.setPort p { s.ports[p] with sweep := some { sw with ended := true } }) k ?_
    have same : (endSweep p sw s).seats =
        (reportChecks p sw (s.setPort p { s.ports[p] with sweep := some { sw with ended := true } })).seats := by
      simp only [endSweep, finishRoll]; split <;> simp
    rw [← same]; exact hk
  | breaks p line due =>
    rw [beginBreak_presence] at hk
    split at hk
    · cases hk
    · exact hk
  | starts p idle => simpa using hk
  | rollCalls p idle => simpa using hk
  | receives p start last bytes => exact hk
  | lineChanges p active => exact hk
  | breakEnds p due => simpa using hk
  | takesEntry p => simpa using hk

/-- R36: a port that changes allows the PRESENT seats that it shows. -/
theorem PortChange.allowed {free : Prop} {shows : Fin 64 → Prop} {x y : Port} {pos : Fin 64}
    (c : PortChange free shows x y) (hp : shows pos)
    (old : PresentAllowed x pos) : PresentAllowed y pos := by
  unfold PresentAllowed at old ⊢
  cases c with
  | stays st cfg _ => rw [st, cfg]; exact old
  | starts _ was => rw [was] at old; simp at old
  | stops _ _ _ absent => exact absurd hp (absent pos)
  | sweeps _ st => exact .inl st
  | breaks _ st cfg _ silent => exact .inr ⟨by rw [cfg]; exact silent pos hp, by rw [st]; decide⟩
  | wakes was st cfg _ =>
    rw [was] at old
    exact .inr ⟨by rw [cfg]; simpa using old, by rw [st]; decide⟩

theorem PortWork.keeps_presence {s u : State} (h : PortWork s u) (f : PresenceFits s) : PresenceFits u := by
  intro k hk
  refine (h.port_change (portOf k)).allowed (pos := posOf k) ?_ (f k (h.presence k hk))
  simpa only [Shows, seatOf_portOf] using hk

/-- R173: a STOPPED port leaves STOPPED only while no load runs. -/
theorem PortChange.stopped {free : Prop} {shows : Fin 64 → Prop} {x y : Port} (c : PortChange free shows x y)
    (h : x.state = .stopped) (busy : ¬ free) : y.state = .stopped := by
  cases c with
  | stays st => exact st.trans h
  | starts idle => exact absurd idle busy
  | stops st => exact st
  | sweeps was => rw [h] at was; simp at was
  | breaks was => rw [h] at was; cases was
  | wakes was => rw [h] at was; cases was

theorem PortWork.keeps_load {s u : State} (h : PortWork s u) (l : LoadFits s) : LoadFits u := by
  intro running
  have loader : u.loader = s.loader := by cases h <;> simp
  rw [loader] at running
  obtain ⟨idle, stopped⟩ := l running
  exact ⟨by rw [h.keeps_round.1]; exact idle, fun o => (h.port_change o).stopped (stopped o) (by simp [running])⟩

/-! ## The works of the round -/

/-- R32: of the fixtures, a frame handed off changes nothing, or one seat of a SWEEPING port. -/
theorem handOff_fixtures (f : Stamped) (s : State) :
    fixtures (handOff f s) = fixtures s
      ∨ (s.ports[f.port].state = .sweeping
        ∧ ∃ x, fixtures (handOff f s) = fixtures (s.setSeat (seatOf f.port f.position) x)) := by
  rcases handOff_cases f s with h | ⟨sweeping, a, ha, h⟩
  · rw [h]; exact .inl rfl
  · refine .inr ⟨sweeping, ?_⟩
    have heard : ∃ x, fixtures a = fixtures (s.setSeat (seatOf f.port f.position) x) := by
      rcases ha with ⟨cls, battery, rfl⟩ | ⟨n, rfl⟩
      · exact ⟨_, raiseSeat_fixtures _ _ _⟩
      · exact ⟨_, (raiseSeat_fixtures _ _ _).trans (queueFeedback_fixtures _ _)⟩
    rcases h with h | ⟨team, key, time, marks, h⟩ | ⟨team, v, time, marks, h⟩
    · rw [h]; exact heard
    · rw [h, routeKey_fixtures]; exact heard
    · rw [h, routeDigits_fixtures]; exact heard

/-- Of the posts, a work of the round changes nothing, or one seat of a SWEEPING port (R32). -/
theorem RoundWork.posts_cases {s u : State} (h : RoundWork s u) :
    posts u = posts s
      ∨ ∃ k x, s.ports[portOf k].state = .sweeping ∧ posts u = posts (s.setSeat k x) := by
  cases h with
  | opens q idle => exact .inl (congrArg Prod.snd (openChosen_fixtures s q))
  | closes idle => exact .inl (congrArg Prod.snd (closeAction_fixtures s))
  | commits idle => exact .inl (congrArg Prod.snd (commitAction_fixtures s))
  | cancels idle => exact .inl (congrArg Prod.snd (cancelAction_fixtures s))
  | judges team verdict idle => exact .inl (congrArg Prod.snd (judgeAction_fixtures s team verdict))
  | windowExpires due => exact .inl (congrArg Prod.snd (closeAnswering_fixtures s))
  | settles due => exact .inl (congrArg Prod.snd (settleExpires_fixtures s))
  | headSettles => exact .inl (congrArg Prod.snd (grantTest_fixtures s))
  | answerExpires due => exact .inl (congrArg Prod.snd (answerTimeout_fixtures s))
  | applies due =>
    obtain ⟨a, r, same, -, revealed⟩ := applicationStep_fixtures s
    refine .inl ((congrArg Prod.snd revealed).trans ?_)
    exact (posts_of_same (by simp) (by simp)).trans (congrArg Prod.snd same)
  | handsOff f held =>
    rcases handOff_fixtures f s with h | ⟨sweeping, x, h⟩
    · exact .inl (congrArg Prod.snd h)
    · exact .inr ⟨seatOf f.port f.position, x, by simpa using sweeping, congrArg Prod.snd h⟩

theorem RoundWork.ports_same {s u : State} (h : RoundWork s u) : (posts u).1 = (posts s).1 := by
  rcases h.posts_cases with e | ⟨k, x, -, e⟩
  · rw [e]
  · rw [e]; rfl

theorem RoundWork.keeps_presence {s u : State} (h : RoundWork s u) (f : PresenceFits s) : PresenceFits u := by
  rcases h.posts_cases with e | ⟨k, x, sweeping, e⟩
  · exact f.congr e
  · refine PresenceFits.congr (s := s.setSeat k x) (fun j hj => ?_) e
    rw [setSeat_get] at hj
    by_cases same : j = k
    · rw [same]; exact .inl sweeping
    · rw [if_neg same] at hj; exact f j hj

/-- R173: nothing of the round moves while a load runs: no request is executed, no timer of the round runs in IDLE, and no frame
of a STOPPED port is taken. -/
theorem RoundWork.keeps_load {s u : State} (h : RoundWork s u) (w : WalkOnlyCommitting s) (l : LoadFits s) : LoadFits u := by
  have loader : u.loader = s.loader := by cases h <;> simp
  intro running
  rw [loader] at running
  obtain ⟨idle, stopped⟩ := l running
  refine ⟨?_, fun o => (port_state_of_posts h.ports_same o).1.trans (stopped o)⟩
  cases h with
  | opens q free => rw [running] at free; cases free
  | closes free => rw [running] at free; cases free
  | commits free => rw [running] at free; cases free
  | cancels free => rw [running] at free; cases free
  | judges team verdict free => rw [running] at free; cases free
  | windowExpires due => simp [windowDue, idle] at due
  | settles due => simp [settleDue, idle] at due
  | answerExpires due => simp [answerDue, idle] at due
  | headSettles =>
    rcases (grantTest_tested s).cases with ⟨round, -⟩ | ⟨e, -, st, -⟩
    · rw [round]; exact idle
    · rw [idle] at st; simp at st
  | applies due =>
    simp only [applicationDue, Bool.and_eq_true] at due
    have c := w due.1.1
    rw [idle] at c; cases c
  | handsOff f held => rw [handOff_stopped f s (by rw [stopped]; decide)]; exact idle

/-! ## The works on the tables -/

theorem assignTeam_fixtures (k : Fin 256) (t : Option (Fin 16)) (s : State) : fixtures (assignTeam k t s) = fixtures s := by
  simp only [assignTeam]
  (repeat' split)
  · exact (raiseSeat_fixtures _ _ _).trans (setSeat_fixtures s rfl)
  · exact setSeat_fixtures s rfl
  · exact setSeat_fixtures s rfl

/-- R44: what a store of a record does to the ports and presences: nothing, or another configuration of one port. -/
theorem RecordStore.posts_cases {r : List Byte} {s u : State} (h : RecordStore r s u) :
    posts u = posts s ∨ ∃ p, u = (writePort p r s).1 := by
  cases h with
  | refused => exact .inl rfl
  | seat k =>
    left
    unfold writeSeat
    (repeat' split)
    · rfl
    · exact congrArg Prod.snd (assignTeam_fixtures _ _ _)
    · rfl
    · exact congrArg Prod.snd (assignTeam_fixtures _ _ _)
  | port p => exact .inr ⟨p, rfl⟩
  | team t => exact .inl (posts_of_same (by simp) (by simp))
  | question q => exact .inl (posts_of_same (by simp) (by simp))
  | cue i => exact .inl (posts_of_same (by simp) (by simp))
  | sequence i => exact .inl (posts_of_same (by simp) (by simp))
  | step i => exact .inl (posts_of_same (by simp) (by simp))
  | config => exact .inl (posts_of_same (by simp) (by simp))

theorem RecordStore.keeps_ports {r : List Byte} {s u : State} (h : RecordStore r s u) (l : PortsLaw s) : PortsLaw u := by
  rcases h.posts_cases with e | ⟨p, rfl⟩
  · exact l.congr (congrArg Prod.fst e)
  · rcases writePort_cases p r s with e | ⟨-, e⟩
    · rw [e]; exact l
    · rw [e]
      have l := (portsLaw_iff s).mp l
      refine (portsLaw_iff _).mpr fun o => ?_
      rw [setPort_get]
      split
      · exact ⟨portRecord_inRange r, (l p).2⟩
      · exact l o

/-- R36, R44: the positions count changes on a STOPPED port alone, where no seat is PRESENT. -/
theorem RecordStore.keeps_presence {r : List Byte} {s u : State} (h : RecordStore r s u) (f : PresenceFits s) :
    PresenceFits u := by
  rcases h.posts_cases with e | ⟨p, rfl⟩
  · exact f.congr e
  · rcases writePort_cases p r s with e | ⟨free, e⟩
    · rw [e]; exact f
    · rw [e]
      intro k hk
      rw [setPort_seats] at hk
      have old := f k hk
      rw [setPort_get]
      split
      · rename_i here
        subst here
        rcases free with st | positions
        · rcases old with sw | ⟨-, ne⟩
          · rw [st] at sw; cases sw
          · exact absurd st ne
        · unfold PresentAllowed at old ⊢
          dsimp only
          rw [positions]; exact old
      · exact old

theorem RecordStore.keeps_load {r : List Byte} {s u : State} (h : RecordStore r s u) (l : LoadFits s) : LoadFits u := by
  have loader : u.loader = s.loader := by cases h <;> simp
  have round : u.round = s.round := by cases h <;> simp
  rcases h.posts_cases with e | ⟨p, rfl⟩
  · exact l.congr (by rw [loader]) (by rw [round]) (congrArg Prod.fst e)
  · rcases writePort_cases p r s with e | ⟨-, e⟩
    · rw [e]; exact l
    · rw [e]
      intro running
      obtain ⟨idle, stopped⟩ := l running
      refine ⟨idle, fun o => ?_⟩
      rw [setPort_get]
      split
      · exact stopped p
      · exact stopped o

/-! ## The end of a load -/

theorem resetTables_posts (s : State) :
    (∀ p : Fin 4, (resetTables s).ports[p].state = s.ports[p].state ∧ (resetTables s).ports[p].cfg = PortCfg.reset
        ∧ (resetTables s).ports[p].sweep = s.ports[p].sweep)
      ∧ ∀ k : Fin 256, (resetTables s).seats[k].presence = s.seats[k].presence := by
  have seats := foldl_keeps (fun s k => assignTeam k none s) posts
    (fun s k => congrArg Prod.snd (assignTeam_fixtures k none s)) (List.finRange 256) s
  have teams := foldl_keeps (fun s t => storeTeam t Team.reset s) posts
    (fun s t => posts_of_same (by simp) (by simp)) (List.finRange 16)
  have e := (teams ((List.finRange 256).foldl (fun s k => assignTeam k none s) s)).trans seats
  unfold resetTables
  dsimp only
  generalize List.foldl (fun s t => storeTeam t Team.reset s) _ (List.finRange 16) = a at e ⊢
  constructor
  · intro p
    obtain ⟨st, -, sw⟩ := port_state_of_posts (congrArg Prod.fst e) p
    simp only [storeConfig_ports, withPorts_ports, Fin.getElem_fin, Vector.getElem_ofFn]
    exact ⟨st, trivial, sw⟩
  · intro k
    simp only [storeConfig_seats, withPorts_seats, withComp_seats, withCues_seats, withQuestions_seats]
    exact presence_of_posts e k

theorem autostart_ports (s : State) (p : Fin 4) :
    (autostart s).ports[p].cfg = s.ports[p].cfg ∧ (autostart s).ports[p].sweep = s.ports[p].sweep := by
  have h := foldl_keeps (fun (s : State) (p : Fin 4) => if s.ports[p].cfg.autostart = true then (startPort p s).1 else s)
    (fun s => (s.ports[p].cfg, s.ports[p].sweep)) (by
      intro s o
      split
      · simp only [startPort_port]
        split
        · rename_i e; rw [e.1]
        · rfl
      · rfl) (List.finRange 4) s
  simpa only [autostart, Prod.mk.injEq] using h

theorem loadResult_running {r : LoadResult} {s : State} (h : loadResult s = some r) : s.loader.running = true := by
  unfold loadResult at h
  cases c : s.loader.running with
  | true => rfl
  | false => simp [c] at h

/-- R174: the end of a load leaves the beacons of the ports, and sets their configurations or leaves them. -/
theorem endLoad_ports (r : LoadResult) (s : State) (p : Fin 4) :
    ((endLoad r s).ports[p].cfg = s.ports[p].cfg ∨ (endLoad r s).ports[p].cfg = PortCfg.reset)
      ∧ (endLoad r s).ports[p].sweep = s.ports[p].sweep := by
  rw [endLoad_eq, raiseNotice_ports, withLoader_ports]
  cases r with
  | none => exact ⟨.inl rfl, rfl⟩
  | empty => exact ⟨.inl rfl, rfl⟩
  | loaded => exact ⟨.inl (autostart_ports _ p).1, (autostart_ports _ p).2⟩
  | failed => exact ⟨.inr ((resetTables_posts _).1 p).2.1, ((resetTables_posts _).1 p).2.2⟩

theorem endLoad_presence (r : LoadResult) (s : State) (k : Fin 256) :
    (endLoad r s).seats[k].presence = s.seats[k].presence := by
  rw [endLoad_eq, raiseNotice_seats, withLoader_seats]
  cases r with
  | none => rfl
  | empty => rfl
  | loaded => simp only [loadAction, autostart_same]; rfl
  | failed => exact (resetTables_posts _).2 k

theorem endLoad_idle (r : LoadResult) (s : State) : (endLoad r s).loader.running = false := by
  rw [endLoad_eq, raiseNotice_loader]; rfl

theorem TableWork.keeps_ports {s u : State} (h : TableWork s u) (l : PortsLaw s) : PortsLaw u := by
  have run : ∀ t i rs, PortsLaw (recordOutcomes t i rs s).2 := fun t i rs =>
    recordOutcomes_stores (fun r v u h => h.keeps_ports) t rs i s l
  cases h with
  | writes t i records => exact run t i records
  | reads t first returned =>
    refine l.congr (funext fun p => ?_)
    unfold clearReadFlags
    split
    · simp only [posts, fixtures, withPorts_ports, Fin.getElem_fin, Vector.getElem_ofFn]
      split <;> rfl
    · rfl
  | walksSection =>
    obtain ⟨u, e, -, rfl | ⟨t, i, rs, rfl⟩⟩ := walkSection_cases s
    · rw [e]; exact l
    · rw [e]; exact run t i rs
  | loadEnds r due =>
    have l := (portsLaw_iff s).mp l
    refine (portsLaw_iff _).mpr fun p => ?_
    obtain ⟨cfg, sw⟩ := endLoad_ports r s p
    refine ⟨?_, by rw [sw]; exact (l p).2⟩
    rcases cfg with e | e <;> rw [e]
    · exact (l p).1
    · exact portCfgInRange_reset
  | reloads flash => unfold reloadAction; split <;> exact l

theorem TableWork.keeps_presence {s u : State} (h : TableWork s u) (l : LoadFits s) (f : PresenceFits s) : PresenceFits u := by
  have run : ∀ t i rs, PresenceFits (recordOutcomes t i rs s).2 := fun t i rs =>
    recordOutcomes_stores (fun r v u h => h.keeps_presence) t rs i s f
  cases h with
  | writes t i records => exact run t i records
  | reads t first returned =>
    refine f.congr (Prod.ext (funext fun p => ?_) (by simp [posts, fixtures]))
    unfold clearReadFlags
    split
    · simp only [posts, fixtures, withPorts_ports, Fin.getElem_fin, Vector.getElem_ofFn]
      split <;> rfl
    · rfl
  | walksSection =>
    obtain ⟨u, e, -, rfl | ⟨t, i, rs, rfl⟩⟩ := walkSection_cases s
    · rw [e]; exact f
    · rw [e]; exact run t i rs
  | loadEnds r due =>
    obtain ⟨-, stopped⟩ := l (loadResult_running due)
    refine presenceFits_none fun k => ?_
    rw [endLoad_presence]
    exact f.none_present (stopped (portOf k))
  | reloads flash => unfold reloadAction; split <;> exact f

/-- R165, R173, R174: a load begins in IDLE with every port STOPPED, goes on so, and ends. -/
theorem TableWork.keeps_load {s u : State} (h : TableWork s u) (l : LoadFits s) : LoadFits u := by
  have run : ∀ t i rs, LoadFits (recordOutcomes t i rs s).2 := fun t i rs =>
    recordOutcomes_stores (fun r v u h => h.keeps_load) t rs i s l
  cases h with
  | writes t i records => exact run t i records
  | reads t first returned =>
    refine l.congr (by simp) (by simp) (funext fun p => ?_)
    unfold clearReadFlags
    split
    · simp only [posts, fixtures, withPorts_ports, Fin.getElem_fin, Vector.getElem_ofFn]
      split <;> rfl
    · rfl
  | walksSection =>
    obtain ⟨u, e, running, kept⟩ := walkSection_cases s
    have fits : LoadFits u := by
      rcases kept with rfl | ⟨t, i, rs, rfl⟩
      · exact l
      · exact run t i rs
    have loader : u.loader.running = s.loader.running := by
      rcases kept with rfl | ⟨t, i, rs, rfl⟩
      · rfl
      · rw [(recordOutcomes_keeps t rs i s).2.2.2.2]
    rw [e]
    exact fits.congr (by rw [withLoader_loader, running, loader]) rfl rfl
  | loadEnds r due => exact loadFits_idle (endLoad_idle r s)
  | reloads flash =>
    unfold reloadAction
    split
    · rename_i allowed
      simp only [reloadAllowed, Bool.and_eq_true, beq_iff_eq, List.all_eq_true] at allowed
      exact fun _ => ⟨allowed.1, fun p => allowed.2 p (List.mem_finRange p)⟩
    · exact l

end Sys2Proof.Machine
end

section
/-! SUPPORT. The laws of the tables, the ports and the presences through every work and every step. -/

namespace Sys2Proof.Machine

/-! ## The works that touch neither a port nor a presence -/

theorem ScoreWork.same_posts {s u : State} (h : ScoreWork s u) : posts u = posts s := by
  cases h <;> exact posts_of_same (by simp) (by simp)

theorem CompWork.same_posts {s u : State} (h : CompWork s u) : posts u = posts s := by
  cases h <;> exact posts_of_same (by simp) (by simp)

theorem Quiet.same_posts {s u : State} (h : Quiet s u) : posts u = posts s :=
  posts_of_same (h .ports (by decide)) (h .seats (by decide))

theorem ScoreWork.keeps_load {s u : State} (h : ScoreWork s u) (l : LoadFits s) : LoadFits u :=
  l.congr (by cases h <;> simp) (by rw [h.keeps_round.1]) (congrArg Prod.fst h.same_posts)

theorem CompWork.keeps_load {s u : State} (h : CompWork s u) (l : LoadFits s) : LoadFits u :=
  l.congr (by cases h <;> simp) (by rw [h.keeps_round.1]) (congrArg Prod.fst h.same_posts)

/-! ## Warm restarts -/

/-- R60: the ports after a warm restart. -/
theorem warmRestart_ports (s : State) (p : Fin 4) :
    (warmRestart s).ports[p].cfg = s.ports[p].cfg ∧ (warmRestart s).ports[p].sweep = none
      ∧ (s.ports[p].state = .stopped → (warmRestart s).ports[p].state = .stopped) := by
  have e : (warmRestart s).ports[p] = (restartPorts (applyPending false (s.withNow 0))).ports[p] := by
    have all : (warmRestart s).ports = (restartPorts (applyPending false (s.withNow 0))).ports := by
      simp [warmRestart]
    rw [all]
  have old : (applyPending false (s.withNow 0)).ports[p] = s.ports[p] := by
    have all : (applyPending false (s.withNow 0)).ports = s.ports := by simp
    rw [all]
  rw [e, restartPorts_port, old]
  exact ⟨rfl, rfl, fun st => by rw [if_pos st]⟩

/-- R26: no seat is PRESENT after a warm restart. -/
theorem warmRestart_presence (s : State) (k : Fin 256) : (warmRestart s).seats[k].presence = .absent := by
  have e : (warmRestart s).seats = ((restartPorts (applyPending false (s.withNow 0))).mapSeats fun _ x => x.restarted).seats := by
    simp [warmRestart]
  rw [e, mapSeats_get]; rfl

/-! ## Every work -/

/-- R43, R44, R50: every work keeps the ports law. -/
theorem Work.keeps_ports {s u : State} (h : Work s u) (l : PortsLaw s) : PortsLaw u := by
  cases h with
  | nothing => exact l
  | hardReset strap flash =>
    refine (portsLaw_iff _).mpr fun p => ?_
    have e : (Machine.hardReset strap flash s).ports[p] = Port.reset := replicate_get _ p
    rw [e]
    exact ⟨portCfgInRange_reset, sweepFits_none⟩
  | warmRestart =>
    have l := (portsLaw_iff s).mp l
    refine (portsLaw_iff _).mpr fun p => ?_
    obtain ⟨cfg, sw, -⟩ := warmRestart_ports s p
    rw [cfg, sw]
    exact ⟨(l p).1, sweepFits_none⟩
  | port h =>
    have l := (portsLaw_iff s).mp l
    exact (portsLaw_iff u).mpr fun p => (h.port_change p).lawful (l p).1 (l p).2
  | round h => exact l.congr h.ports_same
  | score h => exact l.congr (congrArg Prod.fst h.same_posts)
  | comp h => exact l.congr (congrArg Prod.fst h.same_posts)
  | table h => exact h.keeps_ports l

theorem Work.keeps_load {s u : State} (h : Work s u) (w : WalkOnlyCommitting s) (l : LoadFits s) : LoadFits u := by
  cases h with
  | nothing => exact l
  | hardReset strap flash =>
    refine fun _ => ⟨rfl, fun p => ?_⟩
    have e : (Machine.hardReset strap flash s).ports[p] = Port.reset := replicate_get _ p
    rw [e]; rfl
  | warmRestart =>
    intro running
    have loader : (Machine.warmRestart s).loader = s.loader := by simp [Machine.warmRestart]
    rw [loader] at running
    exact ⟨rfl, fun p => (warmRestart_ports s p).2.2 ((l running).2 p)⟩
  | port h => exact h.keeps_load l
  | round h => exact h.keeps_load w l
  | score h => exact h.keeps_load l
  | comp h => exact h.keeps_load l
  | table h => exact h.keeps_load l

/-- R34 to R36, R173: every work keeps the presence law. -/
theorem Work.keeps_presence {s u : State} (h : Work s u) (l : PresenceLaw s) : PresenceLaw u := by
  obtain ⟨⟨w, load⟩, f⟩ := (presenceLaw_iff s).mp l
  refine (presenceLaw_iff u).mpr ⟨⟨h.keeps_walk w, h.keeps_load w load⟩, ?_⟩
  cases h with
  | nothing => exact f
  | hardReset strap flash =>
    refine presenceFits_none fun k => ?_
    have e : (Machine.hardReset strap flash s).seats[k] = Seat.reset := replicate_get _ k
    rw [e]; decide
  | warmRestart => exact presenceFits_none fun k => by rw [warmRestart_presence]; decide
  | port h => exact h.keeps_presence f
  | round h => exact h.keeps_presence f
  | score h => exact f.congr h.same_posts
  | comp h => exact f.congr h.same_posts
  | table h => exact h.keeps_presence load f

/-! ## Quiet movements, and every step -/

theorem Quiet.keeps_records {s u : State} (h : Quiet s u) (w : RecordsInRange s) : RecordsInRange u := w.congr h.same_records

theorem Quiet.keeps_presence {s u : State} (h : Quiet s u) (l : PresenceLaw s) : PresenceLaw u := by
  obtain ⟨⟨w, load⟩, f⟩ := (presenceLaw_iff s).mp l
  have loader : u.loader = s.loader := h .loader (by decide)
  exact (presenceLaw_iff u).mpr ⟨⟨h.keeps_walk w,
    load.congr (by rw [loader]) (by rw [h.keeps_round.1]) (congrArg Prod.fst h.same_posts)⟩, f.congr h.same_posts⟩

theorem Quiet.keeps_player {s u : State} (h : Quiet s u) (l : PlayerLaw s) : PlayerLaw u := by
  have comp : u.comp = s.comp := h .comp (by decide)
  exact (playerLaw_iff u).mpr ⟨h.keeps_records l.1, by rw [comp]; exact l.2⟩

/-- Settles O55: each law is kept by every work and by the quiet movements after it. -/
theorem everyStepKeepsTheTablesAndPresenceLawful : Obligations.EveryStepKeepsTheTablesAndPresenceLawful := fun _ _ h =>
  ⟨step_keeps (fun _ _ q => q.keeps_records) (fun _ _ w => w.keeps_records) h,
    step_keeps (fun _ _ q c => c.congr q.same_records.2.1) (fun _ _ w => w.keeps_cues) h,
    step_keeps (fun _ _ q l => l.congr (congrArg Prod.fst q.same_posts)) (fun _ _ w => w.keeps_ports) h,
    step_keeps (fun _ _ q => q.keeps_presence) (fun _ _ w => w.keeps_presence) h,
    step_keeps (fun _ _ q => q.keeps_player) (fun _ _ w => w.keeps_player) h⟩

end Sys2Proof.Machine
end

section
/-! SUPPORT. The values after a hard reset (O3). -/

namespace Sys2Proof.Machine

/-- R59: no latched flag is set on a port after a hard reset. -/
theorem flagsByte_reset : Port.reset.flagsByte = 0 := by decide

theorem resetLoader_fields (strap : Bool) (flash : List Byte) :
    (resetLoader strap flash).running = strap ∧ (resetLoader strap flash).result = .none
      ∧ (resetLoader strap flash).refused = 0 := by
  cases strap <;> exact ⟨rfl, rfl, rfl⟩

/-- R60: each port after a hard reset. -/
theorem hardReset_port (strap : Bool) (flash : List Byte) (s : State) (p : Fin 4) :
    (hardReset strap flash s).ports[p] = Port.reset := replicate_get _ p

/-- R64: no entry of a Beacon History is written after a hard reset. -/
theorem hardReset_history (strap : Bool) (flash : List Byte) (s : State) (p : Fin 4) (i : Fin 16) :
    (hardReset strap flash s).stamper.history[p][i] = none := by
  have ring : (hardReset strap flash s).stamper.history[p] = Vector.replicate 16 none := replicate_get _ p
  rw [ring, replicate_get]

/-- Settles O3: every block of the reset state is written out by the model, and its tables are constant vectors. -/
theorem hardResetGivesEveryBlockItsResetValues : Obligations.HardResetGivesEveryBlockItsResetValues := by
  constructor
  · intro strap flash s
    obtain ⟨running, result, refused⟩ := resetLoader_fields strap flash
    refine ⟨hardReset strap flash s, rfl, rfl, fun p => ?_, rfl, rfl, fun k => replicate_get _ k, fun n => replicate_get _ n,
      fun q => replicate_get _ q, fun i => replicate_get _ i, rfl, rfl, fun k => replicate_get _ k, fun o => replicate_get _ o,
      rfl, rfl, fun n => replicate_get _ n, rfl, rfl, rfl, fun n => ⟨replicate_get _ n, replicate_get _ n⟩, rfl, rfl, rfl,
      running, result, refused, rfl⟩
    rw [hardReset_port]
    exact ⟨rfl, rfl, rfl, rfl, rfl, rfl, rfl, rfl, rfl, rfl, flagsByte_reset, rfl, hardReset_history strap flash s p⟩
  · intro strap flash s
    exact ⟨hardReset strap flash s, rfl, rfl, rfl, rfl, rfl, rfl, rfl, rfl, rfl, rfl, rfl, rfl, rfl,
      fun i => replicate_get _ i, fun i => replicate_get _ i, rfl, rfl, rfl, rfl, rfl, rfl, rfl, rfl, rfl, rfl, rfl, rfl, rfl,
      rfl, ⟨_, rfl, rfl, rfl, rfl⟩, rfl, rfl, rfl, rfl, rfl, rfl, rfl, rfl, rfl⟩

end Sys2Proof.Machine
end

section
/-! SUPPORT. The cue that a number matches, and what a CUE frame comes to (R7, R8, R144). -/

namespace Sys2Proof.Machine

/-! ## Matching (R6, R7) -/

theorem matchedCue_none {number : BitVec 16} {s : State}
    (h : ∀ i : Fin 64, s.cues[i].valid = true → s.cues[i].number ≠ number) : matchedCue number s = none := by
  unfold matchedCue
  rw [List.find?_eq_none]
  intro c hc
  obtain ⟨i, -, rfl⟩ := List.mem_map.mp hc
  simp only [Bool.and_eq_true, beq_iff_eq, not_and]
  exact h i

/-- R6: with unique numbers, the valid entry that holds a number is the one matched. -/
theorem matchedCue_eq {s : State} {i : Fin 64} (unique : CueNumbersUnique s) (valid : s.cues[i].valid = true) :
    matchedCue s.cues[i].number s = some s.cues[i] := by
  unfold matchedCue
  cases h : ((List.finRange 64).map fun i => s.cues[i]).find? fun c => c.valid && c.number == s.cues[i].number with
  | none =>
    refine absurd ?_ (List.find?_eq_none.mp h s.cues[i] (List.mem_map.mpr ⟨i, List.mem_finRange i, rfl⟩))
    rw [valid, beq_self_eq_true]; rfl
  | some c =>
    obtain ⟨j, -, rfl⟩ := List.mem_map.mp (List.mem_of_find?_eq_some h)
    have held := List.find?_some h
    simp only [Bool.and_eq_true, beq_iff_eq] at held
    rw [unique j i held.1 valid held.2]

/-! ## A CUE frame taken -/

/-- R142, R143: a CUE frame that arrived whole completes with what its taking gives. -/
theorem cue_completes {a : Arrival} {payload : List Byte} {s : State} {P : State → Prop} (h : ArrivedWhole a payload)
    (lo : 2 ≤ payload.length) (hi : payload.length ≤ 250)
    (p : ∀ u, FrameTaken .console 2 a (takeCue payload s) u → P u) : Completes (.cue a) s P := by
  have good : inwardGood .console 2 payload.length = true := by simp [inwardGood, lo, hi]
  exact ⟨_, takeGood_whole .console 2 takeCue s h hi good, p _ (taken_frame .console 2 a (takeCue payload) s)⟩

/-- R7, R144: the frame of a matched entry, after its action. -/
theorem takeCue_matched {payload : List Byte} {s : State} {c : CueEntry} (h : matchedCue (cueNumber payload) s = some c) :
    if c.absorb then takeCue payload s = runCue c s
    else ∃ x, WallTaken (runCue c s) x ∧ Offered ⟨2, payload⟩ x (takeCue payload s)
      ∧ Keeps [.passing, .linkFlags] x (takeCue payload s) := by
  unfold takeCue
  rw [h]
  split
  · rename_i absorb; exact if_pos absorb
  · rename_i absorb
    obtain ⟨offered, kept⟩ := offerPass_offered ⟨2, payload⟩ (wallChoose (runCue c s))
    dsimp only
    rw [if_neg absorb]
    exact ⟨_, wallChoose_taken _, offered, kept⟩

/-- R8: the action of a matched entry, while no load runs. -/
theorem runCue_idle {c : CueEntry} {s : State} (idle : s.loader.running = false) :
    runCue c s = if (cueAction c.action c.argument s).2.refuses then
        raiseNotice (.cueRefused c.number (cueAction c.action c.argument s).2) (cueAction c.action c.argument s).1
      else (cueAction c.action c.argument s).1 := if_neg (by rw [idle]; decide)

/-- R167: one notice raised is all that changes. -/
theorem raiseNotice_raised (b : NoticeBody) (s : State) :
    NoticesRaised [b] s (raiseNotice b s) ∧ Keeps [.notices, .noticeLost] s (raiseNotice b s)
      ∧ (raiseNotice b s).free = s.free := by
  refine ⟨⟨rfl, rfl⟩, fun x hx => ?_, by simp⟩
  cases x <;> simp [Block.same] at hx ⊢

/-- Settles O7. -/
theorem cueWithoutActionIsForwardedOrAbsorbed : Obligations.CueWithoutActionIsForwardedOrAbsorbed := by
  intro a payload s whole lo hi
  constructor
  · intro unmatched
    refine cue_completes whole lo hi fun u taken => ?_
    have e : takeCue payload s = offerPass ⟨2, payload⟩ s := by
      unfold takeCue
      rw [show matchedCue (cueNumber payload) s = none from matchedCue_none unmatched]
    rw [e] at taken
    exact ⟨_, (offerPass_offered _ s).1, (offerPass_offered _ s).2, taken⟩
  · intro i unique valid number loading
    refine cue_completes whole lo hi fun u taken => ?_
    have matched : matchedCue (cueNumber payload) s = some s.cues[i] := by
      rw [show cueNumber payload = s.cues[i].number from number.symm]; exact matchedCue_eq unique valid
    have busy : runCue s.cues[i] s = raiseNotice (.cueRefused s.cues[i].number .busy) s := if_pos loading
    obtain ⟨raised, kept, -⟩ := raiseNotice_raised (.cueRefused s.cues[i].number .busy) s
    have end_ := takeCue_matched matched
    rw [busy] at end_
    exact ⟨_, takeCue payload s, raised, kept, end_, taken⟩

/-! ## The request of the same action (R5, R7) -/

/-- The agent and its queue stay as they are through the action of a cue. -/
theorem cueAction_agent (c : CueAction) (x : Byte) (s : State) :
    (cueAction c x s).1.hub.agent = s.hub.agent ∧ (cueAction c x s).1.hub.requests = s.hub.requests := by
  cases c <;> simp [cueAction]

/-- R157: the agent's next state does not depend on what it decoded. -/
theorem replied_withAgent (payload : List Byte) (st : Status) (body : List Byte) (a : Agent) (s : State) :
    nextRequest (placeReply payload st body (s.withAgent a)) = nextRequest (placeReply payload st body s) := by
  unfold nextRequest placeReply State.withAgent
  simp only [withLink_hub, withHub_hub]
  cases s.hub.requests <;> rfl

/-- R5, R7, R162: the request of a cue's action runs that action, and replies with its status. -/
theorem requestFor_runs (tag : Byte) (c : CueEntry) {p : List Byte} {s : State}
    (h : requestOf (requestFor tag c).1 = some p) (e : Executing p s) :
    exec (requestFor tag c).1 s = .next (settleLinks (nextRequest (placeReply [tag, (requestFor tag c).2]
      (cueAction c.action c.argument s).2 [] (cueAction c.action c.argument s).1))) := by
  obtain ⟨valid, number, action, argument, absorb⟩ := c
  cases action
  all_goals
    cases Option.some.inj h
    exact runAction_executing _ e (by rfl)

/-- Settles O8: the cue's action is the request's, on a state whose agent alone differs. -/
theorem cueActsAsItsRequestWould : Obligations.CueActsAsItsRequestWould := by
  intro a payload i tag began s whole lo hi unique valid number idle later
  have matched : matchedCue (cueNumber payload) s = some s.cues[i] := by
    rw [show cueNumber payload = s.cues[i].number from number.symm]; exact matchedCue_eq unique valid
  obtain ⟨agent, requests⟩ := cueAction_agent s.cues[i].action s.cues[i].argument s
  refine ⟨(cueAction s.cues[i].action s.cues[i].argument s).1, (cueAction s.cues[i].action s.cues[i].argument s).2, agent,
    requests, fun p hp => ?_, ?_⟩
  · have executing : Executing p (s.withAgent (.decoding p began)) := ⟨⟨began, rfl, later⟩, idle⟩
    have run := requestFor_runs tag s.cues[i] hp executing
    rw [cueAction_withAgent, replied_withAgent] at run
    exact run
  · refine cue_completes whole lo hi fun u taken => ⟨runCue s.cues[i] s, takeCue payload s, ?_, takeCue_matched matched, taken⟩
    rw [runCue_idle idle]
    split
    · exact raiseNotice_raised _ _
    · rfl

end Sys2Proof.Machine
end

section
/-! SUPPORT. What a WRITE of one record of QUESTIONS or CUES comes to (R2, R3, R5, R6, R161). -/

namespace Sys2Proof.Machine

/-! ## Codes, flags and clamps -/

theorem finOf_val {n : Nat} (k : Fin n) : finOf n k.val = some k := dif_pos k.isLt

theorem onIndex_val {n : Nat} (k : Fin n) (write : Fin n → State × Status) (s : State) :
    onIndex n k.val write s = write k := by
  unfold onIndex
  rw [finOf_val]

theorem QKind.ofCode_code (k : QKind) : QKind.ofCode k.code = some k := by cases k <;> rfl

theorem QKind.code_of_ofCode {b : Byte} {k : QKind} (h : QKind.ofCode b = some k) : k.code = b := by
  unfold QKind.ofCode at h
  split at h <;> cases h <;> rfl

theorem CommitMode.ofCode_code (m : CommitMode) : CommitMode.ofCode m.code = some m := by cases m <;> rfl

theorem CommitMode.code_of_ofCode {b : Byte} {m : CommitMode} (h : CommitMode.ofCode b = some m) : m.code = b := by
  unfold CommitMode.ofCode at h
  split at h <;> cases h <;> rfl

theorem CueAction.ofCode_code (a : CueAction) : CueAction.ofCode a.code = some a := by cases a <;> rfl

theorem CueAction.code_of_ofCode {b : Byte} {a : CueAction} (h : CueAction.ofCode b = some a) : a.code = b := by
  unfold CueAction.ofCode at h
  split at h <;> cases h <;> rfl

theorem flagAt_eq (r : List Byte) (i : Nat) : flagAt r i = decide (r.getD i 0 ≠ 0) := by
  unfold flagAt
  by_cases h : r.getD i 0 = 0
  · rw [h]; rfl
  · rw [decide_eq_true h]; exact bne_iff_ne.mpr h

theorem clampNat_eq {x lo hi : Nat} (h : lo ≤ hi) : clampNat x lo hi = max lo (min hi x) := by
  unfold clampNat
  split
  · omega
  · split <;> omega

theorem clampNat_self {x lo hi : Nat} (h : lo ≤ x) (g : x ≤ hi) : clampNat x lo hi = x := by
  unfold clampNat
  rw [if_neg (by omega), if_neg (by omega)]

theorem storedStatus_eq {c : Bool} {P : Prop} [Decidable P] (h : c = true ↔ ¬ P) :
    storedStatus c = if P then .ok else .clamped := by
  unfold storedStatus
  by_cases p : P
  · rw [if_pos p, if_neg (fun k => h.mp k p)]
  · rw [if_neg p, if_pos (h.mpr p)]

theorem storedStatus_stores (c : Bool) : (storedStatus c).refuses = false := by cases c <;> rfl

/-! ## One record -/

/-- R161: a record its owner refuses. -/
theorem write_refused {t : Table} {tag first : Byte} {r : List Byte} {s : State} {st : Status} (h : r.length = t.writeLength)
    (hc : first.toNat < t.count) (e : Executing ([tag, 2, t.number, first] ++ r) s)
    (w : writeRecord t first.toNat r s = (s, st)) (refuses : st.refuses = true) :
    ∃ u, runWrite t tag first r s = .next (settleLinks u) ∧ RefusedOne tag first st s u ∧ Keeps [.replies, .agent] s u := by
  obtain ⟨u, run, kept, refused, -⟩ := runWrite_one h hc e
  rw [w] at kept refused
  exact ⟨u, run, refused refuses, kept⟩

/-- R161: a record its owner stores. -/
theorem write_stored {t : Table} {tag first : Byte} {r : List Byte} {s v : State} {st : Status} (h : r.length = t.writeLength)
    (hc : first.toNat < t.count) (e : Executing ([tag, 2, t.number, first] ++ r) s)
    (w : writeRecord t first.toNat r s = (v, st)) (stores : st.refuses = false) :
    ∃ u, runWrite t tag first r s = .next (settleLinks u) ∧ WroteOne tag st s u ∧ Keeps [.replies, .agent] v u := by
  obtain ⟨u, run, kept, -, wrote⟩ := runWrite_one h hc e
  rw [w] at kept wrote
  exact ⟨u, run, wrote stores, kept⟩

/-! ## QUESTIONS (R1 to R3) -/

/-- R2 check 4: an empty correct set, or one with a key beyond the clamped options count. -/
def BadKeys (r : List Byte) : Prop :=
  u8 r 2 = 0 ∨ ∃ k : Fin 8, max 2 (min 6 (u8 r 1)) ≤ k.val ∧ (r.getD 2 0).getLsbD k.val = true

/-- A set of keys lies within the options count, or some key is beyond it. -/
theorem masked_ne_iff (x : Byte) (n : Nat) : x &&& optionMask n ≠ x ↔ ∃ k : Fin 8, n ≤ k.val ∧ x.getLsbD k.val = true := by
  constructor
  · intro ne
    by_contra none
    refine ne (BitVec.eq_of_getLsbD_eq fun i hi => ?_)
    rw [BitVec.getLsbD_and, optionMask_getLsbD n ⟨i, hi⟩]
    rcases Nat.lt_or_ge i n with inside | beyond
    · simp [inside]
    · have clear : x.getLsbD i = false := Bool.eq_false_iff.mpr fun set => none ⟨⟨i, hi⟩, beyond, set⟩
      rw [clear, Bool.false_and]
  · rintro ⟨k, beyond, set⟩ eq
    rw [← eq, BitVec.getLsbD_and, optionMask_getLsbD, decide_eq_false (Nat.not_lt.mpr beyond), Bool.and_false] at set
    exact Bool.false_ne_true set

theorem badCorrectSet_iff (r : List Byte) : badCorrectSet r = true ↔ BadKeys r := by
  have empty : r.getD 2 0 = 0 ↔ u8 r 2 = 0 := (BitVec.toNat_inj (x := r.getD 2 0) (y := 0)).symm
  unfold badCorrectSet BadKeys
  rw [Bool.or_eq_true, beq_iff_eq, bne_iff_ne, clampNat_eq (by decide), empty, masked_ne_iff]

/-- R1, R3: the status of a stored question tells whether every numeric field was within its range. -/
theorem questionStatus (r : List Byte) :
    storedStatus (questionClamped r) = if 2 ≤ u8 r 1 ∧ u8 r 1 ≤ 6 ∧ u16 r 3 ≤ 999 ∧ u16 r 5 ≤ 999 ∧ u16 r 7 ≤ 999
        ∧ u16 r 9 ≤ 999 ∧ u8 r 11 ≤ 15 ∧ u8 r 12 ≤ 60 ∧ u16 r 14 ≤ 9999 ∧ 1 ≤ u16 r 16 ∧ u16 r 16 ≤ 9999 ∧ 1 ≤ u16 r 18
        ∧ u16 r 18 ≤ 600 ∧ u8 r 21 ≤ 3 ∧ (u8 r 26 ≤ 15 ∨ u8 r 26 = 255) then .ok else .clamped := by
  refine storedStatus_eq ?_
  simp only [questionClamped, Bool.or_eq_true, Bool.and_eq_true, decide_eq_true_eq, bne_iff_ne, ne_eq]
  omega

theorem revealField_val (b : Nat) : (revealField b).map Fin.val = if b = 255 then none else some (min 15 b) := by
  unfold revealField
  split
  · rfl
  · simp [Nat.min_comm]

/-- R1: the keys of a stored correct set are the written ones within the options count. -/
theorem questionRecord_correct {kind : QKind} {r : List Byte} (mode : CommitMode) (good : ¬ (kind = .choice ∧ BadKeys r))
    (k : Fin 8) : (questionRecord kind mode r).correct.getLsbD k.val
      = ((r.getD 2 0).getLsbD k.val && decide (k.val < max 2 (min 6 (u8 r 1)))) := by
  unfold questionRecord
  dsimp only
  split
  · rename_i choice
    cases set : (r.getD 2 0).getLsbD k.val with
    | false => rfl
    | true =>
      have inside : ¬ max 2 (min 6 (u8 r 1)) ≤ k.val := fun beyond => good ⟨choice, .inr ⟨k, beyond, set⟩⟩
      rw [decide_eq_true (Nat.lt_of_not_le inside)]; rfl
  · rw [BitVec.getLsbD_and, optionMask_getLsbD, clampNat_eq (by decide)]

/-- R1: every numeric field of a stored question is clamped to its range. -/
theorem questionRecord_eq (kind : QKind) (mode : CommitMode) (r : List Byte) :
    questionRecord kind mode r =
      { kind := kind, options := max 2 (min 6 (u8 r 1)), correct := (questionRecord kind mode r).correct
        base := min 999 (u16 r 3), speed := min 999 (u16 r 5), penalty := min 999 (u16 r 7)
        stealPoints := min 999 (u16 r 9), steals := min 15 (u8 r 11), answerTime := min 60 (u8 r 12), guard := u8 r 13
        target := min 9999 (u16 r 14), tolerance := max 1 (min 9999 (u16 r 16)), window := max 1 (min 600 (u16 r 18))
        settle := u8 r 20, changeLimit := min 3 (u8 r 21), eligible := BitVec.ofNat 16 (u16 r 22), mode := mode
        resultLamps := decide (r.getD 25 0 ≠ 0), reveal := revealField (u8 r 26) } := by
  have clamp0 (x hi : Nat) : clampNat x 0 hi = min hi x := by rw [clampNat_eq (Nat.zero_le hi), Nat.zero_max]
  simp only [questionRecord, clamp0, clampNat_eq (show 2 ≤ 6 by decide), clampNat_eq (show 1 ≤ 9999 by decide),
    clampNat_eq (show 1 ≤ 600 by decide), flagAt_eq]

/-- R2 check 1: the question of the header cannot be written outside IDLE. -/
theorem writeQuestion_inUse {q : Fin 128} {s : State} (r : List Byte)
    (h : s.resp.header.question = some q ∧ s.round.state ≠ .idle) : writeQuestion q r s = (s, .inUse) := if_pos h

/-- R3: a record that passes the checks of R2 is stored whole. -/
theorem writeQuestion_stored {q : Fin 128} {r : List Byte} {s : State} {kind : QKind} {mode : CommitMode}
    (free : ¬ (s.resp.header.question = some q ∧ s.round.state ≠ .idle)) (hk : kind.code = r.getD 0 0)
    (hm : mode.code = r.getD 24 0) (good : ¬ (kind = .choice ∧ BadKeys r)) :
    writeQuestion q r s
      = (s.withQuestions (s.questions.set q (questionRecord kind mode r)), storedStatus (questionClamped r)) := by
  unfold writeQuestion
  rw [if_neg free, ← hk, ← hm, QKind.ofCode_code, CommitMode.ofCode_code]
  exact if_neg fun bad => good ⟨bad.1, (badCorrectSet_iff r).mp bad.2⟩

/-- R2: a record that names no kind or mode, or whose keys are bad, is BAD_VALUE. -/
theorem writeQuestion_badValue {q : Fin 128} {r : List Byte} {s : State}
    (free : ¬ (s.resp.header.question = some q ∧ s.round.state ≠ .idle))
    (bad : ∀ (kind : QKind) (mode : CommitMode), kind.code = r.getD 0 0 → mode.code = r.getD 24 0 →
      kind = .choice ∧ BadKeys r) :
    writeQuestion q r s = (s, .badValue) := by
  unfold writeQuestion
  rw [if_neg free]
  split
  · rename_i kind mode hk hm
    obtain ⟨choice, keys⟩ := bad kind mode (QKind.code_of_ofCode hk) (CommitMode.code_of_ofCode hm)
    exact if_pos ⟨choice, (badCorrectSet_iff r).mpr keys⟩
  · rfl

/-- R1: the codes of the kinds are 0 to 4, of the modes 0 and 1, and CHOICE is 1. -/
theorem QKind.code_le (k : QKind) : k.code.toNat ≤ 4 := by cases k <;> decide
theorem QKind.choice_of_code {k : QKind} (h : k.code.toNat = 1) : k = .choice := by
  cases k <;> simp [QKind.code] at h ⊢
theorem CommitMode.code_le (m : CommitMode) : m.code.toNat ≤ 1 := by cases m <;> decide

/-- R2: the bytes of BAD_VALUE leave no kind, mode and keys to store. -/
theorem badValue_iff {r : List Byte} {kind : QKind} {mode : CommitMode} (hk : kind.code = r.getD 0 0)
    (hm : mode.code = r.getD 24 0) : (4 < u8 r 0 ∨ 1 < u8 r 24 ∨ (u8 r 0 = 1 ∧ BadKeys r)) ↔ kind = .choice ∧ BadKeys r := by
  have e0 : u8 r 0 = kind.code.toNat := by rw [hk]; rfl
  have e24 : u8 r 24 = mode.code.toNat := by rw [hm]; rfl
  rw [e0, e24]
  constructor
  · rintro (high | high | ⟨one, keys⟩)
    · exact absurd kind.code_le (Nat.not_le.mpr high)
    · exact absurd mode.code_le (Nat.not_le.mpr high)
    · exact ⟨QKind.choice_of_code one, keys⟩
  · rintro ⟨rfl, keys⟩
    exact .inr (.inr ⟨rfl, keys⟩)

/-- The frame of an execution, with its REPLY. -/
theorem Keeps.then_reply {s v u : State} (bs : List Block) (h : Keeps bs s v) (g : Keeps [.replies, .agent] v u) :
    Keeps (bs ++ [.replies, .agent]) s u :=
  (h.mono fun _ => List.mem_append_left _).trans (g.mono fun _ => List.mem_append_right _)

/-- Settles O16. -/
theorem questionRecordsAreCheckedAndClamped : Obligations.QuestionRecordsAreCheckedAndClamped := by
  intro tag first r q s len at_ e
  have hc : first.toNat < Table.questions.count := at_ ▸ q.isLt
  have owner : writeRecord .questions first.toNat r s = writeQuestion q r s := by
    rw [← at_]; exact onIndex_val q _ s
  by_cases inUse : s.resp.header.question = some q ∧ s.round.state ≠ .idle
  · obtain ⟨u, run, refused, kept⟩ := write_refused len hc e (owner.trans (writeQuestion_inUse r inUse)) rfl
    exact ⟨u, run, fun _ => ⟨refused, kept⟩, fun free => absurd inUse free, fun _ _ free => absurd inUse free⟩
  by_cases good : ∃ (kind : QKind) (mode : CommitMode), kind.code = r.getD 0 0 ∧ mode.code = r.getD 24 0
      ∧ ¬ (kind = .choice ∧ BadKeys r)
  · obtain ⟨kind, mode, hk, hm, keys⟩ := good
    obtain ⟨u, run, wrote, kept⟩ := write_stored len hc e (owner.trans (writeQuestion_stored inUse hk hm keys))
      (storedStatus_stores _)
    refine ⟨u, run, fun h => absurd h inUse, fun _ bad => absurd ((badValue_iff hk hm).mp bad) keys,
      fun kind' mode' _ hk' hm' _ => ?_⟩
    obtain rfl : kind = kind' := Option.some.inj (by rw [← kind.ofCode_code, ← kind'.ofCode_code, hk, hk'])
    obtain rfl : mode = mode' := Option.some.inj (by rw [← mode.ofCode_code, ← mode'.ofCode_code, hm, hm'])
    have stored : u.questions = s.questions.set q (questionRecord kind mode r) := kept .questions (by simp)
    refine ⟨questionStatus r ▸ wrote, fun x ne => ?_, ?_, Keeps.then_reply [.questions] (fun b hb => ?_) kept⟩
    · rw [stored]
      exact Vector.getElem_set_ne _ _ fun h => ne (Fin.ext h.symm)
    · refine ⟨_, _, questionRecord_correct mode keys, revealField_val _, ?_⟩
      rw [stored]
      exact (Vector.getElem_set_self _).trans (questionRecord_eq kind mode r)
    · cases b <;> simp [Block.same] at hb ⊢
  · have bad (kind : QKind) (mode : CommitMode) (hk : kind.code = r.getD 0 0) (hm : mode.code = r.getD 24 0) :
        kind = .choice ∧ BadKeys r := by
      by_contra keys
      exact good ⟨kind, mode, hk, hm, keys⟩
    obtain ⟨u, run, refused, kept⟩ := write_refused len hc e (owner.trans (writeQuestion_badValue inUse bad)) rfl
    exact ⟨u, run, fun h => absurd h inUse, fun _ _ => ⟨refused, kept⟩,
      fun kind mode _ hk hm keys => absurd (bad kind mode hk hm) keys⟩

/-! ## CUES (R5, R6) -/

theorem duplicateCue_iff (i : Fin 64) (number : BitVec 16) (s : State) :
    duplicateCue i number s = true ↔ ∃ j : Fin 64, j ≠ i ∧ s.cues[j].valid = true ∧ s.cues[j].number = number := by
  unfold duplicateCue
  rw [List.any_eq_true]
  simp only [Bool.and_eq_true, decide_eq_true_eq, beq_iff_eq, List.mem_finRange, true_and, and_assoc]

/-- R6: the largest argument of an action, 255 where no clamp is given. -/
def CueAction.most (a : CueAction) : Nat :=
  match a with
  | .openQuestion => 127
  | .reveal => 15
  | _ => 255

theorem cueArgument_eq (a : CueAction) (x : Byte) :
    cueArgument a x = (byteOf (min a.most x.toNat), decide (a.most < x.toNat)) := by
  have byte : byteOf x.toNat = x := by simp [byteOf]
  have small : x.toNat ≤ 255 := Nat.le_of_lt_succ x.isLt
  have whole : (x, false) = (byteOf (min 255 x.toNat), decide (255 < x.toNat)) := by
    rw [Nat.min_eq_right small, byte, decide_eq_false (Nat.not_lt.mpr small)]
  have clamped (m : Nat) : (if m < x.toNat then (byteOf m, true) else (x, false))
      = (byteOf (min m x.toNat), decide (m < x.toNat)) := by
    split
    · rename_i high
      rw [Nat.min_eq_left high.le, decide_eq_true high]
    · rename_i low
      rw [Nat.min_eq_right (Nat.le_of_not_lt low), byte, decide_eq_false low]
  cases a
  case openQuestion => exact clamped 127
  case reveal => exact clamped 15
  all_goals exact whole

/-- R5, R6: a CUES entry as it is stored. -/
def cueRecord (a : CueAction) (r : List Byte) : CueEntry :=
  ⟨flagAt r 0, BitVec.ofNat 16 (u16 r 1), a, (cueArgument a (r.getD 4 0)).1, flagAt r 5⟩

/-- R6: an entry whose number is free is stored. -/
theorem writeCue_stored {i : Fin 64} {r : List Byte} {s : State} {a : CueAction} (code : a.code = r.getD 3 0)
    (free : ¬ (r.getD 0 0 ≠ 0 ∧ duplicateCue i (BitVec.ofNat 16 (u16 r 1)) s = true)) :
    writeCue i r s = (s.withCues (s.cues.set i (cueRecord a r)), storedStatus (cueArgument a (r.getD 4 0)).2) := by
  unfold writeCue
  rw [← code, CueAction.ofCode_code]
  exact if_neg fun h => free ⟨of_decide_eq_true ((flagAt_eq r 0).symm.trans h.1), h.2⟩

theorem cueRecord_eq (a : CueAction) (r : List Byte) :
    cueRecord a r = ⟨decide (r.getD 0 0 ≠ 0), BitVec.ofNat 16 (u16 r 1), a, byteOf (min a.most (u8 r 4)),
      decide (r.getD 5 0 ≠ 0)⟩ := by
  unfold cueRecord
  rw [cueArgument_eq, flagAt_eq, flagAt_eq]
  rfl

theorem cueStatus (a : CueAction) (r : List Byte) :
    storedStatus (cueArgument a (r.getD 4 0)).2 = if a.most < u8 r 4 then .clamped else .ok := by
  rw [cueArgument_eq]
  unfold storedStatus u8
  simp only [decide_eq_true_eq]

/-- Settles O17. -/
theorem cueEntriesAreCheckedAndStored : Obligations.CueEntriesAreCheckedAndStored := by
  intro tag first r i s len at_ e
  have hc : first.toNat < Table.cues.count := at_ ▸ i.isLt
  have owner : writeRecord .cues first.toNat r s = writeCue i r s := by
    rw [← at_]; exact onIndex_val i _ s
  cases code : CueAction.ofCode (r.getD 3 0) with
  | none =>
    have outcome : writeCue i r s = (s, .badValue) := by unfold writeCue; rw [code]
    obtain ⟨u, run, refused⟩ := write_refused len hc e (owner.trans outcome) rfl
    refine ⟨u, run, fun _ => refused, fun a ha => ?_⟩
    rw [← ha, CueAction.ofCode_code] at code
    cases code
  | some a =>
    by_cases dup : r.getD 0 0 ≠ 0 ∧ duplicateCue i (BitVec.ofNat 16 (u16 r 1)) s = true
    · have outcome : writeCue i r s = (s, .duplicate) := by
        unfold writeCue
        rw [code]
        exact if_pos ⟨(flagAt_eq r 0).trans (decide_eq_true dup.1), dup.2⟩
      obtain ⟨u, run, refused⟩ := write_refused len hc e (owner.trans outcome) rfl
      refine ⟨u, run, fun no => absurd (CueAction.code_of_ofCode code) (no a), fun _ _ => ?_⟩
      exact (if_pos ⟨dup.1, (duplicateCue_iff i _ s).mp dup.2⟩).mpr refused
    · have taken : a.code = r.getD 3 0 := CueAction.code_of_ofCode code
      obtain ⟨u, run, wrote, kept⟩ := write_stored len hc e (owner.trans (writeCue_stored taken dup)) (storedStatus_stores _)
      refine ⟨u, run, fun no => absurd taken (no a), fun a' ha => ?_⟩
      obtain rfl : a = a' := Option.some.inj (code.symm.trans (by rw [← ha, CueAction.ofCode_code]))
      have stored : u.cues = s.cues.set i (cueRecord a r) := kept .cues (by simp)
      have limit : a.most = (match a with | .openQuestion => 127 | .reveal => 15 | _ => 255) := by cases a <;> rfl
      refine (if_neg fun h => dup ⟨h.1, (duplicateCue_iff i _ s).mpr h.2⟩).mpr
        ⟨?_, ?_, fun j ne => ?_, Keeps.then_reply [.cues] (fun b hb => ?_) kept⟩
      · rw [cueStatus, limit] at wrote
        exact wrote
      · rw [stored]
        refine (Vector.getElem_set_self _).trans ((cueRecord_eq a r).trans ?_)
        cases a <;> rfl
      · rw [stored]
        exact Vector.getElem_set_ne _ _ fun h => ne (Fin.ext h.symm)
      · cases b <;> simp [Block.same] at hb ⊢

end Sys2Proof.Machine
end

section
/-! SUPPORT. The bytes of a record, read back (R160, 12.5): what its owner stores is the record itself. -/

namespace Sys2Proof.Machine

/-! ## Bytes read back -/

theorem byteOf_toNat {n : Nat} (h : n < 256) : (byteOf n).toNat = n := by
  simp [byteOf, Nat.mod_eq_of_lt h]

theorem be16_toNat {n : Nat} (h : n < 65536) :
    (BitVec.ofNat 8 (n / 256)).toNat * 256 + (BitVec.ofNat 8 n).toNat = n := by
  simp only [BitVec.toNat_ofNat]
  omega

theorem flagByte_ne_zero (b : Bool) : (flagByte b != 0) = b := by cases b <;> rfl

/-- A number of one byte among the bytes. -/
theorem u8_byteOf {r : List Byte} {i n : Nat} (at_ : r.getD i 0 = byteOf n) (h : n < 256) : u8 r i = n := by
  unfold u8
  rw [at_, byteOf_toNat h]

/-- A number of two bytes among the bytes, most significant byte first. -/
theorem u16_be16 {r : List Byte} {i n : Nat} (at_ : r.getD i 0 = BitVec.ofNat 8 (n / 256))
    (next : r.getD (i + 1) 0 = BitVec.ofNat 8 n) (h : n < 65536) : u16 r i = n := by
  unfold u16 u8
  rw [at_, next, be16_toNat h]

/-- Sixteen flags as two bytes among the bytes. -/
theorem u16_toNat {r : List Byte} {i : Nat} {x : BitVec 16} (at_ : r.getD i 0 = BitVec.ofNat 8 (x.toNat / 256))
    (next : r.getD (i + 1) 0 = BitVec.ofNat 8 x.toNat) : BitVec.ofNat 16 (u16 r i) = x := by
  rw [u16_be16 at_ next x.isLt, BitVec.ofNat_toNat, BitVec.setWidth_eq]

theorem flagAt_flagByte {r : List Byte} {i : Nat} {b : Bool} (at_ : r.getD i 0 = flagByte b) : flagAt r i = b := by
  unfold flagAt
  rw [at_, flagByte_ne_zero]

theorem revealField_optFin (x : Option (Fin 16)) : revealField (optFin x).toNat = x := by
  cases x with
  | none => rfl
  | some k => fin_cases k <;> rfl

/-! ## Writing a record back -/

/-- R160, R161: a record that its owner stores as it stands is OK, and nothing changes. -/
theorem write_back {t : Table} {tag first : Byte} {r : List Byte} {s : State} (h : r.length = t.writeLength)
    (hc : first.toNat < t.count) (e : Executing ([tag, 2, t.number, first] ++ r) s)
    (w : writeRecord t first.toNat r s = (s, .ok)) :
    ∃ u, runWrite t tag first r s = .next (settleLinks u) ∧ WroteOne tag .ok s u ∧ Keeps [.replies, .agent] s u :=
  write_stored h hc e w rfl

/-- The owner of a table of n ≤ 256 records is handed the record at the index byte. -/
theorem onIndex_byteOf {n : Nat} (k : Fin n) (small : n ≤ 256) (write : Fin n → State × Status) (s : State) :
    onIndex n (byteOf k.val).toNat write s = write k := by
  rw [byteOf_toNat (Nat.lt_of_lt_of_le k.isLt small), onIndex_val]

theorem index_lt {n m : Nat} (k : Fin n) (small : n ≤ 256) (count : n = m) : (byteOf k.val).toNat < m := by
  rw [byteOf_toNat (Nat.lt_of_lt_of_le k.isLt small), ← count]; exact k.isLt

/-! ## QUESTIONS -/

/-- 12.5: the 27 bytes of a question, one by one. -/
theorem questionBytes_eq (q : Question) : q.bytes =
    [q.kind.code, byteOf q.options, q.correct, BitVec.ofNat 8 (q.base / 256), BitVec.ofNat 8 q.base,
      BitVec.ofNat 8 (q.speed / 256), BitVec.ofNat 8 q.speed, BitVec.ofNat 8 (q.penalty / 256), BitVec.ofNat 8 q.penalty,
      BitVec.ofNat 8 (q.stealPoints / 256), BitVec.ofNat 8 q.stealPoints, byteOf q.steals, byteOf q.answerTime, byteOf q.guard,
      BitVec.ofNat 8 (q.target / 256), BitVec.ofNat 8 q.target, BitVec.ofNat 8 (q.tolerance / 256),
      BitVec.ofNat 8 q.tolerance, BitVec.ofNat 8 (q.window / 256), BitVec.ofNat 8 q.window, byteOf q.settle,
      byteOf q.changeLimit, BitVec.ofNat 8 (q.eligible.toNat / 256), BitVec.ofNat 8 q.eligible.toNat, q.mode.code,
      flagByte q.resultLamps, optFin q.reveal] := rfl

/-- 12.5: the numeric fields of a question within its ranges, read back from its bytes. -/
theorem question_fields {q : Question} (h : questionInRange q) :
    u8 q.bytes 1 = q.options ∧ u16 q.bytes 3 = q.base ∧ u16 q.bytes 5 = q.speed ∧ u16 q.bytes 7 = q.penalty
      ∧ u16 q.bytes 9 = q.stealPoints ∧ u8 q.bytes 11 = q.steals ∧ u8 q.bytes 12 = q.answerTime ∧ u8 q.bytes 13 = q.guard
      ∧ u16 q.bytes 14 = q.target ∧ u16 q.bytes 16 = q.tolerance ∧ u16 q.bytes 18 = q.window ∧ u8 q.bytes 20 = q.settle
      ∧ u8 q.bytes 21 = q.changeLimit := by
  obtain ⟨-, o6, base, speed, penalty, steal, steals, timer, guard, target, -, t2, -, w2, settle, limit, -⟩ := h
  rw [questionBytes_eq]
  exact ⟨u8_byteOf (n := q.options) rfl (by omega), u16_be16 (n := q.base) rfl rfl (by omega),
    u16_be16 (n := q.speed) rfl rfl (by omega), u16_be16 (n := q.penalty) rfl rfl (by omega),
    u16_be16 (n := q.stealPoints) rfl rfl (by omega), u8_byteOf (n := q.steals) rfl (by omega),
    u8_byteOf (n := q.answerTime) rfl (by omega), u8_byteOf (n := q.guard) rfl (by omega),
    u16_be16 (n := q.target) rfl rfl (by omega), u16_be16 (n := q.tolerance) rfl rfl (by omega),
    u16_be16 (n := q.window) rfl rfl (by omega), u8_byteOf (n := q.settle) rfl (by omega),
    u8_byteOf (n := q.changeLimit) rfl (by omega)⟩

/-- R3: the bytes of a question within its ranges give the question back. -/
theorem questionRecord_bytes {q : Question} (h : questionInRange q) : questionRecord q.kind q.mode q.bytes = q := by
  obtain ⟨f1, f3, f5, f7, f9, f11, f12, f13, f14, f16, f18, f20, f21⟩ := question_fields h
  obtain ⟨o2, o6, base, speed, penalty, steal, steals, timer, -, target, t1, t2, w1, w2, -, limit, keys, -⟩ := h
  have correct : (if q.kind = .choice then q.correct else q.correct &&& optionMask q.options) = q.correct := by
    split
    · rfl
    · by_contra ne
      obtain ⟨k, beyond, set⟩ := (masked_ne_iff _ _).mp ne
      exact absurd (keys k set) (Nat.not_lt.mpr beyond)
  have reveal : revealField (u8 q.bytes 26) = q.reveal := revealField_optFin q.reveal
  unfold questionRecord
  rw [f1, f3, f5, f7, f9, f11, f12, f13, f14, f16, f18, f20, f21, reveal, clampNat_self o2 o6,
    show q.bytes.getD 2 0 = q.correct from rfl, correct, questionBytes_eq,
    u16_toNat (x := q.eligible) (i := 22) rfl rfl, flagAt_flagByte (b := q.resultLamps) (i := 25) rfl,
    clampNat_self (Nat.zero_le _) base, clampNat_self (Nat.zero_le _) speed, clampNat_self (Nat.zero_le _) penalty,
    clampNat_self (Nat.zero_le _) steal, clampNat_self (Nat.zero_le _) steals, clampNat_self (Nat.zero_le _) timer,
    clampNat_self (Nat.zero_le _) target, clampNat_self t1 t2, clampNat_self w1 w2, clampNat_self (Nat.zero_le _) limit]

theorem optFin_reveal (x : Option (Fin 16)) : (optFin x).toNat ≤ 15 ∨ (optFin x).toNat = 255 := by
  cases x with
  | none => exact .inr rfl
  | some k => exact .inl (by rw [show (optFin (some k)).toNat = k.val from byteOf_toNat (by omega)]; omega)

theorem questionStatus_bytes {q : Question} (h : questionInRange q) : storedStatus (questionClamped q.bytes) = .ok := by
  obtain ⟨f1, f3, f5, f7, f9, f11, f12, -, f14, f16, f18, -, f21⟩ := question_fields h
  obtain ⟨o2, o6, base, speed, penalty, steal, steals, timer, -, target, t1, t2, w1, w2, -, limit, -⟩ := h
  have reveal : u8 q.bytes 26 ≤ 15 ∨ u8 q.bytes 26 = 255 := optFin_reveal q.reveal
  rw [questionStatus, f1, f3, f5, f7, f9, f11, f12, f14, f16, f18, f21]
  exact if_pos ⟨o2, o6, base, speed, penalty, steal, steals, timer, target, t1, t2, w1, w2, limit, reveal⟩

theorem writeQuestion_bytes {q : Fin 128} {s : State} (h : questionInRange s.questions[q])
    (free : ¬ (s.resp.header.question = some q ∧ s.round.state ≠ .idle)) :
    writeQuestion q s.questions[q].bytes s = (s, .ok) := by
  have good : ¬ (s.questions[q].kind = .choice ∧ BadKeys s.questions[q].bytes) := by
    rintro ⟨choice, empty | ⟨k, beyond, set⟩⟩
    · obtain ⟨-, -, -, -, -, -, -, -, -, -, -, -, -, -, -, -, -, some⟩ := h
      exact some choice (BitVec.eq_of_toNat_eq empty)
    · obtain ⟨options, -⟩ := question_fields h
      obtain ⟨o2, o6, -, -, -, -, -, -, -, -, -, -, -, -, -, -, keys, -⟩ := h
      rw [options, Nat.min_eq_right o6, Nat.max_eq_right o2] at beyond
      exact absurd (keys k set) (Nat.not_lt.mpr beyond)
  rw [writeQuestion_stored free rfl rfl good, questionRecord_bytes h, questionStatus_bytes h]
  exact Prod.ext (congrArg s.withQuestions (Vector.set_getElem_self _)) rfl

/-! ## CUES, SEQUENCES, STEPS and PORTCFG -/

/-- R6: a cue whose number no other valid cue holds, its argument within its range. -/
theorem writeCue_bytes {i : Fin 64} {s : State} (range : CuesInRange s.cues) (unique : CueNumbersUnique s) :
    writeCue i s.cues[i].bytes s = (s, .ok) := by
  have number : BitVec.ofNat 16 (u16 s.cues[i].bytes 1) = s.cues[i].number := u16_toNat rfl rfl
  have argument : s.cues[i].argument.toNat ≤ s.cues[i].action.most := by
    obtain ⟨o, v⟩ := range i
    have byte : s.cues[i].argument.toNat ≤ 255 := Nat.le_of_lt_succ s.cues[i].argument.isLt
    cases action : s.cues[i].action
    case openQuestion => exact o action
    case reveal => exact v action
    all_goals exact byte
  have free : ¬ (s.cues[i].bytes.getD 0 0 ≠ 0 ∧ duplicateCue i (BitVec.ofNat 16 (u16 s.cues[i].bytes 1)) s = true) := by
    rintro ⟨flag, dup⟩
    obtain ⟨j, ne, valid, same⟩ := (duplicateCue_iff _ _ _).mp dup
    have own : s.cues[i].valid = true := (flagByte_ne_zero _).symm.trans (bne_iff_ne.mpr flag)
    exact ne (unique j i valid own (same.trans number))
  have record : cueRecord s.cues[i].action s.cues[i].bytes = s.cues[i] := by
    unfold cueRecord
    rw [number, flagAt_flagByte (b := s.cues[i].valid) (i := 0) rfl, flagAt_flagByte (b := s.cues[i].absorb) (i := 5) rfl,
      cueArgument_eq, show s.cues[i].bytes.getD 4 0 = s.cues[i].argument from rfl, Nat.min_eq_right argument]
    simp [byteOf]
  have status : storedStatus (cueArgument s.cues[i].action (s.cues[i].bytes.getD 4 0)).2 = .ok :=
    (cueStatus _ _).trans (if_neg (Nat.not_lt.mpr argument))
  rw [writeCue_stored rfl free, record, status]
  exact Prod.ext (congrArg s.withCues (Vector.set_getElem_self _)) rfl

/-- R134: a sequence that ends at step 63 at the latest. -/
theorem writeSequence_bytes {i : Fin 16} {s : State} (h : 1 ≤ s.comp.sequences[i].count
    ∧ s.comp.sequences[i].first + s.comp.sequences[i].count ≤ 64) :
    writeSequence i s.comp.sequences[i].bytes s = (s, .ok) := by
  obtain ⟨some, fits⟩ := h
  unfold writeSequence
  rw [u8_byteOf (n := s.comp.sequences[i].first) (i := 1) rfl (by omega),
    u8_byteOf (n := s.comp.sequences[i].count) (i := 2) rfl (by omega),
    flagAt_flagByte (b := s.comp.sequences[i].valid) (i := 0) rfl,
    flagAt_flagByte (b := s.comp.sequences[i].loops) (i := 3) rfl,
    clampNat_self (Nat.zero_le _) (by omega), clampNat_self some (by omega)]
  dsimp only
  rw [if_neg (Nat.not_lt.mpr fits), bne_self_eq_false, bne_self_eq_false]
  exact Prod.ext (congrArg (fun x => s.withComp { s.comp with sequences := x }) (Vector.set_getElem_self _)) rfl

theorem View.ofCode_code (v : View) : View.ofCode v.code = some v := by cases v <;> rfl

/-- R135: a step whose hold is within its range. -/
theorem writeStep_bytes {i : Fin 64} {s : State} (h : 1 ≤ s.comp.steps[i].hold ∧ s.comp.steps[i].hold ≤ 255) :
    writeStep i s.comp.steps[i].bytes s = (s, .ok) := by
  obtain ⟨some, fits⟩ := h
  have team : u8 s.comp.steps[i].bytes 5 = s.comp.steps[i].team.val := u8_byteOf rfl (by omega)
  have small : s.comp.steps[i].team.val ≤ 15 := by omega
  unfold writeStep
  rw [show s.comp.steps[i].bytes.getD 0 0 = s.comp.steps[i].view.code from rfl, View.ofCode_code]
  dsimp only
  simp only [u8_byteOf (r := s.comp.steps[i].bytes) (n := s.comp.steps[i].hold) (i := 1) rfl (by omega), team,
    u16_toNat (r := s.comp.steps[i].bytes) (x := s.comp.steps[i].highlight) (i := 2) rfl rfl,
    flagAt_flagByte (r := s.comp.steps[i].bytes) (b := s.comp.steps[i].invert) (i := 4) rfl, clampNat_self some fits,
    Nat.min_eq_left small, Fin.eta]
  rw [decide_eq_false (Nat.not_lt.mpr some), decide_eq_false (Nat.not_lt.mpr small)]
  exact Prod.ext (congrArg (fun x => s.withComp { s.comp with steps := x }) (Vector.set_getElem_self _)) rfl

/-- R44: a port configuration within its ranges, its period no shorter than its slots need. -/
theorem portRecord_bytes {c : PortCfg} (h : 1 ≤ c.positions ∧ c.positions ≤ 64 ∧ 8 ≤ c.period ∧ c.period ≤ 64
    ∧ 16 + 2 * c.positions ≤ 8 * c.period ∧ c.skew ≤ 255) : portRecord c.bytes = c := by
  obtain ⟨p1, p64, t8, t64, slots, skew⟩ := h
  have long : minPeriod c.positions ≤ c.period := by unfold minPeriod; omega
  unfold portRecord
  rw [u8_byteOf (n := c.positions) (i := 1) rfl (by omega), u8_byteOf (n := c.period) (i := 2) rfl (by omega),
    u8_byteOf (n := c.skew) (i := 3) rfl (by omega), flagAt_flagByte (b := c.autostart) (i := 0) rfl,
    clampNat_self p1 p64, clampNat_self t8 t64, Nat.max_eq_left long]

theorem writePort_bytes {p : Fin 4} {s : State} (h : PortsLaw s) : writePort p s.ports[p].cfg.bytes s = (s, .ok) := by
  obtain ⟨p1, p64, t8, t64, slots, skew, -⟩ := h p
  have record := portRecord_bytes ⟨p1, p64, t8, t64, slots, skew⟩
  unfold writePort
  rw [record, u8_byteOf (n := s.ports[p].cfg.positions) (i := 1) rfl (by omega),
    u8_byteOf (n := s.ports[p].cfg.period) (i := 2) rfl (by omega)]
  dsimp only
  rw [if_neg (fun h => h.2.elim (· rfl) (· rfl)), bne_self_eq_false, bne_self_eq_false]
  refine Prod.ext ?_ rfl
  show { s with ports := s.ports.set p s.ports[p] } = s
  rw [show s.ports.set p s.ports[p] = s.ports from Vector.set_getElem_self _]

/-! ## TEAMS and CONFIG -/

/-- R31: the name field of a roster record gives the name back. -/
theorem nameBytes_take (fb : Nat → Byte) {name : List Byte} (rest : List Byte) (h : name.length ≤ 12) :
    (((List.range 12).map fun i => name.getD i (fb i)) ++ rest).take name.length = name := by
  refine List.ext_getElem (by simp; omega) fun i _ inside => ?_
  rw [List.getElem_take, List.getElem_append_left (by simp; omega), List.getElem_map, List.getElem_range,
    List.getD_eq_getElem _ _ inside]

theorem nameField_bytes {t : Team} (fb : Nat → Byte) (members present : Nat) (h : nameInRange t.name) :
    nameField (t.bytes fb members present) = some t.name := by
  obtain ⟨short, printable⟩ := h
  have len : u8 (t.bytes fb members present) 1 = t.name.length := u8_byteOf rfl (by omega)
  have name : ((t.bytes fb members present).drop 2).take t.name.length = t.name := nameBytes_take fb _ short
  unfold nameField
  rw [len, name]
  dsimp only
  rw [if_pos]
  simp only [Bool.and_eq_true, decide_eq_true_eq, List.all_eq_true]
  exact ⟨short, printable⟩

theorem writeTeam_bytes {t : Fin 16} {s : State} (fb : Nat → Byte) (members present : Nat) (h : nameInRange s.teams[t].name) :
    writeTeam t (s.teams[t].bytes fb members present) s = (s, .ok) := by
  have flag : flagAt (s.teams[t].bytes fb members present) 0 = s.teams[t].active := flagAt_flagByte rfl
  unfold writeTeam
  rw [nameField_bytes fb members present h]
  dsimp only
  rw [flag, if_neg (fun h => h.1 rfl)]
  refine Prod.ext ?_ rfl
  unfold storeTeam
  dsimp only
  rw [if_pos rfl, if_pos rfl]
  exact congrArg s.withTeams (Vector.set_getElem_self _)

theorem setResting_self (s : State) : setResting s.hub.config.resting s = s := by
  unfold setResting
  dsimp only
  split
  · exact if_pos rfl
  · rfl

/-- R163, R167: CONFIG stored as it is changes nothing: no kind leaves the enable set, and the resting view stays. -/
theorem storeConfig_self (s : State) : storeConfig s.hub.config s = s := by
  have kept (k : NoticeKind) : kindRemoved k s.hub.config s.hub.config = false := by
    unfold kindRemoved
    cases s.hub.config.enabled.getLsbD k.code <;> rfl
  unfold storeConfig dropCoalescing
  dsimp only
  rw [kept, kept]
  exact setResting_self s

/-- R163: a configuration within its ranges. -/
theorem configRecord_bytes {c : Config} (h : configInRange c) : configRecord c.resting c.bytes = c := by
  obtain ⟨kinds, c1, c255, tw, sw, u1, urgent8, s10, s255, -⟩ := h
  have enabled : c.enabled &&& 0x1FF = c.enabled := by
    refine BitVec.eq_of_getLsbD_eq fun i hi => ?_
    rcases Nat.lt_or_ge i 9 with kind | beyond
    · rw [BitVec.getLsbD_and]
      interval_cases i <;> exact Bool.and_true _
    · rw [enabled_beyond _ _ beyond, kinds i beyond]
  unfold configRecord
  rw [u16_toNat (x := c.enabled) (i := 0) rfl rfl, enabled, u8_byteOf (n := c.tallyCount) (i := 2) rfl (by omega),
    u8_byteOf (n := c.tallyWait) (i := 3) rfl (by omega), u8_byteOf (n := c.seatWait) (i := 4) rfl (by omega),
    u8_byteOf (n := c.urgent) (i := 5) rfl (by omega), u8_byteOf (n := c.silentTimeout) (i := 6) rfl (by omega),
    u16_toNat (x := c.mirror) (i := 7) rfl rfl, clampNat_self c1 c255, clampNat_self u1 urgent8, clampNat_self s10 s255]

theorem ofResting_code {v : View} (h : v ≠ .teamCard) : View.ofResting v.code = some v := by
  cases v
  case teamCard => exact absurd rfl h
  all_goals rfl

theorem writeConfigRecord_bytes {s : State} (h : configInRange s.hub.config) :
    writeConfigRecord s.hub.config.bytes s = (s, .ok) := by
  have record := configRecord_bytes h
  obtain ⟨-, c1, c255, -, -, u1, urgent8, s10, s255, resting⟩ := h
  unfold writeConfigRecord
  rw [show s.hub.config.bytes.getD 9 0 = s.hub.config.resting.code from rfl, ofResting_code resting]
  dsimp only
  rw [record, storeConfig_self, u8_byteOf (n := s.hub.config.tallyCount) (i := 2) rfl (by omega),
    u8_byteOf (n := s.hub.config.urgent) (i := 5) rfl (by omega),
    u8_byteOf (n := s.hub.config.silentTimeout) (i := 6) rfl (by omega), decide_eq_false (by omega), decide_eq_false (by omega),
    decide_eq_false (by omega), decide_eq_false (by omega)]
  rfl

/-- Settles O21. -/
theorem writingBackAReadRecordChangesNothing : Obligations.WritingBackAReadRecordChangesNothing := by
  intro tag s records ports unique
  obtain ⟨questions, cues, ⟨sequences, steps⟩, names, config⟩ := (recordsInRange_iff s).mp records
  refine ⟨fun q free e => ?_, fun i e => ?_, fun i e => ?_, fun i e => ?_, fun p e => ?_, fun t fb members present e => ?_,
    fun e => ?_⟩
  · exact write_back (t := .questions) rfl (index_lt q (by decide) rfl) e
      ((onIndex_byteOf q (by decide) _ s).trans (writeQuestion_bytes (questions q) free))
  · exact write_back (t := .cues) rfl (index_lt i (by decide) rfl) e
      ((onIndex_byteOf i (by decide) _ s).trans (writeCue_bytes cues unique))
  · exact write_back (t := .sequences) rfl (index_lt i (by decide) rfl) e
      ((onIndex_byteOf i (by decide) _ s).trans (writeSequence_bytes (sequences i)))
  · exact write_back (t := .steps) rfl (index_lt i (by decide) rfl) e
      ((onIndex_byteOf i (by decide) _ s).trans (writeStep_bytes (steps i)))
  · exact write_back (t := .portcfg) rfl (index_lt p (by decide) rfl) e
      ((onIndex_byteOf p (by decide) _ s).trans (writePort_bytes ports))
  · exact write_back (t := .teams) (by simp [Team.bytes, nameBytes]; rfl) (index_lt t (by decide) rfl) e
      ((onIndex_byteOf t (by decide) _ s).trans (writeTeam_bytes fb members present (names t)))
  · exact write_back (t := .config) rfl (by decide) e (writeConfigRecord_bytes config)

end Sys2Proof.Machine
end

section
/-! SUPPORT. The actions of the round (R11 to R22): what each gives, its REPLY, and the timers' expiries. -/

namespace Sys2Proof.Machine

/-! ## An action and its REPLY -/

/-- What an action leaves of the Hub Agent and its replies: everything. -/
def DeskKept (s v : State) : Prop := Block.replies.same s v ∧ Block.agent.same s v ∧ Block.now.same s v

theorem DeskKept.refl (s : State) : DeskKept s s := ⟨Block.same_refl _ s, Block.same_refl _ s, Block.same_refl _ s⟩

theorem Keeps.desk {bs : List Block} {s v : State} (h : Keeps bs s v) (replies : Block.replies ∉ bs) (agent : Block.agent ∉ bs)
    (now : Block.now ∉ bs) : DeskKept s v := ⟨h _ replies, h _ agent, h _ now⟩

/-- R157, R162: an action is executed, its status is the REPLY, and the agent goes on. -/
theorem act_completes {c : Instr} {payload : List Byte} {act : State → State × Status} {s v : State} {st : Status}
    (run : exec c s = runAction payload act s) (e : Executing payload s) (fits : payloadFits payload = true)
    (gives : act s = (v, st)) (desk : DeskKept s v) :
    ∃ u, exec c s = .next (settleLinks u) ∧ Replied [payload.getD 0 0, payload.getD 1 0, st.code] s u
      ∧ Keeps [.replies, .agent] v u := by
  obtain ⟨⟨replies, owed⟩, ⟨agent, requests⟩, now⟩ := desk
  refine ⟨nextRequest (placeReply payload st [] v), ?_, ⟨?_, ?_, ?_⟩, fun b hb => ?_⟩
  · rw [run, runAction_executing act e fits, gives]
  · simp [replies]
  · simp [owed]
  · rw [takesNext_iff]
    simp [requests, show v.now = s.now from now]
  · cases b <;> simp [Block.same] at hb ⊢

/-- An action that refuses changes nothing but the REPLY. -/
theorem act_refuses {c : Instr} {payload : List Byte} {act : State → State × Status} {s : State} {st : Status}
    (run : exec c s = runAction payload act s) (e : Executing payload s) (fits : payloadFits payload = true)
    (gives : act s = (s, st)) :
    ∃ u, exec c s = .next (settleLinks u) ∧ Replied [payload.getD 0 0, payload.getD 1 0, st.code] s u
      ∧ Keeps [.replies, .agent] s u := act_completes run e fits gives (.refl s)

/-- A timer that has expired: its event happens. -/
theorem whenDue_completes {c : Instr} {due : Bool} {event : State → State} {s : State} {P : State → Prop}
    (run : exec c s = whenDue due event s) (now : due = true) (p : P (event s)) : Completes c s P :=
  ⟨event s, by rw [run]; exact if_pos now, p⟩

/-! ## Opening (R11 to R14) -/

/-- R13: the questions NEXT chooses among. -/
theorem nextQuestion_find (s : State) : nextQuestion s = (List.finRange 128).find? fun x =>
    decide (s.questions[x].kind ≠ .empty ∧ ∀ l, s.round.lastOpened = some l → l.val < x.val) := by
  unfold nextQuestion
  congr 1
  funext x
  rw [Bool.eq_iff_iff, decide_eq_true_eq, Bool.and_eq_true, bne_iff_ne]
  cases s.round.lastOpened <;> simp

/-- R13: NEXT chooses the lowest question that is not EMPTY above the last opened one. -/
theorem nextQuestion_lowest {q : Fin 128} {s : State} (kind : s.questions[q].kind ≠ .empty)
    (above : ∀ l, s.round.lastOpened = some l → l.val < q.val)
    (lowest : ∀ x : Fin 128, x.val < q.val → (∀ l, s.round.lastOpened = some l → l.val < x.val) →
      s.questions[x].kind = .empty) :
    nextQuestion s = some q := by
  rw [nextQuestion_find, List.find?_eq_some_iff_getElem]
  refine ⟨decide_eq_true ⟨kind, above⟩, q.val, by simp, by simp, fun j hj => ?_⟩
  rw [Bool.not_eq_true', decide_eq_false_iff_not]
  rintro ⟨filled, higher⟩
  exact filled (lowest _ (by simpa using hj) higher)

/-- R13: what NEXT chooses is not EMPTY. -/
theorem nextQuestion_openable (s : State) : openable (nextQuestion s) s = nextQuestion s := by
  unfold openable
  cases h : nextQuestion s with
  | none => rfl
  | some q =>
    have found := List.find?_some h
    rw [Bool.and_eq_true, bne_iff_ne] at found
    exact if_neg found.1

/-- R11: what an OPEN chooses. -/
theorem openable_eq {b : Byte} {chosen : Option (Fin 128)} {s : State}
    (h : ∀ q : Fin 128, chosen = some q ↔ b.toNat = q.val ∧ s.questions[q].kind ≠ .empty) :
    openable (finOf 128 b.toNat) s = chosen := by
  refine Option.ext fun q => ?_
  rw [h q]
  unfold openable finOf
  by_cases inside : b.toNat < 128
  · rw [dif_pos inside]
    dsimp only
    split
    · rename_i empty
      refine ⟨nofun, fun ⟨at_, filled⟩ => absurd empty ?_⟩
      simpa only [show (⟨b.toNat, inside⟩ : Fin 128) = q from Fin.ext at_] using filled
    · rename_i filled
      rw [Option.some.injEq]
      exact ⟨fun eq => eq ▸ ⟨rfl, filled⟩, fun ⟨at_, _⟩ => Fin.ext at_⟩
  · rw [dif_neg inside]
    exact ⟨nofun, fun ⟨at_, _⟩ => absurd (at_ ▸ q.isLt) inside⟩

/-- OPEN or NEXT, and the question it chooses (R11, R13). -/
def Opening (c : Instr) (tag : Byte) (chosen : Option (Fin 128)) (s : State) : Prop :=
  (∃ b : Byte, c = .actOpen tag b ∧ Executing [tag, 3, 1, b] s
      ∧ ∀ q : Fin 128, chosen = some q ↔ b.toNat = q.val ∧ s.questions[q].kind ≠ .empty)
    ∨ (c = .actNext tag ∧ Executing [tag, 3, 2] s ∧ chosen = nextQuestion s)

/-- R11, R13: OPEN and NEXT act by the question they choose. -/
theorem Opening.completes {c : Instr} {tag : Byte} {chosen : Option (Fin 128)} {s v : State} {st : Status}
    (h : Opening c tag chosen s) (gives : ∀ q, openable q s = chosen → openChosen q s = (v, st)) (desk : DeskKept s v) :
    ∃ u, exec c s = .next (settleLinks u) ∧ Replied [tag, 3, st.code] s u ∧ Keeps [.replies, .agent] v u := by
  rcases h with ⟨b, rfl, e, chooses⟩ | ⟨rfl, e, chooses⟩
  · exact act_completes (act := openAction b) rfl e rfl (gives _ (openable_eq chooses)) desk
  · exact act_completes (act := nextAction) rfl e rfl (gives _ (chooses ▸ nextQuestion_openable s)) desk

/-- R11, R13: OPEN and NEXT in a round state that opens nothing. -/
theorem openChosen_badState {q : Option (Fin 128)} {s : State}
    (h : s.round.state = .opened ∨ s.round.state = .floor ∨ s.round.state = .closing ∨ s.round.state = .closed) :
    openChosen q s = (s, .badState) := by
  unfold openChosen
  rcases h with h | h | h | h <;> rw [h]

theorem openChosen_none {q : Option (Fin 128)} {s : State} (h : s.round.state = .idle ∨ s.round.state = .committing)
    (none : openable q s = none) : openChosen q s = (s, .badValue) := by
  unfold openChosen
  rcases h with h | h <;> rw [h, none]

theorem openChosen_idle {q : Option (Fin 128)} {n : Fin 128} {s : State} (h : s.round.state = .idle)
    (some : openable q s = some n) : openChosen q s = (openQuestion n s, .ok) := by
  unfold openChosen
  rw [h, some]

theorem openChosen_committing {q : Option (Fin 128)} {n : Fin 128} {s : State} (h : s.round.state = .committing)
    (some : openable q s = some n) :
    openChosen q s = (s.withRound { s.round with pendingOpen := .some n }, .ok) := by
  unfold openChosen
  rw [h, some]

/-- R12: an open leaves the Hub Agent's replies and requests. -/
theorem QuestionOpened.desk {q : Fin 128} {s u : State} (h : QuestionOpened q s u) : DeskKept s u := by
  obtain ⟨-, -, -, -, -, -, -, -, -, -, -, kept⟩ := h
  exact kept.desk (by decide) (by decide) (by decide)

/-- Settles O24. -/
theorem openingAQuestionStartsItsRecordsAfresh : Obligations.OpeningAQuestionStartsItsRecordsAfresh := by
  intro c tag q s idle kind h
  have opening : Opening c tag (some q) s := by
    rcases h with ⟨rfl, e⟩ | ⟨rfl, e, above, lowest⟩
    · refine .inl ⟨_, rfl, e, fun x => ?_⟩
      rw [byteOf_toNat (by omega), Option.some.injEq]
      exact ⟨fun eq => eq ▸ ⟨rfl, kind⟩, fun ⟨at_, _⟩ => Fin.ext at_⟩
    · exact .inr ⟨rfl, e, (nextQuestion_lowest kind above lowest).symm⟩
  have opened := openQuestion_opened q s
  obtain ⟨u, run, replied, kept⟩ := opening.completes (fun _ => openChosen_idle idle) opened.desk
  exact ⟨u, run, _, opened, replied, kept⟩

/-- Settles O25. -/
theorem openingsWaitForACommitOrAreRefused : Obligations.OpeningsWaitForACommitOrAreRefused := by
  intro c tag chosen s h
  have opening : Opening c tag chosen s := h
  by_cases bad : s.round.state = .opened ∨ s.round.state = .floor ∨ s.round.state = .closing ∨ s.round.state = .closed
  · obtain ⟨u, run, refused⟩ := opening.completes (fun _ _ => openChosen_badState bad) (.refl s)
    refine ⟨u, run, fun _ => refused, fun other => ?_, fun _ other => ?_⟩
    · rcases other with h | h <;> rw [h] at bad <;> simp at bad
    · rw [other] at bad; simp at bad
  have opens : s.round.state = .idle ∨ s.round.state = .committing := by
    cases h : s.round.state <;> simp [h] at bad ⊢
  cases chosen with
  | none =>
    obtain ⟨u, run, refused⟩ := opening.completes (fun _ => openChosen_none opens) (.refl s)
    exact ⟨u, run, fun h => absurd h bad, fun _ _ => refused, fun _ _ => nofun⟩
  | some q =>
    rcases opens with idle | committing
    · obtain ⟨u, run, -⟩ := opening.completes (fun _ => openChosen_idle idle) (openQuestion_opened q s).desk
      refine ⟨u, run, fun h => absurd h bad, fun _ => nofun, fun _ other => ?_⟩
      rw [idle] at other; cases other
    · obtain ⟨u, run, replied, kept⟩ := opening.completes (fun _ => openChosen_committing committing)
        ⟨⟨rfl, rfl⟩, ⟨rfl, rfl⟩, rfl⟩
      refine ⟨u, run, fun h => absurd h bad, fun _ => nofun, fun n _ eq => ⟨replied, ?_,
        Keeps.then_reply [.round] (fun b hb => ?_) kept⟩⟩
      · cases eq; exact kept .round (by decide)
      · cases b <;> simp [Block.same] at hb ⊢

/-! ## Closing (R15 to R17, R96) -/

theorem expired_some {e now : Time} (h : 0 ≤ since now e) : expired (some e) now = true := decide_eq_true h

theorem closeAction_opened {s : State} (h : s.round.state = .opened) : closeAction s = (closeAnswering s, .ok) := by
  unfold closeAction; rw [h]

/-- R16: a CLOSE in FLOOR closes the window for good. -/
theorem closeAction_floor {s : State} (h : s.round.state = .floor) (m : s.round.closedMark = false) :
    closeAction s = ((s.withResp { s.resp with header := { s.resp.header with closeTime := some s.now } }).withRound
      { s.round with window := .stopped, closedMark := true }, .ok) := by
  unfold closeAction; rw [h]
  exact if_neg (by rw [m]; decide)

theorem closeAction_badState {s : State} (o : s.round.state ≠ .opened)
    (f : ¬ (s.round.state = .floor ∧ s.round.closedMark = false)) : closeAction s = (s, .badState) := by
  unfold closeAction
  cases h : s.round.state with
  | opened => exact absurd h o
  | floor =>
    refine if_pos (Bool.not_eq_false _ ▸ fun m => f ⟨h, m⟩)
  | _ => rfl

/-- Settles O26. -/
theorem closingSettlesAndTestsTheHead : Obligations.ClosingSettlesAndTestsTheHead := by
  refine ⟨⟨fun d s opened window due => ?_, fun tag s e => ?_⟩, fun e s closing settle due => ?_, fun e s head due => ?_⟩
  · refine whenDue_completes rfl ?_ (closeAnswering_closes s)
    unfold windowDue
    rw [opened, window]
    exact decide_eq_true due
  · by_cases opened : s.round.state = .opened
    · obtain ⟨u, run, replied, kept⟩ := act_completes (c := .actClose tag) (act := closeAction) rfl e rfl
        (closeAction_opened opened)
        ⟨by simp [Block.same], by simp [Block.same], by simp [Block.same]⟩
      exact ⟨u, run, (if_pos opened).mpr ⟨_, closeAnswering_closes s, replied, kept⟩⟩
    by_cases floor : s.round.state = .floor ∧ s.round.closedMark = false
    · obtain ⟨u, run, replied, kept⟩ := act_completes (c := .actClose tag) (act := closeAction) rfl e rfl
        (closeAction_floor floor.1 floor.2)
        ⟨by simp [Block.same], by simp [Block.same], by simp [Block.same]⟩
      refine ⟨u, run, (if_neg opened).mpr ((if_pos floor).mpr ⟨replied, kept .round (by decide), kept .resp (by decide),
        Keeps.then_reply [.round, .resp] (fun b hb => ?_) kept⟩)⟩
      cases b <;> simp [Block.same] at hb ⊢
    · obtain ⟨u, run, refused⟩ := act_refuses (c := .actClose tag) (act := closeAction) rfl e rfl
        (closeAction_badState opened floor)
      exact ⟨u, run, (if_neg opened).mpr ((if_neg floor).mpr refused)⟩
  · refine whenDue_completes rfl ?_ (settleExpires_over s)
    unfold settleDue
    rw [closing, settle, expired_some due]
    rfl
  · refine whenDue_completes rfl ?_ (grantTest_tested s)
    unfold headDue
    rw [head, expired_some due]

end Sys2Proof.Machine
end

section
/-! SUPPORT. COMMIT, CANCEL and the verdicts (R20, R22, R98 to R104). -/

namespace Sys2Proof.Machine

/-! ## COMMIT and CANCEL (R20, R22, R104) -/

theorem commitAction_closed {s : State} (h : s.round.state = .closed) : commitAction s = (enterCommitting false s, .ok) := by
  unfold commitAction; rw [h]

theorem commitAction_badState {s : State} (h : s.round.state ≠ .closed) : commitAction s = (s, .badState) := by
  unfold commitAction
  cases e : s.round.state with
  | closed => exact absurd e h
  | _ => rfl

theorem cancelAction_idle {s : State} (h : s.round.state = .idle) : cancelAction s = (s, .badState) := by
  unfold cancelAction; rw [h]

theorem cancelAction_committing {s : State} (h : s.round.state = .committing) : cancelAction s = (s, .busy) := by
  unfold cancelAction; rw [h]

theorem cancelAction_taken {s : State} (i : s.round.state ≠ .idle) (c : s.round.state ≠ .committing) :
    cancelAction s = (cancelQuestion s, .ok) := by
  unfold cancelAction
  cases e : s.round.state with
  | idle => exact absurd e i
  | committing => exact absurd e c
  | _ => rfl

/-- R22: the round of a question cancelled, its floor released and its lamps and pending teams still as they were. -/
def cancelledRound (s : State) : State :=
  moveRound .idle false (releaseFloor (s.withRound { s.round with window := .stopped, settle := none }))

theorem cancelQuestion_eq (s : State) :
    cancelQuestion s = lampsOff (fun _ => false) (applyPending true (cancelledRound s)) := rfl

/-- R29, R104: the seats after a CANCEL. -/
theorem cancelQuestion_seat (s : State) (k : Fin 256) : (cancelQuestion s).seats[k]
    = { s.seats[k] with team := s.seats[k].pending.getD s.seats[k].team, pending := none, lamp := .off } := by
  rw [cancelQuestion_eq, lampsOff_seat, if_neg (by decide), applyPending_seat]
  simp [cancelledRound]

/-- R22, R29, R41: the notice of the move to IDLE, then a SEAT event for each seat whose team changes. -/
theorem cancelQuestion_events (s : State) : HubEvents
    (.notice (.roundState .idle s.round.current s.round.closedMark none) :: pendingEvents s) s (cancelQuestion s) := by
  have hub : (cancelledRound s).hub
      = (raiseNotice (.roundState .idle s.round.current s.round.closedMark none) (s.withSeats (cancelQuestion s).seats)).hub := by
    unfold cancelledRound moveRound
    rw [releaseFloor_round]
    exact raiseNotice_same _ (by simp) (by simp)
  have pending : pendingEvents (cancelledRound s) = pendingEvents s := by unfold pendingEvents; simp [cancelledRound]
  have applied := applyPending_hub (cancelledRound s) (raiseNotice (.roundState .idle s.round.current s.round.closedMark none)
    (s.withSeats (cancelQuestion s).seats)) hub (by simp [cancelledRound]) fun k => by
      rw [raiseNotice_seats, withSeats_seats, cancelQuestion_seat, applyPending_seat]
      simp [shown, cancelledRound]
  have same : (cancelQuestion s).hub = (raiseEvents (.notice (.roundState .idle s.round.current s.round.closedMark none)
      :: pendingEvents s) (s.withSeats (cancelQuestion s).seats)).hub := by
    rw [raiseEvents_notice, ← pending, ← applied]
    conv_lhs => rw [cancelQuestion_eq]
    simp only [lampsOff_hub]
  unfold HubEvents
  rw [same]
  exact ⟨rfl, rfl, rfl, rfl⟩

/-- Settles O27. -/
theorem commitBeginsAPassAndCancelEndsTheQuestion : Obligations.CommitBeginsAPassAndCancelEndsTheQuestion := by
  refine ⟨fun tag s e => ?_, fun tag s e => ?_⟩
  · by_cases closed : s.round.state = .closed
    · obtain ⟨u, run, replied, kept⟩ := act_completes (c := .actCommit tag) (act := commitAction) rfl e rfl
        (commitAction_closed closed) ⟨by simp [Block.same], by simp [Block.same], by simp [Block.same]⟩
      have score : u.score = _ := (kept .score (by decide)).trans (enterCommitting_score false s)
      refine ⟨u, run, (if_pos closed).mpr ⟨replied, ?_, by rw [score], by rw [score], by rw [score], by rw [score], by rw [score],
        fun t => ?_, ?_, Keeps.then_reply [.round, .score, .notices, .noticeLost] (fun b hb => ?_) kept⟩⟩
      · exact (kept .round (by decide)).trans (by simp [enterCommitting, moveRound])
      · rw [score]; simp
      · exact moveRound_notices .committing false s u ((kept .notices (by decide)).trans (by simp [enterCommitting]))
          ((kept .noticeLost (by decide)).trans (by simp [enterCommitting]))
      · cases b <;> simp [Block.same] at hb ⊢
    · obtain ⟨u, run, refused⟩ := act_refuses (c := .actCommit tag) (act := commitAction) rfl e rfl
        (commitAction_badState closed)
      exact ⟨u, run, (if_neg closed).mpr refused⟩
  · by_cases idle : s.round.state = .idle
    · obtain ⟨u, run, refused⟩ := act_refuses (c := .actCancel tag) (act := cancelAction) rfl e rfl (cancelAction_idle idle)
      exact ⟨u, run, (if_pos idle).mpr refused⟩
    by_cases committing : s.round.state = .committing
    · obtain ⟨u, run, refused⟩ := act_refuses (c := .actCancel tag) (act := cancelAction) rfl e rfl
        (cancelAction_committing committing)
      exact ⟨u, run, (if_neg idle).mpr ((if_pos committing).mpr refused)⟩
    · obtain ⟨u, run, replied, kept⟩ := act_completes (c := .actCancel tag) (act := cancelAction) rfl e rfl
        (cancelAction_taken idle committing) ⟨by simp [Block.same], by simp [Block.same], by simp [Block.same]⟩
      have seats : u.seats = (cancelQuestion s).seats := kept .seats (by decide)
      refine ⟨u, run, (if_neg idle).mpr ((if_neg committing).mpr ⟨replied, ?_, ?_, fun k => ?_, ?_, ?_,
        Keeps.then_reply [.round, .buzz, .seats, .comp, .seatList, .notices, .noticeLost] (fun b hb => ?_) kept⟩)⟩
      · exact (kept .round (by decide)).trans (by simp [cancelQuestion, moveRound])
      · exact (kept .buzz (by decide)).trans (by simp [cancelQuestion, releaseFloor_buzz])
      · rw [seats]; exact cancelQuestion_seat s k
      · obtain ⟨notices, lost, changes, timer⟩ := cancelQuestion_events s
        obtain ⟨listKept, timerKept⟩ := kept .seatList (by decide)
        unfold HubEvents
        rw [seats]
        exact ⟨(kept .notices (by decide)).trans notices, (kept .noticeLost (by decide)).trans lost, listKept.trans changes,
          timerKept.trans timer⟩
      · refine releaseFloor_refreshed (s := s.withRound { s.round with window := .stopped, settle := none })
          ((kept .comp (by decide)).trans (by simp [cancelQuestion])) ?_ ?_ ?_ ?_
          ((kept .buzz (by decide)).trans (by simp [cancelQuestion]))
        · exact ((kept .teams (by decide)).trans (cancelQuestion_teams (s := s))).symm
        · exact (kept .now (by decide)).trans (cancelQuestion_now (s := s))
        · exact (kept .config (by decide)).trans (cancelQuestion_hub_config (s := s))
        · exact congrArg Responses.header ((kept .resp (by decide)).trans (cancelQuestion_resp (s := s))).symm
      · cases b <;> simp [Block.same] at hb ⊢

end Sys2Proof.Machine
end

section
/-! SUPPORT. Verdicts (R98 to R102): the one recorded, the release of the floor, and what follows it. -/

namespace Sys2Proof.Machine

/-! ## The release -/

/-- R101: the floor and the head leave the queue, and the team is locked. -/
def releasedBuzz (v : Verdict) (e : BuzzEntry) (rest : List BuzzEntry) (s : State) : Buzz :=
  { (recordVerdict v e rest s).buzz with
    queue := rest
    held := false
    locked := (recordVerdict v e rest s).buzz.locked.insert e.team
    stealsUsed := stealsAfter v rest s }

/-- R101, R105: the state after the release of a verdict, with its two reports. -/
def released (v : Verdict) (e : BuzzEntry) (rest : List BuzzEntry) (s : State) : State :=
  reportBuzz (reportBuzz ((recordVerdict v e rest s).withBuzz (releasedBuzz v e rest s)))

theorem judgeHolder_right (e : BuzzEntry) (rest : List BuzzEntry) (s : State) :
    judgeHolder .right e rest s = endQuestion (recordVerdict .right e rest s) := rfl

theorem judgeHolder_released {v : Verdict} (h : v ≠ .right) (e : BuzzEntry) (rest : List BuzzEntry) (s : State) :
    judgeHolder v e rest s = releaseWrong s.buzz.stealsUsed (released v e rest s) := if_neg h

theorem released_buzz (v : Verdict) (e : BuzzEntry) (rest : List BuzzEntry) (s : State) :
    (released v e rest s).buzz = releasedBuzz v e rest s := by simp [released]

theorem released_keeps (v : Verdict) (e : BuzzEntry) (rest : List BuzzEntry) (s : State) :
    Keeps [.buzz, .comp] (recordVerdict v e rest s) (released v e rest s) := by
  intro b hb
  cases b <;> simp [Block.same, released] at hb ⊢

/-- R105: a report of the queue refreshes the BUZZ_ORDER view. -/
theorem reportBuzz_refreshed {s a : State} (view : currentView a = currentView s) :
    Refreshed (decide (currentView s = .buzzOrder)) a (reportBuzz a) := by
  have counts : countsBuzz (currentView a) = decide (currentView s = .buzzOrder) := by
    rw [view]
    unfold countsBuzz
    cases currentView s <;> rfl
  rw [← counts]
  exact reportChange_refreshed countsBuzz a

theorem recordVerdict_view (v : Verdict) (e : BuzzEntry) (rest : List BuzzEntry) (s : State) :
    currentView (recordVerdict v e rest s) = currentView s := by
  simp [currentView, shownStep, recordVerdict]

theorem reportBuzz_view (s : State) : currentView (reportBuzz s) = currentView s := by
  simp [currentView, shownStep]

/-- R101, R105: the removal and the release, each reported. -/
theorem released_refreshed (v : Verdict) (e : BuzzEntry) (rest : List BuzzEntry) (s : State) :
    ∃ m, Refreshed (decide (currentView s = .buzzOrder)) ((recordVerdict v e rest s).withBuzz (releasedBuzz v e rest s)) m
      ∧ m.buzz = releasedBuzz v e rest s ∧ Keeps [.buzz, .comp] (recordVerdict v e rest s) m
      ∧ Refreshed (decide (currentView s = .buzzOrder)) m (released v e rest s) := by
  have view : currentView ((recordVerdict v e rest s).withBuzz (releasedBuzz v e rest s)) = currentView s :=
    recordVerdict_view v e rest s
  refine ⟨reportBuzz ((recordVerdict v e rest s).withBuzz (releasedBuzz v e rest s)), reportBuzz_refreshed view, by simp,
    fun b hb => ?_, reportBuzz_refreshed ((reportBuzz_view _).trans view)⟩
  cases b <;> simp [Block.same] at hb ⊢

/-- R102: steals are left and someone may still buzz, or the question ends. -/
theorem releaseWrong_released (v : Verdict) (e : BuzzEntry) (rest : List BuzzEntry) (s : State) :
    if s.buzz.stealsUsed < (headerQuestion s).steals ∧ (rest ≠ [] ∨ s.round.closedMark = false) then
      ∃ d, FloorOpenAgain (released v e rest s) d ∧ GrantTested d (releaseWrong s.buzz.stealsUsed (released v e rest s))
    else QuestionEnds (released v e rest s) (releaseWrong s.buzz.stealsUsed (released v e rest s)) := by
  have question : headerQuestion (released v e rest s) = headerQuestion s := by
    simp [headerQuestion, released, recordVerdict]
  have queue : (released v e rest s).buzz.queue = rest := by rw [released_buzz]; rfl
  have mark : (released v e rest s).round.closedMark = s.round.closedMark := by simp [released, recordVerdict]
  have buzzable : rest ≠ [] ∨ ¬ s.round.closedMark = true ↔ rest ≠ [] ∨ s.round.closedMark = false := by
    rw [Bool.not_eq_true]
  unfold releaseWrong
  rw [question, queue, mark]
  split
  · rename_i left
    rw [if_pos ⟨left.1, buzzable.mpr left.2⟩]
    exact ⟨_, floorOpenAgain_open _, grantTest_tested _⟩
  · rename_i ended
    rw [if_neg fun left => ended ⟨left.1, buzzable.mp left.2⟩]
    exact endQuestion_ends _

/-! ## The two ways to a verdict (R98, R99) -/

theorem stealsAfter_eq (v : Verdict) (rest : List BuzzEntry) (s : State) : stealsAfter v rest s =
    if v ≠ .right ∧ s.buzz.stealsUsed < (headerQuestion s).steals ∧ rest ≠ [] then s.buzz.stealsUsed + 1
    else s.buzz.stealsUsed := by
  unfold stealsAfter
  by_cases right : v = .right
  · rw [if_pos right, if_neg fun h => h.1 right]
  · rw [if_neg right]
    exact if_congr (and_iff_right right).symm rfl rfl

/-- R98: a JUDGE of the holder's team, not judged before. -/
theorem judgeAction_holder {v : Verdict} {e : BuzzEntry} {rest : List BuzzEntry} {s : State} (floor : s.round.state = .floor)
    (held : s.buzz.held = true) (queue : s.buzz.queue = e :: rest) (given : v ≠ .timeout)
    (fresh : ∀ j ∈ s.buzz.judged, j.team ≠ e.team) :
    judgeAction (byteOf e.team.val) v.code s = (judgeHolder v e rest s, .ok) := by
  have team : finOf 16 (byteOf e.team.val).toNat = some e.team := by rw [byteOf_toNat (by omega), finOf_val]
  have verdict : Verdict.ofJudge v.code = some v := by
    cases v
    case timeout => exact absurd rfl given
    all_goals rfl
  have unjudged : s.buzz.judged.any (fun j => j.team == e.team) = false := by
    rw [List.any_eq_false]
    intro j hj same
    exact fresh j hj (beq_iff_eq.mp same)
  unfold judgeAction
  rw [team, verdict]
  dsimp only
  rw [unjudged, if_neg (by decide), if_neg (not_not.mpr floor), held, queue]
  exact if_pos rfl

theorem answerTimeout_holder {e : BuzzEntry} {rest : List BuzzEntry} {s : State} (held : s.buzz.held = true)
    (queue : s.buzz.queue = e :: rest) : answerTimeout s = judgeHolder .timeout e rest s := by
  unfold answerTimeout
  rw [held, queue]

/-- R98, R99: the verdict that the command gives is carried out, and a JUDGE is answered OK. -/
theorem judge_completes {c : Instr} {tag : Byte} {v : Verdict} {e : BuzzEntry} {rest : List BuzzEntry} {s : State}
    (floor : s.round.state = .floor) (held : s.buzz.held = true) (queue : s.buzz.queue = e :: rest)
    (h : (c = .answerTimerExpiry ∧ v = .timeout ∧ ∃ d, s.buzz.answerTimer = some d ∧ 0 ≤ since s.now d)
      ∨ (c = .actJudge tag (byteOf e.team.val) v.code ∧ v ≠ .timeout
        ∧ Executing [tag, 3, 6, byteOf e.team.val, v.code] s ∧ ∀ j ∈ s.buzz.judged, j.team ≠ e.team)) :
    Completes c s fun u => (c = .answerTimerExpiry → u = judgeHolder v e rest s)
      ∧ (c ≠ .answerTimerExpiry → Replied [tag, 3, 0] s u ∧ Keeps [.replies, .agent] (judgeHolder v e rest s) u) := by
  rcases h with ⟨rfl, rfl, d, timer, due⟩ | ⟨rfl, given, ex, fresh⟩
  · refine whenDue_completes (due := answerDue s) rfl ?_ ⟨fun _ => answerTimeout_holder held queue, fun no => absurd rfl no⟩
    unfold answerDue
    rw [floor, timer, expired_some due]
    rfl
  · obtain ⟨u, run, replied, kept⟩ := act_completes (c := .actJudge tag (byteOf e.team.val) v.code)
      (act := judgeAction (byteOf e.team.val) v.code) rfl ex rfl (judgeAction_holder floor held queue given fresh)
      ⟨by simp [Block.same], by simp [Block.same], by simp [Block.same]⟩
    exact ⟨u, run, nofun, fun _ => ⟨replied, kept⟩⟩

/-- Settles O28. -/
theorem verdictsAreRecordedAndReleaseTheFloor : Obligations.VerdictsAreRecordedAndReleaseTheFloor := by
  intro c tag v e rest s floor held queue h
  obtain ⟨u, run, timeout, judged⟩ := judge_completes floor held queue h
  have recorded := recordVerdict_recorded v e rest s
  rw [stealsAfter_eq] at recorded
  by_cases right : v = .right
  · refine ⟨u, run, _, _, judgeHolder v e rest s, recorded, (if_pos right).mpr ⟨rfl, ?_⟩, timeout, judged⟩
    subst right
    exact endQuestion_ends _
  · refine ⟨u, run, _, released v e rest s, judgeHolder v e rest s, recorded,
      (if_neg right).mpr ⟨?_, ?_, ?_, ?_⟩, timeout, judged⟩
    · rw [released_buzz, ← stealsAfter_eq]; rfl
    · rw [released_buzz]; exact released_refreshed v e rest s
    · exact released_keeps v e rest s
    · rw [judgeHolder_released right]; exact releaseWrong_released v e rest s

end Sys2Proof.Machine
end

section
/-! SUPPORT. A press handed off: what it does to its seat, and the route it takes (R23, R32, R77 to R97). -/

namespace Sys2Proof.Machine

/-! ## The hand-off -/

theorem handOff_completes {f : Stamped} {s : State} {P : State → Prop} (h : s.stamper.inHand = some f) (p : P (handOff f s)) :
    Completes .frameHandoff s P := by
  refine ⟨handOff f s, ?_, p⟩
  show execFrameHandoff s = _
  unfold execFrameHandoff
  rw [h]
  rfl

/-- R32, R37: a press that is no duplicate, after what every press does to its seat. -/
def heardPress (k : Fin 256) (n : Fin 4) (s : State) : State := pressHeard k n (stamperEmptied s)

/-- R32: what every press does to its seat leaves what its dispatch reads. -/
theorem heardPress_same (k : Fin 256) (n : Fin 4) (s : State) : (heardPress k n s).round = s.round
    ∧ (heardPress k n s).resp = s.resp ∧ (heardPress k n s).buzz = s.buzz ∧ (heardPress k n s).teams = s.teams
    ∧ (heardPress k n s).questions = s.questions := by
  simp [heardPress, pressHeard]

theorem heardPress_question (k : Fin 256) (n : Fin 4) (s : State) : headerQuestion (heardPress k n s) = headerQuestion s := by
  obtain ⟨-, resp, -, -, questions⟩ := heardPress_same k n s
  unfold headerQuestion
  rw [resp, questions]

theorem heardPress_cls (k : Fin 256) (n : Fin 4) (s : State) : (heardPress k n s).seats[k].cls = s.seats[k].cls := by
  unfold heardPress
  rw [pressHeard_seat]
  rfl

theorem heardPress_collecting (k : Fin 256) (n : Fin 4) (s : State) : collecting (heardPress k n s) = collecting s := by
  unfold collecting
  rw [(heardPress_same k n s).1]

/-- R23, R37: a PRESS that is no duplicate is dispatched by its key. -/
theorem handOff_pressed {p : Fin 4} {pos : Fin 64} {n : Fin 4} {s : State} (key : Byte) (r : Fin 16) (o : Nat) (time : Time)
    (marks : Marks) (sweeping : s.ports[p].state = .sweeping) (fresh : s.seats[seatOf p pos].lastPress ≠ some n) :
    handOff ⟨p, pos, .press key n r o, some (time, marks)⟩ s
      = routeKey (seatOf p pos) s.seats[seatOf p pos].team key time marks (heardPress (seatOf p pos) n s) := by
  rw [handOff_press p pos key n r o time marks s sweeping]
  exact if_neg fresh

/-- R23, R37: a DIGITS frame that is no duplicate is dispatched. -/
theorem handOff_digited {p : Fin 4} {pos : Fin 64} {n : Fin 4} {s : State} (v : Nat) (r : Fin 16) (o : Nat) (time : Time)
    (marks : Marks) (sweeping : s.ports[p].state = .sweeping) (fresh : s.seats[seatOf p pos].lastPress ≠ some n) :
    handOff ⟨p, pos, .digits v n r o, some (time, marks)⟩ s
      = routeDigits (seatOf p pos) s.seats[seatOf p pos].team v time marks (heardPress (seatOf p pos) n s) := by
  rw [handOff_digits p pos v n r o time marks s sweeping]
  exact if_neg fresh

/-! ## Eligibility (R77, R91) -/

/-- R77: the team of seat k is active and eligible for the question of the header. -/
def EligibleAs (k : Fin 256) (s : State) (t : Fin 16) : Prop :=
  s.seats[k].team = some t ∧ s.teams[t].active = true ∧ (headerQuestion s).eligible.mem t = true

theorem heardPress_eligible {k : Fin 256} {n : Fin 4} {s : State} {t : Fin 16} (h : EligibleAs k s t) :
    eligibleTeam s.seats[k].team (heardPress k n s) = some t := by
  rw [eligibleTeam_some, heardPress_question, (heardPress_same k n s).2.2.2.1]
  exact h

theorem heardPress_ineligible {k : Fin 256} {n : Fin 4} {s : State} (h : ∀ t, ¬ EligibleAs k s t) :
    eligibleTeam s.seats[k].team (heardPress k n s) = none := by
  rw [eligibleTeam_none, heardPress_question, (heardPress_same k n s).2.2.2.1]
  exact h

/-- R39: a lamp shown, and nothing else. -/
theorem requestLamp_only (k : Fin 256) (lamp : Lamp) (s : State) :
    LampShown k lamp s (requestLamp k lamp s) ∧ Keeps [.seats, .ports] s (requestLamp k lamp s) := by
  refine ⟨requestLamp_shown k lamp s, fun b hb => ?_⟩
  cases b <;> simp [Block.same] at hb ⊢

/-! ## Answers (R77 to R86) -/

/-- R77: the option that a key names. -/
theorem keyAnswer_eq {key : Byte} {options : Nat} {answer : Option Answer}
    (h : (∃ x : Fin 6, x.val = key.toNat ∧ x.val < options ∧ answer = some (.option x))
      ∨ ((6 ≤ key.toNat ∨ options ≤ key.toNat) ∧ answer = none)) : keyAnswer key options = answer := by
  unfold keyAnswer
  rcases h with ⟨x, at_, inside, rfl⟩ | ⟨beyond, rfl⟩
  · rw [← at_, finOf_val]
    exact if_pos inside
  · by_cases six : key.toNat < 6
    · rw [show finOf 6 key.toNat = some ⟨key.toNat, six⟩ from dif_pos six]
      exact if_neg (Nat.not_lt.mpr (beyond.resolve_left (Nat.not_le.mpr six)))
    · rw [show finOf 6 key.toNat = none from dif_neg six]

/-- R23: a key of a CHOICE or POLL question that is being answered goes to the Response Collector. -/
theorem routeKey_answer {k : Fin 256} {team : Option (Fin 16)} {key : Byte} (time : Time) (marks : Marks) {s : State}
    (kind : s.resp.header.kind = some .choice ∨ s.resp.header.kind = some .poll) (low : key.toNat < 7)
    (answering : collecting s = true) :
    routeKey k team key time marks s = judgePress k team (keyAnswer key (headerQuestion s).options) time marks s := by
  have help : key ≠ 7 := fun h => by rw [h] at low; exact absurd low (by decide)
  unfold routeKey
  rw [if_neg (by omega), if_neg help]
  rcases kind with h | h <;> rw [h] <;> exact if_pos answering

/-- R77 to R82: the judgement of an answer, or of a press that is none. -/
theorem judgePress_heard (k : Fin 256) (n : Fin 4) (answer : Option Answer) (time : Time) (marks : Marks) (s : State) :
    ((∀ t, ¬ EligibleAs k s t) → LampShown k .notEligible (heardPress k n s)
        (judgePress k s.seats[k].team answer time marks (heardPress k n s))
      ∧ Keeps [.seats, .ports] (heardPress k n s) (judgePress k s.seats[k].team answer time marks (heardPress k n s)))
    ∧ (answer = none → ∀ t, EligibleAs k s t →
        judgePress k s.seats[k].team answer time marks (heardPress k n s) = heardPress k n s)
    ∧ ∀ x, answer = some x → ∀ t, EligibleAs k s t → AnswerJudged k t x time marks (heardPress k n s)
        (judgePress k s.seats[k].team answer time marks (heardPress k n s)) := by
  refine ⟨fun none => ?_, fun ignored t team => ?_, fun x taken t team => ?_⟩
  · have lamp : judgePress k s.seats[k].team answer time marks (heardPress k n s)
        = requestLamp k .notEligible (heardPress k n s) := by
      unfold judgePress
      rw [heardPress_ineligible none]
    rw [lamp]
    exact requestLamp_only k .notEligible _
  · unfold judgePress
    rw [heardPress_eligible team, ignored]
  · rw [taken]
    exact judgePress_judged k _ t x time marks _ (heardPress_eligible team)

/-- Settles O37. -/
theorem answersAreJudgedByTheirPressTime : Obligations.AnswersAreJudgedByTheirPressTime := by
  intro p pos frame time marks n answer s inHand sweeping fresh state frames
  obtain ⟨-, resp, -⟩ := heardPress_same (seatOf p pos) n s
  have answering : collecting (heardPress (seatOf p pos) n s) = true := by
    rw [heardPress_collecting]
    rcases state with h | h <;> simp [collecting, h]
  have judged : handOff ⟨p, pos, frame, some (time, marks)⟩ s
      = judgePress (seatOf p pos) s.seats[seatOf p pos].team answer time marks (heardPress (seatOf p pos) n s) := by
    rcases frames with ⟨key, r, o, rfl, kind, low, named⟩ | ⟨v, r, o, rfl, kind, value⟩
    · rw [handOff_pressed key r o time marks sweeping fresh, routeKey_answer time marks (by rw [resp]; exact kind) low answering,
        heardPress_question, keyAnswer_eq named]
    · rw [handOff_digited v r o time marks sweeping fresh, value]
      unfold routeDigits
      rw [if_pos ⟨by rw [resp]; exact kind, answering⟩, heardPress_cls]
      rfl
  refine handOff_completes inHand ?_
  rw [judged]
  obtain ⟨turnedAway, ignored, taken⟩ := judgePress_heard (seatOf p pos) n answer time marks s
  refine ⟨_, pressHeard_heard (seatOf p pos) n s, turnedAway, fun t team => ?_⟩
  cases answer with
  | none => exact ignored rfl t team
  | some x => exact taken x rfl t team

/-! ## Buzzes and HELP (R87, R91 to R97) -/

/-- R23: a BUZZ key goes to the Buzz Arbiter in OPEN, CLOSING and FLOOR. -/
theorem routeKey_buzz {k : Fin 256} {team : Option (Fin 16)} (time : Time) (marks : Marks) {s : State}
    (kind : s.resp.header.kind = some .buzz)
    (state : s.round.state = .opened ∨ s.round.state = .closing ∨ s.round.state = .floor) :
    routeKey k team 6 time marks s = takeBuzz k team time marks s := by
  have answering : collecting s = true ∨ s.round.state = .floor := by
    rcases state with h | h | h <;> simp [collecting, h]
  unfold routeKey
  rw [if_neg (by decide), if_neg (by decide), kind]
  exact if_pos ⟨rfl, answering⟩

/-- R23, R87: a HELP key in any round state. -/
theorem routeKey_help {k : Fin 256} {team : Option (Fin 16)} (time : Time) (marks : Marks) (s : State) :
    routeKey k team 7 time marks s = raiseNotice (.help k team s.round.state s.resp.header.question time marks) s := rfl

theorem takeBuzz_ineligible {k : Fin 256} {team : Option (Fin 16)} (time : Time) (marks : Marks) {s : State}
    (h : eligibleTeam team s = none) : takeBuzz k team time marks s = requestLamp k .notEligible s := by
  unfold takeBuzz
  rw [h]

/-- Settles O38. -/
theorem buzzesAreTestedAndHelpIsReported : Obligations.BuzzesAreTestedAndHelpIsReported := by
  intro p pos key n r o time marks s inHand sweeping fresh k eligible
  obtain ⟨round, resp, buzz, -⟩ := heardPress_same (seatOf p pos) n s
  refine ⟨fun buzzKey kind state queued => ?_, fun helpKey => ?_⟩
  · refine handOff_completes inHand ?_
    rw [handOff_pressed key r o time marks sweeping fresh, buzzKey,
      routeKey_buzz time marks (by rw [resp]; exact kind) (by rw [round]; exact state)]
    refine ⟨_, pressHeard_heard (seatOf p pos) n s, fun none => ?_, fun t team => ?_⟩
    · rw [takeBuzz_ineligible time marks (heardPress_ineligible none)]
      exact requestLamp_only _ _ _
    · exact takeBuzz_judged _ _ t time marks _ (heardPress_eligible team)
        (by rw [show (pressHeard _ n (stamperEmptied s)).buzz = s.buzz from buzz]; exact queued)
  · refine handOff_completes inHand ?_
    rw [handOff_pressed key r o time marks sweeping fresh, helpKey, routeKey_help, round, resp]
    obtain ⟨raised, kept, -⟩ := raiseNotice_raised (.help (seatOf p pos) s.seats[seatOf p pos].team s.round.state
      s.resp.header.question time marks) (heardPress (seatOf p pos) n s)
    exact ⟨_, pressHeard_heard (seatOf p pos) n s, raised, kept⟩

end Sys2Proof.Machine
end

section
/-! SUPPORT. The laws right after a hard reset (O60): empty tables, empty queues, stopped timers, and a ranking pass of no teams. -/

namespace Sys2Proof.Machine

/-! ## What a reset state holds -/

theorem reset_port (p : Fin 4) : State.reset.ports[p] = Port.reset := replicate_get _ p

theorem reset_seat (k : Fin 256) : State.reset.seats[k] = Seat.reset := replicate_get _ k

theorem reset_team (t : Fin 16) : State.reset.teams[t] = Team.reset := replicate_get _ t

theorem reset_score (t : Fin 16) : State.reset.score.table[t] = ⟨0, 0, 0⟩ := replicate_get _ t

/-! ## The laws -/

theorem recordsInRange_reset : RecordsInRange State.reset := recordsInRange_of_reset rfl rfl rfl rfl reset_team rfl

theorem portsLaw_reset : PortsLaw State.reset := by
  refine (portsLaw_iff _).mpr fun p => ?_
  rw [reset_port]
  exact ⟨portCfgInRange_reset, sweepFits_none⟩

/-- R109: no walk runs after a reset. -/
theorem walkOnly_reset : WalkOnlyCommitting State.reset := walkOnly_of_still rfl

theorem presenceLaw_reset : PresenceLaw State.reset := by
  refine (presenceLaw_iff _).mpr ⟨⟨walkOnly_reset, loadFits_idle rfl⟩, presenceFits_none fun k => ?_⟩
  rw [reset_seat]
  decide

theorem floorLaw_reset : FloorLaw State.reset :=
  (floorLaw_iff _).mpr ⟨walkOnly_reset, floorHeld_of_free (by decide) rfl queueLawful_reset⟩

theorem roundTimersLaw_reset : RoundTimersLaw State.reset :=
  (roundTimersLaw_iff _).mpr ⟨walkOnly_reset, TimersFit.of_stopped rfl rfl (by decide) (by decide)⟩

theorem repliesOwed_reset : RepliesOwed State.reset := ⟨rfl, by decide, by decide, fun _ => rfl⟩

theorem queueBounds_reset : QueueBounds State.reset := by
  refine ⟨by decide, by decide, by decide, by decide, by decide, by decide, fun p => ?_⟩
  rw [reset_port]
  exact ⟨by decide, by decide, List.nodup_nil⟩

theorem totalsInRange_reset : TotalsInRange State.reset := by
  intro t
  rw [reset_score]
  exact ⟨by decide, by decide, by decide, nofun⟩

/-- R122, R124: the pass that a reset starts ranks no team, and no team is active. -/
theorem standingsLaw_reset : StandingsLaw State.reset := by
  refine ⟨nofun, nofun, fun _ => ⟨nofun, fun _ => ⟨List.Pairwise.nil, fun t => ⟨fun active => ?_, nofun⟩⟩⟩⟩
  rw [reset_team] at active
  cases active

/-- R73: the header names no kind. -/
theorem talliesMatch_reset : TalliesMatch State.reset :=
  ⟨fun kind => kind.elim nofun nofun, nofun⟩

/-- Settles O60. -/
theorem theLawsHoldAfterAHardReset : Obligations.TheLawsHoldAfterAHardReset :=
  ⟨recordsInRange_reset, cueNumbersUnique_of_reset rfl, portsLaw_reset, presenceLaw_reset, floorLaw_reset, roundTimersLaw_reset,
    repliesOwed_reset, queueBounds_reset, totalsInRange_reset, standingsLaw_reset, talliesMatch_reset,
    (playerLaw_iff _).mpr ⟨recordsInRange_reset, playerFits_stopped⟩⟩

end Sys2Proof.Machine
end

section
/-! SUPPORT. What a WRITE of one record of SEATS or TEAMS comes to (R27, R28, R31, R161). -/

namespace Sys2Proof.Machine

/-! ## SEATS (R27, R28) -/

theorem optFin_of_toNat {t : Fin 16} {b : Byte} (h : t.val = b.toNat) : optFin (some t) = b := by
  show byteOf t.val = b
  rw [h]
  simp [byteOf]

/-- R27 check 1: the byte of a team, or of none, is read back as it. -/
theorem teamValue_optFin (team : Option (Fin 16)) : teamValue (optFin team) = some team := by
  cases team with
  | none => rfl
  | some t =>
    have at_ : (optFin (some t)).toNat = t.val := byteOf_toNat (Nat.lt_trans t.isLt (by decide))
    have named : optFin (some t) ≠ 255 := fun h => by
      rw [h] at at_
      exact absurd (at_ ▸ t.isLt) (by decide)
    unfold teamValue
    rw [if_neg named, at_, finOf_val]

/-- R27 check 1: any other byte names no team. -/
theorem teamValue_none {b : Byte} (beyond : 16 ≤ b.toNat) (ne : b ≠ 255) : teamValue b = none := by
  unfold teamValue finOf
  rw [if_neg ne, dif_neg (Nat.not_lt.mpr beyond)]

/-- R27: 64 seats other than k claim the team already. -/
def FullFor (k : Fin 256) (s : State) (team : Option (Fin 16)) : Prop := ∃ t, team = some t ∧ 64 ≤ claims t k s

theorem writeSeat_noTeam {k : Fin 256} {b : Byte} {s : State} (h : teamValue b = none) :
    writeSeat k [b] s = (s, .badValue) := by
  have value : teamValue ([b].getD 0 0) = none := h
  unfold writeSeat
  rw [value]

theorem writeSeat_full {k : Fin 256} {team : Option (Fin 16)} {b : Byte} {s : State} (h : teamValue b = some team)
    (full : FullFor k s team) : writeSeat k [b] s = (s, .badValue) := by
  obtain ⟨t, rfl, claimed⟩ := full
  have value : teamValue ([b].getD 0 0) = some (some t) := h
  unfold writeSeat
  rw [value]
  exact if_pos claimed

theorem writeSeat_accepted {k : Fin 256} {team : Option (Fin 16)} {b : Byte} {s : State} (h : teamValue b = some team)
    (free : ¬ FullFor k s team) : writeSeat k [b] s = (assignTeam k team s, .ok) := by
  have value : teamValue ([b].getD 0 0) = some team := h
  unfold writeSeat
  rw [value]
  cases team with
  | none => rfl
  | some t => exact if_neg fun claimed => free ⟨t, rfl, claimed⟩

/-- R28: in IDLE the team changes at once, with its SEAT event. -/
theorem assignTeam_idle {k : Fin 256} {s : State} (team : Option (Fin 16)) (idle : s.round.state = .idle) :
    assignTeam k team s = raiseSeat k ⟨false, false, false, decide (team ≠ s.seats[k].team)⟩
      (s.setSeat k { s.seats[k] with team := team, pending := none }) := if_pos idle

/-- R28: in any other round state the team waits, unless the seat has it. -/
theorem assignTeam_waits {k : Fin 256} {s : State} (team : Option (Fin 16)) (busy : s.round.state ≠ .idle) :
    assignTeam k team s
      = s.setSeat k { s.seats[k] with pending := if team = s.seats[k].team then none else some team } := by
  unfold assignTeam
  dsimp only
  rw [if_neg busy]
  split <;> rfl

theorem assignTeam_other {k j : Fin 256} (team : Option (Fin 16)) (s : State) (h : j ≠ k) :
    (assignTeam k team s).seats[j] = s.seats[j] := by
  by_cases idle : s.round.state = .idle
  · rw [assignTeam_idle team idle, raiseSeat_seats, setSeat_get, if_neg h]
  · rw [assignTeam_waits team idle, setSeat_get, if_neg h]

/-- R28, R41: the team changed in IDLE, seen from the state before. -/
theorem assignTeam_changed {k : Fin 256} {team : Option (Fin 16)} {s u : State} (idle : s.round.state = .idle)
    (kept : Keeps [.replies, .agent] (assignTeam k team s) u) :
    u.seats[k] = { s.seats[k] with team := team, pending := none }
      ∧ SeatEvent k ⟨false, false, false, decide (team ≠ s.seats[k].team)⟩ s u := by
  have seats : u.seats = (assignTeam k team s).seats := kept .seats (by decide)
  obtain ⟨list, timer⟩ := kept .seatList (by decide)
  have notices := kept .notices (by decide)
  have lost := kept .noticeLost (by decide)
  rw [assignTeam_idle team idle] at seats list timer notices lost
  refine ⟨?_, (raiseSeat_event k _ (s.setSeat k _)).congr rfl rfl seats list timer notices lost⟩
  rw [seats, raiseSeat_seats, setSeat_get, if_pos rfl]

/-- R28: the team that waits outside IDLE, seen from the state before. -/
theorem assignTeam_waiting {k : Fin 256} {team : Option (Fin 16)} {s u : State} (busy : s.round.state ≠ .idle)
    (kept : Keeps [.replies, .agent] (assignTeam k team s) u) :
    u.seats[k] = { s.seats[k] with pending := if team = s.seats[k].team then none else some team }
      ∧ Keeps [.seats, .replies, .agent] s u := by
  rw [assignTeam_waits team busy] at kept
  have seats := kept .seats (by decide)
  refine ⟨?_, Keeps.then_reply [.seats] (fun b hb => ?_) kept⟩
  · rw [seats, setSeat_get, if_pos rfl]
  · cases b <;> simp [Block.same] at hb ⊢

/-- Settles O14, by what the written byte names and whether that team is full. -/
theorem seatTeamsChangeInIdleAndWaitOtherwise : Obligations.SeatTeamsChangeInIdleAndWaitOtherwise := by
  intro tag first b k s at_ e
  have hc : first.toNat < Table.seats.count := at_ ▸ k.isLt
  have owner : writeRecord .seats first.toNat [b] s = writeSeat k [b] s := by
    rw [← at_]; exact onIndex_val k _ s
  have read {team : Option (Fin 16)} (h : optFin team = b) : teamValue b = some team := h ▸ teamValue_optFin team
  cases value : teamValue b with
  | none =>
    obtain ⟨u, run, refused⟩ := write_refused rfl hc e (owner.trans (writeSeat_noTeam value)) rfl
    have named {team : Option (Fin 16)} (h : optFin team = b) : False := nomatch value.symm.trans (read h)
    exact ⟨u, run, fun _ _ => refused, fun t ht _ => (named (optFin_of_toNat ht)).elim, fun _ h _ => (named h).elim⟩
  | some team =>
    have same {team' : Option (Fin 16)} (h : optFin team' = b) : team' = team :=
      Option.some.inj ((read h).symm.trans value)
    by_cases full : FullFor k s team
    · obtain ⟨u, run, refused⟩ := write_refused rfl hc e (owner.trans (writeSeat_full value full)) rfl
      refine ⟨u, run, fun _ _ => refused, fun _ _ _ => refused, fun team' h free => ?_⟩
      obtain ⟨t, ht, claimed⟩ := full
      exact absurd (free t ((same h).trans ht)) (Nat.not_lt.mpr claimed)
    · obtain ⟨u, run, wrote, kept⟩ := write_stored rfl hc e (owner.trans (writeSeat_accepted value full)) rfl
      refine ⟨u, run, fun beyond ne => (nomatch value.symm.trans (teamValue_none beyond ne)),
        fun t ht claimed => absurd ⟨t, (same (optFin_of_toNat ht)).symm, claimed⟩ full, fun team' h _ => ?_⟩
      obtain rfl := same h
      have seats : u.seats = (assignTeam k team' s).seats := kept .seats (by decide)
      refine ⟨wrote, fun j ne => ?_, ?_, Keeps.then_reply [.seats, .seatList, .notices, .noticeLost] (fun x hx => ?_) kept⟩
      · rw [seats]; exact assignTeam_other team' s ne
      · split
        · rename_i idle; exact assignTeam_changed idle kept
        · rename_i busy; exact assignTeam_waiting busy kept
      · cases x <;> simp [Block.same] at hx ⊢

/-! ## TEAMS (R31) -/

/-- R31 check 1: a name above 12 characters, or with a character outside 32..126. -/
def BadName (r : List Byte) : Prop :=
  12 < u8 r 1 ∨ ∃ c ∈ (r.drop 2).take (u8 r 1), c.toNat < 32 ∨ 126 < c.toNat

theorem nameField_bad {r : List Byte} (h : BadName r) : nameField r = none := by
  refine if_neg fun good => ?_
  simp only [Bool.and_eq_true, decide_eq_true_eq, List.all_eq_true] at good
  rcases h with long | ⟨c, inName, outside⟩
  · omega
  · have inside := good.2 c inName
    omega

theorem nameField_good {r : List Byte} (h : ¬ BadName r) : nameField r = some ((r.drop 2).take (u8 r 1)) := by
  obtain ⟨short, printable⟩ := not_or.mp h
  refine if_pos ?_
  simp only [Bool.and_eq_true, decide_eq_true_eq, List.all_eq_true]
  refine ⟨Nat.le_of_not_lt short, fun c inName => ?_⟩
  have inside : ¬ (c.toNat < 32 ∨ 126 < c.toNat) := fun outside => printable ⟨c, inName, outside⟩
  omega

/-- R31 check 2: the active flag cannot change outside IDLE. -/
theorem writeTeam_inUse {t : Fin 16} {r : List Byte} {s : State} (name : ¬ BadName r)
    (h : flagAt r 0 ≠ s.teams[t].active ∧ s.round.state ≠ .idle) : writeTeam t r s = (s, .inUse) := by
  unfold writeTeam
  rw [nameField_good name]
  exact if_pos h

theorem writeTeam_stored {t : Fin 16} {r : List Byte} {s : State} (name : ¬ BadName r)
    (h : ¬ (flagAt r 0 ≠ s.teams[t].active ∧ s.round.state ≠ .idle)) :
    writeTeam t r s = (storeTeam t ⟨flagAt r 0, (r.drop 2).take (u8 r 1)⟩ s, .ok) := by
  unfold writeTeam
  rw [nameField_good name]
  exact if_neg h

/-- R31, R123: the roster with a new record, and the ranking pass that a changed flag asks for; the name is not reported yet. -/
def rosterStored (t : Fin 16) (x : Team) (s : State) : State :=
  if x.active = s.teams[t].active then s.withTeams (s.teams.set t x) else triggerRanking (s.withTeams (s.teams.set t x))

theorem storeTeam_eq (t : Fin 16) (x : Team) (s : State) : storeTeam t x s =
    if x.name = s.teams[t].name then rosterStored t x s else reportChange countsNames (rosterStored t x s) := rfl

theorem rosterStored_keeps (t : Fin 16) (x : Team) (s : State) : Keeps [.teams, .sorter] s (rosterStored t x s) := by
  intro b hb
  unfold rosterStored
  split <;> cases b <;> simp [Block.same] at hb ⊢

theorem storeTeam_keeps (t : Fin 16) (x : Team) (s : State) :
    Keeps [.comp] (rosterStored t x s) (storeTeam t x s) := by
  intro b hb
  rw [storeTeam_eq]
  split <;> cases b <;> simp [Block.same] at hb ⊢

/-- Two states with the same player that differ in the Composer, the replies and the requests alone compose the same view. -/
theorem Keeps.composedView {bs : List Block} {s u : State} (h : Keeps bs s u) (player : u.comp.player = s.comp.player)
    (fixed : ∀ b ∈ bs, b ∈ [.comp, .replies, .agent]) : composedView s = composedView u := by
  have same (b : Block) (hb : b ∉ [Block.comp, .replies, .agent]) : b.same s u := h b fun hb' => hb (fixed b hb')
  exact (composedView_congr (same .now (by decide)) player (same .config (by decide)) (same .questions (by decide))
    (same .teams (by decide)) (same .round (by decide)) (same .resp (by decide)) (same .buzz (by decide))
    (congrArg Sorter.published (same .sorter (by decide)))).symm

/-- R31, R123: a changed active flag triggers a ranking pass of the new roster. -/
theorem storeTeam_ranked {t : Fin 16} {x : Team} {s u : State} (kept : Keeps [.replies, .agent] (storeTeam t x s) u) :
    if x.active = s.teams[t].active then u.sorter = s.sorter else Triggered s u := by
  have sorter : u.sorter = (rosterStored t x s).sorter :=
    (kept .sorter (by decide)).trans (storeTeam_keeps t x s .sorter (by decide))
  have teams : u.teams = s.teams.set t x := (kept .teams (by decide)).trans (storeTeam_teams t x s)
  have score : u.score = s.score := ((kept .score (by decide)).trans (storeTeam_keeps t x s .score (by decide))).trans
    (rosterStored_keeps t x s .score (by decide))
  unfold rosterStored at sorter
  split
  · rename_i same; rw [if_pos same] at sorter; exact sorter
  · rename_i changed
    rw [if_neg changed] at sorter
    exact triggered_of (s.withTeams (s.teams.set t x)) sorter rfl rfl teams (congrArg Score.table score)

theorem countsNames_iff (v : View) :
    countsNames v = true ↔ v = .standings ∨ v = .topFive ∨ v = .teamCard ∨ v = .buzzOrder := by
  cases v <;> simp [countsNames]

/-- R31, R128: a changed name is reported to the views that show names. -/
theorem storeTeam_refreshed {t : Fin 16} {x : Team} {s u : State} (kept : Keeps [.replies, .agent] (storeTeam t x s) u) :
    Refreshed (decide (x.name ≠ s.teams[t].name ∧ (currentView s = .standings ∨ currentView s = .topFive
      ∨ currentView s = .teamCard ∨ currentView s = .buzzOrder))) s u := by
  have before := rosterStored_keeps t x s
  have comp : u.comp = (storeTeam t x s).comp := kept .comp (by decide)
  have old : (rosterStored t x s).comp = s.comp := before .comp (by decide)
  by_cases same : x.name = s.teams[t].name
  · rw [decide_eq_false fun h => h.1 same]
    rw [storeTeam_eq, if_pos same] at comp
    exact comp.trans old
  · have view : currentView (rosterStored t x s) = currentView s := by
      unfold currentView shownStep
      rw [old, show (rosterStored t x s).hub.config = s.hub.config from before .config (by decide)]
    have shows : composedView (rosterStored t x s) = composedView u :=
      ((storeTeam_keeps t x s).composedView ((storeTeam_player t x s).trans (congrArg Composer.player old.symm))
        (by decide)).trans
        (kept.composedView (congrArg Composer.player comp) (by decide))
    have refreshed := refreshed_of (counts := countsNames) (s := s) (u := u)
      (by rw [comp, storeTeam_eq, if_neg same]) old (before .now (by decide)) view fun _ => shows
    convert refreshed using 1
    rw [Bool.eq_iff_iff, decide_eq_true_eq, countsNames_iff]
    exact and_iff_right same

/-- Settles O15, by the two checks of R31 in their order. -/
theorem teamRecordsAreCheckedAndStored : Obligations.TeamRecordsAreCheckedAndStored := by
  intro tag first r t s len at_ e
  have hc : first.toNat < Table.teams.count := at_ ▸ t.isLt
  have owner : writeRecord .teams first.toNat r s = writeTeam t r s := by
    rw [← at_]; exact onIndex_val t _ s
  by_cases bad : BadName r
  · have outcome : writeTeam t r s = (s, .badValue) := by unfold writeTeam; rw [nameField_bad bad]
    obtain ⟨u, run, refused⟩ := write_refused len hc e (owner.trans outcome) rfl
    exact ⟨u, run, (if_pos bad).mpr refused⟩
  by_cases inUse : decide (r.getD 0 0 ≠ 0) ≠ s.teams[t].active ∧ s.round.state ≠ .idle
  · obtain ⟨u, run, refused⟩ := write_refused len hc e
      (owner.trans (writeTeam_inUse bad (by rw [flagAt_eq]; exact inUse))) rfl
    exact ⟨u, run, (if_neg bad).mpr ((if_pos inUse).mpr refused)⟩
  · obtain ⟨u, run, wrote, kept⟩ := write_stored len hc e
      (owner.trans (writeTeam_stored bad (by rw [flagAt_eq]; exact inUse))) rfl
    rw [flagAt_eq] at kept
    have teams : u.teams = s.teams.set t ⟨decide (r.getD 0 0 ≠ 0), (r.drop 2).take (u8 r 1)⟩ :=
      (kept .teams (by decide)).trans (storeTeam_teams t _ s)
    refine ⟨u, run, (if_neg bad).mpr ((if_neg inUse).mpr ⟨wrote, ?_, fun x ne => ?_, storeTeam_ranked kept,
      storeTeam_refreshed kept, Keeps.then_reply [.teams, .sorter, .comp] ?_ kept⟩)⟩
    · rw [teams, vector_set_get, if_pos rfl]
    · rw [teams, vector_set_get, if_neg ne]
    · exact ((rosterStored_keeps t _ s).mono (by decide)).trans ((storeTeam_keeps t _ s).mono (by decide))

end Sys2Proof.Machine
end

section
/-! SUPPORT. The end of a sweep, and line breaks (R34 to R36, R50, R54, R57, R58). -/

namespace Sys2Proof.Machine

/-- The events that the whole Hub Agent comes from, on the seats as they are in the end. -/
theorem hubEvents_of {events : List HubEvent} {s u : State}
    (h : u.hub = (raiseEvents events (s.withSeats u.seats)).hub) : HubEvents events s u := by
  unfold HubEvents
  dsimp only
  rw [← h]
  exact ⟨rfl, rfl, rfl, rfl⟩

/-! ## The end of a sweep (R34, R35, R50, R54) -/

theorem execSweepEnd_running {p : Fin 4} {sw : Sweep} {s : State} (h : s.ports[p].sweep = some sw) :
    exec (.sweepEnd p) s = whenDue (!sw.ended && atOrAfter s.now (s.ports[p].sweepEnd sw)) (endSweep p sw) s := by
  show execSweepEnd p s = _
  unfold execSweepEnd
  rw [h]

/-- R35: a port's seats of a presence, counted by position. -/
theorem presenceCount_eq (p : Fin 4) (x : Presence) (s : State) : presenceCount p x s =
    ((List.finRange 64).filter fun i =>
      decide (i.val < s.ports[p].cfg.positions ∧ s.seats[seatOf p i].presence = x)).length := by
  unfold presenceCount portSeats
  rw [List.filter_map, List.length_map]
  congr 1
  refine List.filter_congr fun i _ => ?_
  simp only [Function.comp_apply, posOf_seatOf, Bool.decide_and]
  rfl

/-- R54: the end of a roll call, as the Hub Agent sees it from any state with the same Hub Agent and show time. -/
theorem finishRoll_hub (p : Fin 4) (sw : Sweep) (s w : State) (hh : s.hub = w.hub) (hn : s.now = w.now) :
    (finishRoll p sw s).hub = (raiseEvents (if sw.beacon.roll = true ∧ s.ports[p].roll = some 0 then
      [.notice (.rollDone p (presenceCount p .present s) (presenceCount p .absent s) (presenceCount p .silent s))]
      else []) w).hub := by
  unfold finishRoll
  split
  · exact raiseNotice_same _ hh hn
  · exact hh

/-- A sweep marked as ended; its check positions are not reported yet. -/
def sweepMarked (p : Fin 4) (sw : Sweep) (s : State) : State :=
  s.setPort p { s.ports[p] with sweep := some { sw with ended := true } }

theorem endSweep_eq (p : Fin 4) (sw : Sweep) (s : State) :
    endSweep p sw s = finishRoll p sw (reportChecks p sw (sweepMarked p sw s)) := rfl

/-- R34, R35, R50: the seats after the end of a sweep. -/
theorem endSweep_seat {p : Fin 4} {sw : Sweep} (s : State) (nodup : sw.beacon.checks.Nodup) (k : Fin 256) :
    (endSweep p sw s).seats[k] =
      if portOf k = p ∧ posOf k ∈ sw.beacon.checks then
        s.seats[k].reported (decide (posOf k ∈ sw.hellos)) sw.beacon.roll
      else s.seats[k] := by
  rw [endSweep_eq, finishRoll_seats, reportChecks_seat p sw _ nodup]
  rfl

/-- R41, R54, log entry 28: the SEAT events of the check positions, and then ROLL_DONE. -/
theorem endSweep_events {p : Fin 4} {sw : Sweep} (s : State) (nodup : sw.beacon.checks.Nodup) : HubEvents
    ((sw.beacon.checks.map fun i => .seat (seatOf p i)
        ⟨decide ((endSweep p sw s).seats[seatOf p i].presence ≠ s.seats[seatOf p i].presence), false, false, false⟩)
      ++ if sw.beacon.roll = true ∧ s.ports[p].roll = some 0 then
        [.notice (.rollDone p (presenceCount p .present (endSweep p sw s)) (presenceCount p .absent (endSweep p sw s))
          (presenceCount p .silent (endSweep p sw s)))] else []) s (endSweep p sw s) := by
  have seats : (endSweep p sw s).seats = (reportChecks p sw (sweepMarked p sw s)).seats := finishRoll_seats _ _ _
  have own : (reportChecks p sw (sweepMarked p sw s)).ports[p]
      = { s.ports[p] with sweep := some { sw with ended := true } } := by
    simp only [reportChecks_ports, sweepMarked, setPort_get, if_true]
  have ended : (endSweep p sw s).ports[p].cfg = (reportChecks p sw (sweepMarked p sw s)).ports[p].cfg := by
    rw [endSweep_port, if_pos rfl, own]
  have counts (x : Presence) :
      presenceCount p x (reportChecks p sw (sweepMarked p sw s)) = presenceCount p x (endSweep p sw s) := by
    rw [presenceCount_eq, presenceCount_eq, seats, ended]
  have reports := reportChecks_hub p sw (sweepMarked p sw s) (s.withSeats (endSweep p sw s).seats) nodup rfl rfl
    fun i _ => by rw [withSeats_seats, seats]
  refine hubEvents_of ?_
  rw [raiseEvents_append, ← counts, ← counts, ← counts, seats]
  rw [seats] at reports
  conv_lhs => rw [endSweep_eq]
  rw [finishRoll_hub p sw _ _ reports (by simp [sweepMarked]), own]
  rfl

/-- Settles O32, from the port, the seats and the events that the end of a sweep leaves. -/
theorem sweepEndReportsTheCheckPositions : Obligations.SweepEndReportsTheCheckPositions := by
  intro p sw s runs running nodup past
  have due : (!sw.ended && atOrAfter s.now (s.ports[p].sweepEnd sw)) = true := by
    rw [running, Bool.not_false, Bool.true_and]
    exact decide_eq_true past
  refine whenDue_completes (execSweepEnd_running runs) due ⟨?_, fun o ne => ?_, fun k => ?_, ?_, fun b hb => ?_⟩
  · exact (endSweep_port p p sw s).trans (if_pos rfl)
  · exact (endSweep_port p o sw s).trans (if_neg ne)
  · rw [endSweep_seat s nodup]
    simp only [Seat.reported, decide_eq_true_eq]
  · have events := endSweep_events s nodup (p := p)
    have positions : (endSweep p sw s).ports[p].cfg.positions = s.ports[p].cfg.positions := by
      rw [endSweep_port, if_pos rfl]
    simp only [presenceCount_eq, positions] at events
    exact events
  · cases b <;> simp [Block.same] at hb ⊢

/-! ## Breaks (R36, R57, R58) -/

/-- R57: a line held active makes a break after the beacon of a SWEEPING port's sweep, once it has been active for more than 8
ticks outside it. -/
theorem breakDue_iff (x : Port) (active now : Time) : x.breakDue active now = true ↔
    x.state = .sweeping ∧ ∃ sw, x.sweep = some sw ∧ 5 ≤ since now sw.departure ∧ 8 < sw.activeTicks active now := by
  unfold Port.breakDue
  split
  · rename_i sw sweeping runs
    rw [Bool.and_eq_true, decide_eq_true_eq, decide_eq_true_eq]
    exact ⟨fun h => ⟨sweeping, sw, runs, h⟩, fun ⟨_, sw', runs', h⟩ => Option.some.inj (runs.symm.trans runs') ▸ h⟩
  · rename_i other
    exact ⟨nofun, fun ⟨sweeping, sw, runs, _⟩ => absurd runs (other sw sweeping)⟩

/-- R57, log entry 10: the ticks that count toward a break. -/
theorem activeTicks_eq (sw : Sweep) (active now : Time) : sw.activeTicks active now =
    if 5 ≤ since active sw.departure then since now sw.departure - since active sw.departure
    else if sw.first = true ∨ 0 ≤ since active sw.departure then since now sw.departure - 5
    else since now sw.departure - 5 - since active sw.departure := rfl

/-- R57: the port of a break as it begins, its Feedback Queue emptied; its seats still have their presences. -/
def lineBroken (p : Fin 4) (idle : Bool) (s : State) : State :=
  (emptyFeedback p s).setPort p ((emptyFeedback p s).ports[p].broken idle (emptyFeedback p s).now)

theorem beginBreak_eq (p : Fin 4) (idle : Bool) (s : State) :
    beginBreak p idle s = raiseNotice (.breakBegin p) (silencePort p (lineBroken p idle s)) := rfl

theorem lineBroken_seat (p : Fin 4) (idle : Bool) (s : State) (k : Fin 256) : (lineBroken p idle s).seats[k]
    = { s.seats[k] with queued := s.seats[k].queued && !decide (portOf k = p ∧ posOf k ∈ s.ports[p].feedback) } := by
  unfold lineBroken
  rw [setPort_seats, emptyFeedback_seat]

theorem lineBroken_same (p : Fin 4) (idle : Bool) (s : State) : (lineBroken p idle s).ports[p].cfg = s.ports[p].cfg
    ∧ (lineBroken p idle s).hub = s.hub ∧ (lineBroken p idle s).now = s.now := by
  refine ⟨?_, by simp [lineBroken], by simp [lineBroken]⟩
  unfold lineBroken
  rw [setPort_get, if_pos rfl, emptyFeedback_port, if_pos rfl]
  rfl

/-- R36, R51: the seats of a port in break. -/
theorem beginBreak_seat (p : Fin 4) (idle : Bool) (s : State) (k : Fin 256) :
    (beginBreak p idle s).seats[k] =
      if portOf k = p then { s.seats[k] with
        presence := if (posOf k).val < s.ports[p].cfg.positions then .silent else s.seats[k].presence
        queued := s.seats[k].queued && decide (posOf k ∉ s.ports[p].feedback) }
      else s.seats[k] := by
  rw [beginBreak_eq, raiseNotice_seats, silencePort_seat, (lineBroken_same p idle s).1, lineBroken_seat]
  by_cases own : portOf k = p
  · simp only [own, true_and, if_true, decide_not]
    split <;> rfl
  · simp only [own, false_and, if_false, decide_false, Bool.not_false, Bool.and_true]

/-- R36, R41, log entry 28: the SEAT events of the port's seats, and then the notice of the break. -/
theorem beginBreak_events (p : Fin 4) (idle : Bool) (s : State) :
    HubEvents (presenceEvents p .silent (fun i => decide (i.val < s.ports[p].cfg.positions)) s
      ++ [.notice (.breakBegin p)]) s (beginBreak p idle s) := by
  obtain ⟨cfg, hub, now⟩ := lineBroken_same p idle s
  have seats : (beginBreak p idle s).seats = (silencePort p (lineBroken p idle s)).seats := raiseNotice_seats _ _
  have silenced := silencePort_hub p (lineBroken p idle s) (s.withSeats (beginBreak p idle s).seats) hub now
    fun k _ => by rw [withSeats_seats, seats]
  have presences : presenceEvents p .silent (fun i => decide (i.val < (lineBroken p idle s).ports[p].cfg.positions))
      (lineBroken p idle s) = presenceEvents p .silent (fun i => decide (i.val < s.ports[p].cfg.positions)) s := by
    unfold presenceEvents
    simp only [cfg, lineBroken_seat]
  rw [presences] at silenced
  refine hubEvents_of ?_
  rw [raiseEvents_append]
  exact raiseNotice_same (.breakBegin p) silenced (by simp)

/-- Settles O34: which held lines make a break, and what a break, a change of its line and its end do. -/
theorem breaksSilenceAPortUntilItsLineIsIdle : Obligations.BreaksSilenceAPortUntilItsLineIsIdle := by
  refine ⟨⟨fun p active lineIdle s quiet => ?_, fun p active lineIdle sw s sweeping runs sent long => ?_⟩,
    fun p active s broken => ?_, fun p e s broken timer past => ?_⟩
  · refine if_neg fun due => ?_
    obtain ⟨sweeping, sw, runs, sent, long⟩ := (breakDue_iff _ _ _).mp due
    rcases quiet with still | ⟨sw', runs', short⟩
    · exact still sweeping
    · obtain rfl := Option.some.inj (runs.symm.trans runs')
      rw [activeTicks_eq] at long
      dsimp only at long
      split at long
      · omega
      · split at long
        · omega
        · rename_i across
          simp only [across, false_and, false_or] at short
          omega
  · have due : s.ports[p].breakDue active s.now = true := by
      refine (breakDue_iff _ _ _).mpr ⟨sweeping, sw, runs, sent, ?_⟩
      rw [activeTicks_eq]
      split
      · rename_i within; rw [if_pos within] at long; exact long
      · rename_i before
        rw [if_neg before] at long
        split
        · rename_i cut; rw [if_pos cut] at long; omega
        · rename_i across; rw [if_neg across] at long; omega
    refine whenDue_completes (c := .breakBegin p ⟨active, lineIdle⟩) (event := beginBreak p lineIdle) rfl due
      ⟨?_, fun o ne => ?_, beginBreak_seat p lineIdle s, beginBreak_events p lineIdle s, fun b hb => ?_⟩
    · exact (beginBreak_port p p lineIdle s).trans (if_pos rfl)
    · exact (beginBreak_port p o lineIdle s).trans (if_neg ne)
    · cases b <;> simp [Block.same] at hb ⊢
  · refine whenDue_completes (c := .lineIdleChange p active) (event := lineChanged p active) rfl (beq_iff_eq.mpr broken)
      ⟨?_, fun o ne => ?_, fun b hb => ?_⟩
    · exact (setPort_get _ _ _ _).trans (if_pos rfl)
    · exact (setPort_get _ _ _ _).trans (if_neg ne)
    · cases b <;> simp [Block.same] at hb ⊢
  · have due : (s.ports[p].state == .broken && expired s.ports[p].idleTimer s.now) = true := by
      rw [broken, timer, expired_some past]; rfl
    refine whenDue_completes (c := .breakEnd p) (event := endBreak p) rfl due
      ⟨?_, fun o ne => ?_, ?_, fun b hb => ?_⟩
    · exact (endBreak_port p p s).trans (if_pos rfl)
    · exact (endBreak_port p o s).trans (if_neg ne)
    · have hub : (endBreak p s).hub = (raiseNotice (.breakEnd p) s).hub :=
        raiseNotice_same (s := s.setPort p { s.ports[p] with idleTimer := none }) (.breakEnd p) rfl rfl
      exact ⟨congrArg Hub.notices hub, congrArg Hub.noticeLost hub⟩
    · cases b <;> simp [Block.same] at hb ⊢

end Sys2Proof.Machine
end

section
/-! SUPPORT. A frame handed off that is not recorded (R23, R32, R33, R37): a HELLO, a duplicate, and a press of no route. -/

namespace Sys2Proof.Machine

/-! ## A HELLO (R32, R33, R177) -/

theorem HandsetClass.ofCode_code (c : HandsetClass) : HandsetClass.ofCode c.code = some c := by cases c <;> rfl

theorem HandsetClass.code_of_ofCode {b : Byte} {c : HandsetClass} (h : HandsetClass.ofCode b = some c) : c.code = b := by
  unfold HandsetClass.ofCode at h
  split at h <;> cases h <;> rfl

theorem HandsetClass.code_le (c : HandsetClass) : c.code.toNat ≤ 2 := by cases c <;> decide

/-- R177: a class code above 2 names no class. -/
theorem HandsetClass.ofCode_beyond {b : Byte} (h : 2 < b.toNat) : HandsetClass.ofCode b = none := by
  cases read : HandsetClass.ofCode b with
  | none => rfl
  | some c => exact absurd c.code_le (Nat.not_le.mpr (HandsetClass.code_of_ofCode read ▸ h))

theorem hello_cls_code (x : Seat) (c : HandsetClass) (battery : Bool) : (x.hello c.code battery).cls = some c := by
  unfold Seat.hello
  rw [HandsetClass.ofCode_code]

theorem hello_cls_beyond (x : Seat) {code : Byte} (battery : Bool) (h : 2 < code.toNat) :
    (x.hello code battery).cls = x.cls := by
  unfold Seat.hello
  rw [HandsetClass.ofCode_beyond h]

/-- R32 step 5, R41: the causes of a HELLO's SEAT event. -/
theorem frameCauses_hello (x : Seat) (code : Byte) (battery : Bool) : frameCauses x (x.heard.hello code battery) =
    ⟨decide (x.presence ≠ .present), decide ((x.heard.hello code battery).cls ≠ x.cls), !x.battery && battery, false⟩ := by
  unfold frameCauses
  rw [show decide (x.cls ≠ (x.heard.hello code battery).cls) = decide ((x.heard.hello code battery).cls ≠ x.cls) from
    decide_eq_decide.mpr ne_comm]
  rfl

/-- R32, R33: a HELLO taken gives its seat the new record, and then raises its SEAT event. -/
theorem takeHello_eq (k : Fin 256) (code : Byte) (battery : Bool) (s : State) : takeHello k code battery s =
    raiseSeat k (frameCauses s.seats[k] (s.seats[k].heard.hello code battery))
      (s.setSeat k (s.seats[k].heard.hello code battery)) := rfl

/-! ## A press of no route (R23) -/

/-- The round state in which the Response Collector is given presses. -/
theorem collecting_iff (s : State) : collecting s = true ↔ s.round.state = .opened ∨ s.round.state = .closing := by
  unfold collecting
  rw [Bool.or_eq_true, beq_iff_eq, beq_iff_eq]

/-- R23: the presses that the round routes nowhere. -/
def NoRoute (key : Byte) (s : State) : Prop :=
  7 < key.toNat ∨ (key.toNat < 7 ∧ (s.resp.header.kind = none ∨ s.resp.header.kind = some .empty
    ∨ s.resp.header.kind = some .estimate
    ∨ ((s.resp.header.kind = some .choice ∨ s.resp.header.kind = some .poll)
        ∧ ¬ (s.round.state = .opened ∨ s.round.state = .closing))
    ∨ (s.resp.header.kind = some .buzz
        ∧ (key ≠ 6 ∨ (¬ (s.round.state = .opened ∨ s.round.state = .closing) ∧ s.round.state ≠ .floor)))))

theorem routeKey_nowhere {key : Byte} {s : State} (k : Fin 256) (team : Option (Fin 16)) (time : Time) (marks : Marks)
    (h : NoRoute key s) : routeKey k team key time marks s = s := by
  unfold routeKey
  rcases h with beyond | ⟨low, kind⟩
  · exact if_pos beyond
  have help : key ≠ 7 := fun h => by rw [h] at low; exact absurd low (by decide)
  rw [if_neg (by omega), if_neg help]
  rcases kind with kind | kind | kind | ⟨kind | kind, closed⟩ | ⟨kind, lost⟩ <;> rw [kind]
  · exact if_neg fun c => closed ((collecting_iff s).mp c)
  · exact if_neg fun c => closed ((collecting_iff s).mp c)
  · refine if_neg fun ⟨buzz, state⟩ => ?_
    rcases lost with other | ⟨closed, floor⟩
    · exact other buzz
    · exact state.elim (fun c => closed ((collecting_iff s).mp c)) floor

theorem routeDigits_nowhere {s : State} (k : Fin 256) (team : Option (Fin 16)) (v : Nat) (time : Time) (marks : Marks)
    (h : s.resp.header.kind ≠ some .estimate ∨ ¬ (s.round.state = .opened ∨ s.round.state = .closing)) :
    routeDigits k team v time marks s = s :=
  if_neg fun ⟨kind, c⟩ => h.elim (fun other => other kind) fun closed => closed ((collecting_iff s).mp c)

theorem NoRoute.heard {key : Byte} {s : State} (k : Fin 256) (n : Fin 4) (h : NoRoute key s) :
    NoRoute key (heardPress k n s) := by
  obtain ⟨round, resp, -⟩ := heardPress_same k n s
  unfold NoRoute
  rw [round, resp]
  exact h

/-- Settles O36, by what the frame is and whether its press is a duplicate. -/
theorem framesMakeTheirSeatPresent : Obligations.FramesMakeTheirSeatPresent := by
  intro p pos frame stamp s inHand
  refine ⟨fun stopped => ?_, fun code battery sweeping hello => ?_, fun key n r o sweeping press stamped ignored => ?_,
    fun v n r o sweeping digits stamped ignored => ?_⟩
  · refine handOff_completes inHand ?_
    rw [handOff_stopped _ s stopped]
    refine ⟨rfl, fun b hb => ?_⟩
    cases b <;> simp [Block.same] at hb ⊢
  · subst hello
    refine handOff_completes inHand ?_
    rw [handOff_hello p pos code battery stamp s sweeping, takeHello_eq, frameCauses_hello]
    refine ⟨_, (stamperEmptied s).setSeat (seatOf p pos) (s.seats[seatOf p pos].heard.hello code battery),
      fun c named => named ▸ hello_cls_code _ c battery, hello_cls_beyond _ battery, fun j => setSeat_get _ _ _ _, rfl,
      fun b hb => ?_, raiseSeat_event _ _ _, fun b hb => ?_⟩
    · cases b <;> simp [Block.same] at hb ⊢
    · cases b <;> simp [Block.same] at hb ⊢
  · subst press
    obtain ⟨⟨time, marks⟩, rfl⟩ := Option.ne_none_iff_exists'.mp stamped
    refine handOff_completes inHand ?_
    have heard : handOff ⟨p, pos, .press key n r o, some (time, marks)⟩ s = heardPress (seatOf p pos) n s := by
      rw [handOff_press p pos key n r o time marks s sweeping]
      split
      · rfl
      · rename_i fresh
        exact routeKey_nowhere _ _ time marks (NoRoute.heard _ n (ignored.resolve_left fresh))
    rw [heard]
    exact pressHeard_heard _ n s
  · subst digits
    obtain ⟨⟨time, marks⟩, rfl⟩ := Option.ne_none_iff_exists'.mp stamped
    refine handOff_completes inHand ?_
    obtain ⟨round, resp, -⟩ := heardPress_same (seatOf p pos) n s
    have heard : handOff ⟨p, pos, .digits v n r o, some (time, marks)⟩ s = heardPress (seatOf p pos) n s := by
      rw [handOff_digits p pos v n r o time marks s sweeping]
      split
      · rfl
      · rename_i fresh
        have lost := ignored.resolve_left fresh
        rw [← resp, ← round] at lost
        exact routeDigits_nowhere _ _ v time marks lost
    rw [heard]
    exact pressHeard_heard _ n s

end Sys2Proof.Machine
end

section
/-! SUPPORT. By how much the Notice Queue is over its capacity (R170): no operation changes it, since a notice is replaced, merged,
appended below the capacity, or lost. One simp lemma for each operation that raises notices. -/

namespace Sys2Proof.Machine

/-- By how many notices the Notice Queue is over its capacity of 8. -/
def noticeExcess (s : State) : Nat := s.hub.notices.length - 8

theorem noticeExcess_eq_zero (s : State) : noticeExcess s = 0 ↔ s.hub.notices.length ≤ 8 := Nat.sub_eq_zero_iff_le

theorem noticeExcess_congr {s u : State} (h : u.hub.notices = s.hub.notices) : noticeExcess u = noticeExcess s := by
  unfold noticeExcess; rw [h]

/-! ## A notice built (R170) -/

theorem replaceTally_length {n : Notice} : ∀ {q q' : List Notice}, replaceTally n q = some q' → q'.length = q.length
  | [], _, h => by cases h
  | x :: xs, q', h => by
    unfold replaceTally at h
    split at h
    · cases h; rfl
    · obtain ⟨ys, found, rfl⟩ := Option.map_eq_some_iff.mp h
      exact congrArg (· + 1) (replaceTally_length found)

theorem mergeNewestSeat_length {es : List SeatChange} {time : Time} :
    ∀ {q q' : List Notice}, mergeNewestSeat es time q = some q' → q'.length = q.length
  | [], _, h => by cases h
  | x :: xs, q', h => by
    unfold mergeNewestSeat at h
    split at h
    · split at h
      · cases h; rfl
      · cases h
    · obtain ⟨ys, found, rfl⟩ := Option.map_eq_some_iff.mp h
      exact congrArg (· + 1) (mergeNewestSeat_length found)

/-- R170 cases 1 and 2: a notice that replaces a queued one or merges into it keeps the length. -/
theorem noticeMatched_length {n : Notice} {q q' : List Notice} (h : noticeMatched n q = some q') : q'.length = q.length := by
  unfold noticeMatched at h
  split at h
  · exact replaceTally_length h
  · obtain ⟨ys, found, rfl⟩ := Option.map_eq_some_iff.mp h
    rw [List.length_reverse, mergeNewestSeat_length found, List.length_reverse]
  · cases h

variable (s : State)

@[simp] theorem enqueueNotice_excess (n : Notice) : noticeExcess (enqueueNotice n s) = noticeExcess s := by
  unfold enqueueNotice
  split
  · rename_i queue found
    show queue.length - 8 = _
    rw [noticeMatched_length found]; rfl
  · split
    · rename_i room
      show (s.hub.notices ++ [n]).length - 8 = s.hub.notices.length - 8
      rw [List.length_append, List.length_singleton]
      omega
    · rfl

/-! ## Block updates -/

@[simp] theorem withPorts_excess (x : Vector Port 4) : noticeExcess (s.withPorts x) = noticeExcess s := rfl
@[simp] theorem withStamper_excess (x : Stamper) : noticeExcess (s.withStamper x) = noticeExcess s := rfl
@[simp] theorem withQuestions_excess (x : Vector Question 128) : noticeExcess (s.withQuestions x) = noticeExcess s := rfl
@[simp] theorem withCues_excess (x : Vector CueEntry 64) : noticeExcess (s.withCues x) = noticeExcess s := rfl
@[simp] theorem withRound_excess (x : Round) : noticeExcess (s.withRound x) = noticeExcess s := rfl
@[simp] theorem withResp_excess (x : Responses) : noticeExcess (s.withResp x) = noticeExcess s := rfl
@[simp] theorem withBuzz_excess (x : Buzz) : noticeExcess (s.withBuzz x) = noticeExcess s := rfl
@[simp] theorem withScore_excess (x : Score) : noticeExcess (s.withScore x) = noticeExcess s := rfl
@[simp] theorem withComp_excess (x : Composer) : noticeExcess (s.withComp x) = noticeExcess s := rfl
@[simp] theorem withLink_excess (x : LinkSwitch) : noticeExcess (s.withLink x) = noticeExcess s := rfl
@[simp] theorem withLoader_excess (x : Loader) : noticeExcess (s.withLoader x) = noticeExcess s := rfl
@[simp] theorem withFree_excess (x : Nat) : noticeExcess (s.withFree x) = noticeExcess s := rfl
@[simp] theorem setPort_excess (p : Fin 4) (x : Port) : noticeExcess (s.setPort p x) = noticeExcess s := rfl
@[simp] theorem setSeat_excess (k : Fin 256) (x : Seat) : noticeExcess (s.setSeat k x) = noticeExcess s := rfl

theorem withHub_excess {x : Hub} (h : x.notices = s.hub.notices) : noticeExcess (s.withHub x) = noticeExcess s :=
  noticeExcess_congr h

/-! ## Operations that raise no notice -/

@[simp] theorem reportChange_excess (f : View → Bool) : noticeExcess (reportChange f s) = noticeExcess s :=
  noticeExcess_congr (by simp)
@[simp] theorem reportTallies_excess : noticeExcess (reportTallies s) = noticeExcess s := reportChange_excess s _
@[simp] theorem reportBuzz_excess : noticeExcess (reportBuzz s) = noticeExcess s := reportChange_excess s _
@[simp] theorem triggerRanking_excess : noticeExcess (triggerRanking s) = noticeExcess s := noticeExcess_congr (by simp)
@[simp] theorem emptyFeedback_excess (p : Fin 4) : noticeExcess (emptyFeedback p s) = noticeExcess s :=
  noticeExcess_congr (by simp)
@[simp] theorem queueFeedback_excess (k : Fin 256) : noticeExcess (queueFeedback k s) = noticeExcess s :=
  noticeExcess_congr (by simp)
@[simp] theorem requestLamp_excess (k : Fin 256) (x : Lamp) : noticeExcess (requestLamp k x s) = noticeExcess s :=
  noticeExcess_congr (by simp)
@[simp] theorem lampsOff_excess (f : Lamp → Bool) : noticeExcess (lampsOff f s) = noticeExcess s := noticeExcess_congr (by simp)
@[simp] theorem openLamps_excess (q : Fin 128) : noticeExcess (openLamps q s) = noticeExcess s := noticeExcess_congr (by simp)
@[simp] theorem releaseFloor_excess : noticeExcess (releaseFloor s) = noticeExcess s := noticeExcess_congr (by simp)
@[simp] theorem takeSnapshot_excess : noticeExcess (takeSnapshot s) = noticeExcess s := rfl
@[simp] theorem beginWalk_excess : noticeExcess (beginWalk s) = noticeExcess s := rfl
@[simp] theorem recordAnswer_excess (k : Fin 256) (r : Response) (t : Tallies) :
    noticeExcess (recordAnswer k r t s) = noticeExcess s := noticeExcess_congr (by simp)
@[simp] theorem setResponseState_excess (k : Fin 256) (x : ResponseState) :
    noticeExcess (setResponseState k x s) = noticeExcess s := rfl
@[simp] theorem applyCommit_excess : noticeExcess (applyCommit s) = noticeExcess s := by
  simp [applyCommit]
@[simp] theorem resultLamps_excess : noticeExcess (resultLamps s) = noticeExcess s := noticeExcess_congr (by simp)
@[simp] theorem revealAfterCommit_excess (r : Option (Fin 16)) : noticeExcess (revealAfterCommit r s) = noticeExcess s :=
  noticeExcess_congr (by simp)
@[simp] theorem enterStep_excess (p : Playing) (n : Nat) : noticeExcess (enterStep p n s) = noticeExcess s :=
  noticeExcess_congr (by simp)
@[simp] theorem swapBuffers_excess (r : Option Byte) : noticeExcess (swapBuffers r s) = noticeExcess s :=
  noticeExcess_congr (by simp)
@[simp] theorem countdownRule_excess : noticeExcess (countdownRule s) = noticeExcess s := noticeExcess_congr (by simp)
@[simp] theorem wakePort_excess (p : Fin 4) : noticeExcess (wakePort p s) = noticeExcess s := rfl
@[simp] theorem clearHistory_excess (p : Fin 4) : noticeExcess (clearHistory p s) = noticeExcess s := rfl
@[simp] theorem storeTeam_excess (t : Fin 16) (x : Team) : noticeExcess (storeTeam t x s) = noticeExcess s :=
  noticeExcess_congr (by simp)
@[simp] theorem storeConfig_excess (c : Config) : noticeExcess (storeConfig c s) = noticeExcess s := noticeExcess_congr (by simp)

/-! ## Notices and SEAT events -/

@[simp] theorem raiseNotice_excess (b : NoticeBody) : noticeExcess (raiseNotice b s) = noticeExcess s := by
  unfold raiseNotice; split <;> simp
@[simp] theorem buildTally_excess : noticeExcess (buildTally s) = noticeExcess s := enqueueNotice_excess _ _
@[simp] theorem raiseTally_excess : noticeExcess (raiseTally s) = noticeExcess s := by
  simp only [raiseTally, apply_ite noticeExcess, buildTally_excess, withHub_excess, ite_self]
@[simp] theorem buildSeat_excess : noticeExcess (buildSeat s) = noticeExcess s := enqueueNotice_excess _ _
@[simp] theorem raiseSeat_excess (k : Fin 256) (c : Causes) : noticeExcess (raiseSeat k c s) = noticeExcess s := by
  simp only [raiseSeat, apply_ite noticeExcess, buildSeat_excess, withHub_excess, ite_self]

/-! ## Presence and teams -/

@[simp] theorem setPresence_excess (l : Bool) (k : Fin 256) (x : Seat) : noticeExcess (setPresence l k x s) = noticeExcess s := by
  simp [setPresence]
@[simp] theorem reportCheck_excess (a r : Bool) (k : Fin 256) : noticeExcess (reportCheck a r k s) = noticeExcess s := by
  simp only [reportCheck]; (repeat' split) <;> simp
@[simp] theorem silencePort_excess (p : Fin 4) : noticeExcess (silencePort p s) = noticeExcess s :=
  foldl_keeps _ noticeExcess (by intros; simp) _ _
@[simp] theorem absentPort_excess (l : Bool) (p : Fin 4) : noticeExcess (absentPort l p s) = noticeExcess s :=
  foldl_keeps _ noticeExcess (by intros; simp) _ _
@[simp] theorem applyPendingSeat_excess (l : Bool) (k : Fin 256) : noticeExcess (applyPendingSeat l k s) = noticeExcess s := by
  unfold applyPendingSeat; split <;> simp
@[simp] theorem applyPending_excess (l : Bool) : noticeExcess (applyPending l s) = noticeExcess s :=
  foldl_keeps _ noticeExcess (by intros; simp) _ _
@[simp] theorem assignTeam_excess (k : Fin 256) (t : Option (Fin 16)) : noticeExcess (assignTeam k t s) = noticeExcess s := by
  simp only [assignTeam]; (repeat' split) <;> simp

/-! ## The round and the buzz race -/

@[simp] theorem moveRound_excess (x : RoundState) (w : Bool) : noticeExcess (moveRound x w s) = noticeExcess s := by
  simp [moveRound]
@[simp] theorem enterCommitting_excess (w : Bool) : noticeExcess (enterCommitting w s) = noticeExcess s := by
  simp [enterCommitting]
@[simp] theorem endQuestion_excess : noticeExcess (endQuestion s) = noticeExcess s := by
  rw [endQuestion_eq]; split <;> simp [questionStopped]
@[simp] theorem floorGranted_excess : noticeExcess (floorGranted s) = noticeExcess s := by
  simp only [floorGranted]; split <;> simp
@[simp] theorem grantTest_excess : noticeExcess (grantTest s) = noticeExcess s := by
  unfold grantTest; (repeat' split) <;> simp [grantFloor]
@[simp] theorem settleExpires_excess : noticeExcess (settleExpires s) = noticeExcess s := by
  simp only [settleExpires]; split <;> simp
@[simp] theorem closeAnswering_excess : noticeExcess (closeAnswering s) = noticeExcess s := by
  simp only [closeAnswering]; split <;> simp
@[simp] theorem clearResponses_excess (q : Fin 128) : noticeExcess (clearResponses q s) = noticeExcess s := by
  simp only [clearResponses]; split <;> simp
@[simp] theorem openQuestion_excess (q : Fin 128) : noticeExcess (openQuestion q s) = noticeExcess s := by
  simp [openQuestion]
@[simp] theorem takePendingOpen_excess : noticeExcess (takePendingOpen s) = noticeExcess s := by
  simp only [takePendingOpen]; (repeat' split) <;> simp
@[simp] theorem floorOpenAgain_excess : noticeExcess (floorOpenAgain s) = noticeExcess s := by
  simp only [floorOpenAgain]; split <;> simp
@[simp] theorem releaseWrong_excess (n : Nat) : noticeExcess (releaseWrong n s) = noticeExcess s := by
  rcases releaseWrong_cases n s with h | h <;> simp [h]
@[simp] theorem recordVerdict_excess (v : Verdict) (e : BuzzEntry) (rest : List BuzzEntry) :
    noticeExcess (recordVerdict v e rest s) = noticeExcess s := by simp [recordVerdict]
@[simp] theorem judgeHolder_excess (v : Verdict) (e : BuzzEntry) (rest : List BuzzEntry) :
    noticeExcess (judgeHolder v e rest s) = noticeExcess s := by
  simp only [judgeHolder]; split <;> simp
@[simp] theorem insertEntry_excess (k : Fin 256) (t : Fin 16) (x : Time) (m : Marks) :
    noticeExcess (insertEntry k t x m s) = noticeExcess s := by
  simp only [insertEntry]; split <;> simp
@[simp] theorem takeBuzz_excess (k : Fin 256) (t : Option (Fin 16)) (x : Time) (m : Marks) :
    noticeExcess (takeBuzz k t x m s) = noticeExcess s := by
  unfold takeBuzz; (repeat' split) <;> simp [falseStart]

/-! ## Answers and routing -/

@[simp] theorem answerTaken_excess (k : Fin 256) (t : Fin 16) (a : Answer) (x : Time) (m : Marks) :
    noticeExcess (answerTaken k t a x m s) = noticeExcess s := by
  simp only [answerTaken, raiseAnswer]; split <;> simp
@[simp] theorem takeAnswer_excess (k : Fin 256) (t : Fin 16) (a : Answer) (x : Time) (m : Marks) :
    noticeExcess (takeAnswer k t a x m s) = noticeExcess s := by
  unfold takeAnswer; (repeat' split) <;> simp [firstAnswer, acceptedChange]
@[simp] theorem judgePress_excess (k : Fin 256) (t : Option (Fin 16)) (a : Option Answer) (x : Time) (m : Marks) :
    noticeExcess (judgePress k t a x m s) = noticeExcess s := by
  unfold judgePress; (repeat' split) <;> simp
@[simp] theorem routeKey_excess (k : Fin 256) (t : Option (Fin 16)) (key : Byte) (x : Time) (m : Marks) :
    noticeExcess (routeKey k t key x m s) = noticeExcess s := by
  unfold routeKey; (repeat' split) <;> simp [takeHelp]
@[simp] theorem routeDigits_excess (k : Fin 256) (t : Option (Fin 16)) (v : Nat) (x : Time) (m : Marks) :
    noticeExcess (routeDigits k t v x m s) = noticeExcess s := by
  unfold routeDigits; split <;> simp
@[simp] theorem handOff_excess (f : Stamped) : noticeExcess (handOff f s) = noticeExcess s := by
  rcases handOff_cases f s with h | ⟨-, a, heard, rest⟩
  · rw [h]; rfl
  · have same : noticeExcess a = noticeExcess s := by
      rcases heard with ⟨cls, battery, rfl⟩ | ⟨n, rfl⟩ <;> simp [takeHello, pressHeard]
    rcases rest with h | ⟨t, key, x, m, h⟩ | ⟨t, v, x, m, h⟩ <;> simp [h, same]

/-! ## The scoreboard -/

@[simp] theorem countStep_excess : noticeExcess (countStep s) = noticeExcess s := by
  simp only [countStep, stepRunsOut]; (repeat' split) <;> simp
@[simp] theorem markSteps_excess (r : Option Byte) : noticeExcess (markSteps r s) = noticeExcess s := by simp [markSteps]

/-! ## Works -/

variable {s}

theorem PortWork.same_excess {u : State} (h : PortWork s u) : noticeExcess u = noticeExcess s := by
  cases h with
  | stops p idle => simp [stopPort]
  | sweepEnds p sw runs =>
    have reports : ∀ v : State, noticeExcess (reportChecks p sw v) = noticeExcess v :=
      fun v => foldl_keeps _ noticeExcess (by intros; simp) _ v
    simp only [endSweep, finishRoll]
    split <;> simp [reports]
  | breaks p line due => simp [beginBreak]
  | breakEnds p due => simp [endBreak]
  | starts | rollCalls | wakes | sweeps | receives | lineChanges | takesEntry => exact noticeExcess_congr (by simp)

theorem RoundWork.same_excess {u : State} (h : RoundWork s u) : noticeExcess u = noticeExcess s := by
  cases h with
  | opens q idle => unfold openChosen; (repeat' split) <;> simp
  | closes idle => unfold closeAction; (repeat' split) <;> simp
  | commits idle => unfold commitAction; split <;> simp
  | cancels idle => unfold cancelAction; split <;> simp [cancelQuestion]
  | judges team verdict idle => unfold judgeAction; (repeat' split) <;> simp
  | answerExpires due => unfold answerTimeout; split <;> simp
  | applies due => simp [applicationStep, roundAfterCommit]
  | windowExpires | settles | headSettles | handsOff => simp

theorem ScoreWork.same_excess {u : State} (h : ScoreWork s u) : noticeExcess u = noticeExcess s := by
  cases h with
  | revokes => simp only [revokeAction]; (repeat' split) <;> simp [revoke]
  | adjusts team delta => simp only [adjustAction]; split <;> simp
  | clears => simp only [clearScoresAction]; split <;> simp
  | visits | publishes => exact noticeExcess_congr (by simp)

theorem CompWork.same_excess {u : State} (h : CompWork s u) : noticeExcess u = noticeExcess s := by
  cases h with
  | marks refresh => simp only [takeMark, markWall, markSteps_excess]; split <;> simp
  | marksItself => simp [takeInternalMark]
  | fallsSilent => simp [wallFallsSilent]
  | reveals | stops | freezes | thaws | curtainOn | curtainOff | rests | composed => exact noticeExcess_congr (by simp)

end Sys2Proof.Machine
end

section
/-! SUPPORT. The pending seat list (R169) and the Inbox and Feedback Queue of each port (R51, R56) stay within their capacities through
the operations that fill them. -/

namespace Sys2Proof.Machine

/-! ## The pending seat list (R169) -/

/-- R169: at most 16 seats are pending. -/
def SeatListFits (s : State) : Prop := s.hub.seatChanges.length ≤ 16

theorem SeatListFits.congr {s u : State} (h : SeatListFits s) (e : u.hub.seatChanges = s.hub.seatChanges) : SeatListFits u := by
  unfold SeatListFits; rw [e]; exact h

theorem seatListFits_of_nil {s : State} (h : s.hub.seatChanges = []) : SeatListFits s := by
  unfold SeatListFits; rw [h]; exact Nat.zero_le _

/-- R169: at 16 seats the list is sent, so that a SEAT event leaves fewer, or the list as it was. -/
theorem SeatListFits.raiseSeat {s : State} (h : SeatListFits s) (k : Fin 256) (c : Causes) :
    SeatListFits (raiseSeat k c s) := by
  unfold Machine.raiseSeat
  dsimp only
  by_cases raised : (kindEnabled .seat s && c.any) = true
  · rw [if_pos raised]
    split
    · exact seatListFits_of_nil (enqueueNotice_hub_seatChanges _ _)
    · rename_i few
      exact Nat.le_of_lt (Nat.lt_of_not_le fun full => few (.inl full))
  · rw [if_neg raised]; exact h

theorem SeatListFits.setPresence {s : State} (h : SeatListFits s) (l : Bool) (k : Fin 256) (x : Seat) :
    SeatListFits (setPresence l k x s) := SeatListFits.raiseSeat (s := s.setSeat k x) h k _

theorem SeatListFits.reportCheck {s : State} (h : SeatListFits s) (a r : Bool) (k : Fin 256) :
    SeatListFits (reportCheck a r k s) := by
  unfold Machine.reportCheck
  dsimp only
  (repeat' split)
  · exact h
  · exact h.setPresence _ _ _
  · exact h.setPresence _ _ _
  · exact h

theorem SeatListFits.silencePort {s : State} (h : SeatListFits s) (p : Fin 4) : SeatListFits (silencePort p s) :=
  foldl_invariant _ SeatListFits (fun _ _ v => v.setPresence _ _ _) _ _ h

theorem SeatListFits.absentPort {s : State} (h : SeatListFits s) (l : Bool) (p : Fin 4) : SeatListFits (absentPort l p s) :=
  foldl_invariant _ SeatListFits (fun _ _ v => v.setPresence _ _ _) _ _ h

theorem SeatListFits.reportChecks {s : State} (h : SeatListFits s) (p : Fin 4) (sw : Sweep) :
    SeatListFits (reportChecks p sw s) := foldl_invariant _ SeatListFits (fun _ _ v => v.reportCheck _ _ _) _ _ h

theorem SeatListFits.applyPending {s : State} (h : SeatListFits s) (l : Bool) : SeatListFits (applyPending l s) := by
  refine foldl_invariant _ SeatListFits (fun v k w => ?_) _ _ h
  unfold applyPendingSeat
  split
  · exact w
  · exact SeatListFits.raiseSeat (s := v.setSeat k _) w k _

theorem SeatListFits.lampsOff {s : State} (h : SeatListFits s) (f : Lamp → Bool) : SeatListFits (lampsOff f s) :=
  h.congr (by rw [lampsOff_hub])

theorem SeatListFits.takePendingOpen {s : State} (h : SeatListFits s) : SeatListFits (takePendingOpen s) :=
  h.congr (takePendingOpen_hub_seatChanges s)

theorem SeatListFits.assignTeam {s : State} (h : SeatListFits s) (k : Fin 256) (t : Option (Fin 16)) :
    SeatListFits (assignTeam k t s) := by
  unfold Machine.assignTeam
  dsimp only
  (repeat' split)
  · exact SeatListFits.raiseSeat (s := s.setSeat k _) h k _
  · exact h
  · exact h

/-- R167: a CONFIG without the SEAT kind empties the list. -/
theorem SeatListFits.storeConfig {s : State} (h : SeatListFits s) (c : Config) : SeatListFits (storeConfig c s) := by
  have dropped : SeatListFits (dropCoalescing s.hub.config c s) := by
    unfold dropCoalescing
    dsimp only
    (repeat' split)
    · exact seatListFits_of_nil rfl
    · exact seatListFits_of_nil rfl
    · exact h
    · exact h
  refine dropped.congr ?_
  unfold Machine.storeConfig
  rw [setResting_hub_seatChanges, withHub_hub]

/-- R22: a CANCEL is taken or refused. -/
theorem cancelAction_cases (s : State) : (cancelAction s).1 = cancelQuestion s ∨ (cancelAction s).1 = s := by
  unfold cancelAction
  cases s.round.state <;> simp

theorem PortWork.keeps_seatList {s u : State} (h : PortWork s u) (l : SeatListFits s) : SeatListFits u := by
  cases h with
  | stops p idle =>
    unfold stopPort
    exact SeatListFits.absentPort (l.congr (by simp)) true p
  | sweepEnds p sw runs =>
    rw [endSweep_eq]
    exact (SeatListFits.reportChecks (s := sweepMarked p sw s) l p sw).congr (finishRoll_hub_seatChanges _ _ _)
  | breaks p line due =>
    unfold beginBreak
    refine (SeatListFits.silencePort (l.congr ?_) p).congr (raiseNotice_hub_seatChanges _ _)
    simp
  | starts | rollCalls | wakes | sweeps | receives | lineChanges | breakEnds | takesEntry => exact l.congr (by simp)

theorem RoundWork.keeps_seatList {s u : State} (h : RoundWork s u) (l : SeatListFits s) : SeatListFits u := by
  cases h with
  | cancels idle =>
    rcases cancelAction_cases s with e | e <;> rw [e]
    · unfold cancelQuestion
      refine SeatListFits.lampsOff (SeatListFits.applyPending (l.congr ?_) true) _
      simp
    · exact l
  | applies due =>
    unfold applicationStep roundAfterCommit
    refine SeatListFits.takePendingOpen (SeatListFits.lampsOff (SeatListFits.applyPending (l.congr ?_) true) _)
    simp
  | handsOff f held =>
    rcases handOff_cases f s with e | ⟨-, a, heard, rest⟩
    · exact l.congr (by rw [e]; rfl)
    · have fits : SeatListFits a := by
        rcases heard with ⟨cls, battery, rfl⟩ | ⟨n, rfl⟩
        · exact SeatListFits.raiseSeat (l.congr (by simp)) _ _
        · exact SeatListFits.raiseSeat (l.congr (by simp)) _ _
      rcases rest with e | ⟨t, key, x, m, e⟩ | ⟨t, v, x, m, e⟩ <;> exact fits.congr (by simp [e])
  | opens | closes | commits | judges | windowExpires | settles | headSettles | answerExpires => exact l.congr (by simp)

theorem ScoreWork.keeps_seatList {s u : State} (h : ScoreWork s u) (l : SeatListFits s) : SeatListFits u := by
  cases h <;> exact l.congr (by simp)

theorem CompWork.keeps_seatList {s u : State} (h : CompWork s u) (l : SeatListFits s) : SeatListFits u := by
  cases h <;> exact l.congr (by simp)

end Sys2Proof.Machine
end

section
/-! SUPPORT. The Inbox and the Feedback Queue of each port (R51, R56) stay within their capacities: through the operations that fill
them, and with them through every work. -/

namespace Sys2Proof.Machine

/-! ## One port -/

/-- R51, R56: the queues of a port within their capacities, and no position queued twice. -/
def PortFits (x : Port) : Prop := x.inbox.length ≤ 4 ∧ x.feedback.length ≤ 16 ∧ x.feedback.Nodup

theorem PortFits.emptied {x y : Port} (h : PortFits x) (inbox : y.inbox = x.inbox) (feedback : y.feedback = []) : PortFits y := by
  unfold PortFits
  rw [inbox, feedback]
  exact ⟨h.1, Nat.zero_le _, List.nodup_nil⟩

theorem portFits_of_empty {y : Port} (inbox : y.inbox = []) (feedback : y.feedback = []) : PortFits y := by
  unfold PortFits
  rw [inbox, feedback]
  exact ⟨Nat.zero_le _, Nat.zero_le _, List.nodup_nil⟩

/-- R51: a position not queued yet, while fewer than 16 are. -/
theorem PortFits.queued {x : Port} (h : PortFits x) {pos : Fin 64} (fresh : pos ∉ x.feedback) (room : x.feedback.length < 16) :
    PortFits { x with feedback := x.feedback ++ [pos] } := by
  obtain ⟨inbox, -, nodup⟩ := h
  refine ⟨inbox, ?_, ?_⟩
  · simpa using room
  · simpa [List.nodup_append, nodup] using fun a ha => ne_of_mem_of_not_mem ha fresh

/-- R52: a beacon takes the oldest queued positions. -/
theorem PortFits.afterBeacon {x : Port} (h : PortFits x) (b : Beacon) (now : Time) : PortFits (x.afterBeacon b now) := by
  obtain ⟨inbox, few, nodup⟩ := h
  rw [Port.afterBeacon_eq]
  refine ⟨inbox, ?_, nodup.sublist (List.drop_sublist _ _)⟩
  rw [List.length_drop]
  exact (Nat.sub_le _ _).trans few

/-- R56: with 4 entries held a frame takes the place of the newest. -/
theorem PortFits.enterInbox {x : Port} (h : PortFits x) (e : InboxEntry) : PortFits (x.enterInbox e) := by
  obtain ⟨inbox, queue⟩ := h
  rw [Port.enterInbox_eq]
  refine ⟨?_, queue⟩
  dsimp only
  rw [List.length_append, List.length_singleton]
  split
  · omega
  · rw [List.length_dropLast]; omega

theorem PortFits.slotFrame {x : Port} (h : PortFits x) (sw : Sweep) (pos : Fin 64) (bytes : List Byte) (now : Time) :
    PortFits (x.slotFrame sw pos bytes now) := by
  unfold Port.slotFrame
  dsimp only
  split
  · exact h
  · split
    · exact h
    · exact PortFits.enterInbox (x := { x with sweep := some _ }) h _

theorem PortFits.receive {x : Port} (h : PortFits x) (start last : Time) (bytes : List Byte) (now : Time) :
    PortFits (x.receive start last bytes now) := by
  unfold Port.receive
  (repeat' split)
  case isFalse => exact h.slotFrame _ _ _ _
  all_goals exact h

/-! ## Every port -/

/-- R51, R56: the queues of every port within their capacities. -/
def PortsFit (v : Vector Port 4) : Prop := ∀ p : Fin 4, PortFits v[p]

/-- One port changes, and the others stay. -/
theorem PortsFit.at_port {v w : Vector Port 4} {p : Fin 4} {x : Port} (h : PortsFit v)
    (e : ∀ o : Fin 4, w[o] = if o = p then x else v[o]) (fits : PortFits x) : PortsFit w := by
  intro o
  rw [e]
  split
  · exact fits
  · exact h o

theorem PortsFit.setPort {s : State} (h : PortsFit s.ports) (p : Fin 4) {x : Port} (fits : PortFits x) :
    PortsFit (s.setPort p x).ports := h.at_port (setPort_get s p · x) fits

/-! ## Lamps and the round -/

section
variable {s : State} (h : PortsFit s.ports)
include h

@[simp] theorem queueFeedback_portsFit (k : Fin 256) : PortsFit (queueFeedback k s).ports := by
  obtain ⟨-, other, own⟩ := queueFeedback_asked k s
  intro o
  by_cases e : o = portOf k
  · rw [e]
    split at own
    · rw [own.2]; exact h _
    · rename_i free
      simp only [not_or] at free
      split at own
      · rename_i room
        rw [own.1]; exact (h _).queued free.2.2 room
      · rw [own.1]; exact (h (portOf k)).emptied rfl rfl
  · rw [other o e]; exact h o

@[simp] theorem requestLamp_portsFit (k : Fin 256) (x : Lamp) : PortsFit (requestLamp k x s).ports := by
  unfold requestLamp
  split
  · exact h
  · exact queueFeedback_portsFit (by exact h) k

@[simp] theorem openLamps_portsFit (q : Fin 128) : PortsFit (openLamps q s).ports := by
  intro p
  rw [openLamps_port]
  split
  · exact (h p).emptied rfl rfl
  · exact h p

@[simp] theorem openQuestion_portsFit (q : Fin 128) : PortsFit (openQuestion q s).ports := by simp [openQuestion, h]

@[simp] theorem takePendingOpen_portsFit : PortsFit (takePendingOpen s).ports := by
  unfold takePendingOpen
  split
  · exact h
  · dsimp only
    split
    · simpa using h
    · exact openQuestion_portsFit (by exact h) _

@[simp] theorem grantFloor_portsFit (e : BuzzEntry) : PortsFit (grantFloor e s).ports := by simp [grantFloor, h]

@[simp] theorem grantTest_portsFit : PortsFit (grantTest s).ports := by
  unfold grantTest; (repeat' split) <;> simp [h]

@[simp] theorem settleExpires_portsFit : PortsFit (settleExpires s).ports := by
  unfold settleExpires
  dsimp only
  split
  · exact grantTest_portsFit (by exact h)
  · simpa using h

@[simp] theorem closeAnswering_portsFit : PortsFit (closeAnswering s).ports := by
  simp only [closeAnswering]; split <;> simp [h]

@[simp] theorem releaseWrong_portsFit (n : Nat) : PortsFit (releaseWrong n s).ports := by
  rcases releaseWrong_cases n s with e | e <;> simp [e, h]

@[simp] theorem recordVerdict_portsFit (v : Verdict) (e : BuzzEntry) (rest : List BuzzEntry) :
    PortsFit (recordVerdict v e rest s).ports := by
  unfold recordVerdict
  rw [raiseNotice_ports]
  exact requestLamp_portsFit (by exact h) _ _

@[simp] theorem judgeHolder_portsFit (v : Verdict) (e : BuzzEntry) (rest : List BuzzEntry) :
    PortsFit (judgeHolder v e rest s).ports := by
  simp only [judgeHolder]; split <;> simp [h]

@[simp] theorem insertEntry_portsFit (k : Fin 256) (t : Fin 16) (x : Time) (m : Marks) :
    PortsFit (insertEntry k t x m s).ports := by
  simp only [insertEntry]; split <;> simp [h]

@[simp] theorem falseStart_portsFit (k : Fin 256) (t : Fin 16) (x : Time) (m : Marks) :
    PortsFit (falseStart k t x m s).ports := by
  unfold falseStart
  rw [raiseNotice_ports]
  exact requestLamp_portsFit (by exact h) _ _

@[simp] theorem takeBuzz_portsFit (k : Fin 256) (t : Option (Fin 16)) (x : Time) (m : Marks) :
    PortsFit (takeBuzz k t x m s).ports := by
  unfold takeBuzz; (repeat' split) <;> simp [h]

/-! ## Answers and routing -/

@[simp] theorem answerTaken_portsFit (k : Fin 256) (t : Fin 16) (a : Answer) (x : Time) (m : Marks) :
    PortsFit (answerTaken k t a x m s).ports := by simp [answerTaken, h]

@[simp] theorem takeAnswer_portsFit (k : Fin 256) (t : Fin 16) (a : Answer) (x : Time) (m : Marks) :
    PortsFit (takeAnswer k t a x m s).ports := by
  unfold takeAnswer; (repeat' split) <;> simp [firstAnswer, acceptedChange, h]

@[simp] theorem judgePress_portsFit (k : Fin 256) (t : Option (Fin 16)) (a : Option Answer) (x : Time) (m : Marks) :
    PortsFit (judgePress k t a x m s).ports := by
  unfold judgePress; (repeat' split) <;> simp [h]

@[simp] theorem routeKey_portsFit (k : Fin 256) (t : Option (Fin 16)) (key : Byte) (x : Time) (m : Marks) :
    PortsFit (routeKey k t key x m s).ports := by
  unfold routeKey; (repeat' split) <;> simp [h]

@[simp] theorem routeDigits_portsFit (k : Fin 256) (t : Option (Fin 16)) (v : Nat) (x : Time) (m : Marks) :
    PortsFit (routeDigits k t v x m s).ports := by
  unfold routeDigits; split <;> simp [h]

@[simp] theorem handOff_portsFit (f : Stamped) : PortsFit (handOff f s).ports := by
  rcases handOff_cases f s with e | ⟨-, a, heard, rest⟩
  · rw [e]; exact h
  · have fits : PortsFit a.ports := by
      rcases heard with ⟨cls, battery, rfl⟩ | ⟨n, rfl⟩
      · simp [h]
      · rw [pressHeard, raiseSeat_ports]
        exact queueFeedback_portsFit (by exact h) _
    rcases rest with e | ⟨t, key, x, m, e⟩ | ⟨t, v, x, m, e⟩ <;> simp [e, fits]

@[simp] theorem resultLamps_portsFit : PortsFit (resultLamps s).ports := by
  unfold resultLamps
  split
  · exact foldl_invariant _ (fun v : State => PortsFit v.ports) (fun v k g => by split <;> simp [g]) _ _ h
  · exact h

/-! ## Starts and stops -/

@[simp] theorem startPort_portsFit (p : Fin 4) : PortsFit (startPort p s).1.ports := by
  intro o
  rw [startPort_port]
  split
  · exact h p
  · exact h o

@[simp] theorem autostart_portsFit : PortsFit (autostart s).ports :=
  foldl_invariant _ (fun v : State => PortsFit v.ports) (fun v p g => by split <;> simp [g]) _ _ h

end

/-! ## Works -/

theorem PortWork.keeps_portsFit {s u : State} (w : PortWork s u) (h : PortsFit s.ports) : PortsFit u.ports := by
  cases w with
  | starts p idle => simp [h]
  | stops p idle => exact h.at_port (stopPort_port true p · s) (portFits_of_empty rfl rfl)
  | rollCalls p idle =>
    unfold rollCall
    (repeat' split)
    · exact h
    · exact h
    · exact h.setPort p (h p)
  | wakes p due =>
    intro o
    obtain ⟨b, now, -, e⟩ := enterSweeping_port p o s
    rw [e]
    split
    · exact ((h p).emptied (y := wokenPort s.ports[p]) rfl rfl).afterBeacon b now
    · exact h o
  | sweeps p due => exact h.at_port (startSweep_port p · s) ((h p).afterBeacon _ _)
  | sweepEnds p sw runs => exact h.at_port (endSweep_port p · sw s) (h p)
  | receives p start last bytes => exact h.setPort p ((h p).receive start last bytes s.now)
  | breaks p line due => exact h.at_port (beginBreak_port p · line.idle s) ((h p).emptied rfl rfl)
  | lineChanges p active => exact h.setPort p (h p)
  | breakEnds p due => exact h.at_port (endBreak_port p · s) (h p)
  | takesEntry p =>
    unfold takeEntry
    split
    · exact h
    · rename_i e rest held
      obtain ⟨inbox, queue⟩ := h p
      rw [held, List.length_cons] at inbox
      exact h.setPort p ⟨Nat.le_of_succ_le inbox, queue⟩

theorem RoundWork.keeps_portsFit {s u : State} (w : RoundWork s u) (h : PortsFit s.ports) : PortsFit u.ports := by
  cases w with
  | opens q idle => unfold openChosen; (repeat' split) <;> simp [h]
  | closes idle => unfold closeAction; (repeat' split) <;> simp [h]
  | judges team verdict idle => unfold judgeAction; (repeat' split) <;> simp [h]
  | answerExpires due => unfold answerTimeout; split <;> simp [h]
  | applies due => simp [applicationStep, roundAfterCommit, h]
  | commits | cancels | windowExpires | settles | headSettles | handsOff => simp [h]

theorem ScoreWork.keeps_portsFit {s u : State} (w : ScoreWork s u) (h : PortsFit s.ports) : PortsFit u.ports := by
  cases w <;> simp [h]

theorem CompWork.keeps_portsFit {s u : State} (w : CompWork s u) (h : PortsFit s.ports) : PortsFit u.ports := by
  cases w <;> simp [h]

end Sys2Proof.Machine
end

section
/-! SUPPORT. What each owner's work leaves of the queues: the frames and requests in passing stay, and the Notice Queue, the pending seat
list and the ports' queues stay within their capacities. -/

namespace Sys2Proof.Machine

/-- The frames and requests in passing, as the Link Switch and the Hub Agent hold them (R144 to R147, R152, R157). -/
def ledger (s : State) : (List Frame × Bool × List (List Byte)) × (List (List Byte) × Nat) × Agent × List (List Byte) :=
  ((s.link.passQueue, s.link.hold, s.link.reports), (s.link.replies, s.link.owed), s.hub.agent, s.hub.requests)

/-- No frame or request in passing moves, and no queue outgrows its capacity. -/
structure QueuesKept (s u : State) : Prop where
  ledger : ledger u = ledger s
  excess : noticeExcess u = noticeExcess s
  seatList : SeatListFits s → SeatListFits u
  ports : PortsFit s.ports → PortsFit u.ports

theorem QueuesKept.refl (s : State) : QueuesKept s s := ⟨rfl, rfl, id, id⟩

theorem QueuesKept.trans {s u v : State} (h : QueuesKept s u) (g : QueuesKept u v) : QueuesKept s v :=
  ⟨g.ledger.trans h.ledger, g.excess.trans h.excess, g.seatList ∘ h.seatList, g.ports ∘ h.ports⟩

/-- A change of neither the Hub Agent, nor the queues of the Link Switch, nor a port. -/
theorem QueuesKept.of_same {s u : State} (link : u.link = s.link) (hub : u.hub = s.hub) (ports : u.ports = s.ports) :
    QueuesKept s u :=
  ⟨by unfold Machine.ledger; rw [link, hub], noticeExcess_congr (by rw [hub]), fun h => h.congr (by rw [hub]), fun h => ports ▸ h⟩

theorem QueuesKept.agent {s u : State} (h : QueuesKept s u) : u.hub.agent = s.hub.agent :=
  congrArg (fun x => x.2.2.1) h.ledger

/-- What every step of a fold keeps. -/
theorem QueuesKept.foldl {α : Type} (f : State → α → State) (h : ∀ s a, QueuesKept s (f s a)) (l : List α) (s : State) :
    QueuesKept s (l.foldl f s) := foldl_invariant f (QueuesKept s) (fun _ a g => g.trans (h _ a)) l s (.refl s)

/-! ## The works of the ports, the round, the scores and the scoreboard -/

theorem PortWork.keeps_queues {s u : State} (h : PortWork s u) : QueuesKept s u :=
  ⟨by cases h <;> simp [Machine.ledger], h.same_excess, h.keeps_seatList, h.keeps_portsFit⟩

theorem RoundWork.keeps_queues {s u : State} (h : RoundWork s u) : QueuesKept s u :=
  ⟨by cases h <;> simp [Machine.ledger], h.same_excess, h.keeps_seatList, h.keeps_portsFit⟩

theorem ScoreWork.keeps_queues {s u : State} (h : ScoreWork s u) : QueuesKept s u :=
  ⟨by cases h <;> simp [Machine.ledger], h.same_excess, h.keeps_seatList, h.keeps_portsFit⟩

/-- A burst in the Score Out slot is the only thing that the Composer places on a link (R132). -/
theorem swapBuffers_ledger (r : Option Byte) (s : State) : ledger (swapBuffers r s) = ledger s := by
  simp only [swapBuffers]
  (repeat' split) <;> simp [Machine.ledger, placeBurst, placeCurtainBlank]

theorem markSteps_ledger (r : Option Byte) (s : State) : ledger (markSteps r s) = ledger s := by
  have later : ledger (markSteps r s) = ledger (swapBuffers r s) := by simp [Machine.ledger, markSteps]
  exact later.trans (swapBuffers_ledger r s)

theorem CompWork.keeps_queues {s u : State} (h : CompWork s u) : QueuesKept s u := by
  refine ⟨?_, h.same_excess, h.keeps_seatList, h.keeps_portsFit⟩
  cases h with
  | curtainOn => unfold curtainOnAction; split <;> simp [Machine.ledger, placeCurtainBlank, placeBurst]
  | curtainOff => unfold curtainOffAction; split <;> simp [Machine.ledger, placeBurst]
  | marks refresh => exact (markSteps_ledger _ _).trans (by simp [Machine.ledger])
  | marksItself => exact markSteps_ledger none (s.withComp _)
  | reveals | stops | freezes | thaws | rests | composed | fallsSilent => simp [Machine.ledger]

theorem raiseNotice_queuesKept (b : NoticeBody) (s : State) : QueuesKept s (raiseNotice b s) :=
  ⟨by simp [Machine.ledger], raiseNotice_excess s b, fun h => h.congr (by simp), fun h => by simpa using h⟩

/-! ## The tables -/

theorem assignTeam_queuesKept (k : Fin 256) (t : Option (Fin 16)) (s : State) : QueuesKept s (assignTeam k t s) :=
  ⟨by simp [Machine.ledger], assignTeam_excess s k t, fun h => h.assignTeam k t, fun h => by simpa using h⟩

theorem storeConfig_queuesKept (c : Config) (s : State) : QueuesKept s (storeConfig c s) :=
  ⟨by simp [Machine.ledger], storeConfig_excess s c, fun h => h.storeConfig c, fun h => by simpa using h⟩

theorem RecordStore.keeps_queues {r : List Byte} {s u : State} (h : RecordStore r s u) : QueuesKept s u := by
  cases h with
  | refused => exact .refl s
  | seat k =>
    unfold writeSeat
    (repeat' split)
    · exact .refl s
    · exact assignTeam_queuesKept _ _ _
    · exact .refl s
    · exact assignTeam_queuesKept _ _ _
  | port p =>
    rcases writePort_cases p r s with e | ⟨-, e⟩ <;> rw [e]
    · exact .refl s
    · exact ⟨rfl, rfl, id, fun h => h.setPort p (h p)⟩
  | config =>
    unfold writeConfigRecord
    split
    · exact .refl s
    · exact storeConfig_queuesKept _ s
  | team | question | cue | sequence | step => exact .of_same (by simp) (by simp) (by simp)

theorem recordOutcomes_queuesKept (t : Table) (i : Nat) (records : List (List Byte)) (s : State) :
    QueuesKept s (recordOutcomes t i records s).2 :=
  recordOutcomes_stores (P := QueuesKept s) (fun _ _ _ store h => h.trans store.keeps_queues) t records i s (.refl s)

/-- New configurations or flags leave the queues of the ports. -/
theorem withPorts_queuesKept {s : State} {v : Vector Port 4}
    (h : ∀ p : Fin 4, v[p].inbox = s.ports[p].inbox ∧ v[p].feedback = s.ports[p].feedback) : QueuesKept s (s.withPorts v) := by
  refine ⟨rfl, rfl, id, fun fits p => ?_⟩
  obtain ⟨inbox, feedback⟩ := h p
  show PortFits v[p]
  unfold PortFits
  rw [inbox, feedback]
  exact fits p

theorem clearReadFlags_queuesKept (t : Table) (first returned : Nat) (s : State) :
    QueuesKept s (clearReadFlags t first returned s) := by
  unfold clearReadFlags
  split
  · refine withPorts_queuesKept fun p => ?_
    simp only [Fin.getElem_fin, Vector.getElem_ofFn]
    split <;> exact ⟨rfl, rfl⟩
  · exact .refl s

/-! ## The end of a load -/

theorem withLoader_queuesKept (s : State) (x : Loader) : QueuesKept s (s.withLoader x) := .of_same rfl rfl rfl

theorem resetTables_queuesKept (s : State) : QueuesKept s (resetTables s) := by
  unfold resetTables
  dsimp only
  have seats := QueuesKept.foldl _ (fun s k => assignTeam_queuesKept k none s) (List.finRange 256) s
  have teams (u : State) := QueuesKept.foldl (fun s t => storeTeam t Team.reset s)
    (fun s t => .of_same (by simp) (by simp) (by simp)) (List.finRange 16) u
  refine ((seats.trans (teams _)).trans (.trans ?_ (withPorts_queuesKept fun p => ?_))).trans (storeConfig_queuesKept _ _)
  · exact .of_same (by simp) (by simp) (by simp)
  · simp

theorem loadAction_queuesKept (r : LoadResult) (s : State) : QueuesKept s (loadAction r s) := by
  cases r with
  | failed => exact resetTables_queuesKept s
  | loaded =>
    refine QueuesKept.foldl _ (fun s p => ?_) _ s
    split
    · exact ⟨by simp [Machine.ledger], noticeExcess_congr (by simp), fun h => h.congr (by simp), fun h => startPort_portsFit h p⟩
    · exact .refl s
  | empty | none => exact .refl s

theorem TableWork.keeps_queues {s u : State} (h : TableWork s u) : QueuesKept s u := by
  cases h with
  | writes t i records => exact recordOutcomes_queuesKept t i records s
  | reads t first returned => exact clearReadFlags_queuesKept t first returned s
  | walksSection =>
    obtain ⟨u, e, -, rfl | ⟨t, i, rs, rfl⟩⟩ := walkSection_cases s
    · rw [e]; exact .of_same rfl rfl rfl
    · rw [e]; exact (recordOutcomes_queuesKept t i rs s).trans (.of_same rfl rfl rfl)
  | loadEnds r due =>
    rw [endLoad_eq]
    exact ((withLoader_queuesKept s _).trans (loadAction_queuesKept r _)).trans
      ((withLoader_queuesKept _ _).trans (raiseNotice_queuesKept _ _))
  | reloads flash => unfold reloadAction; split <;> exact .of_same rfl rfl rfl

end Sys2Proof.Machine
end

section
/-! SUPPORT. Every command as a run of acts on the queues: changes that keep them, resets, and the arrivals and departures of the links
and of the Hub Agent (R144 to R147, R149, R152, R153, R157, R166). -/

namespace Sys2Proof.Machine

/-- One act on the queues. -/
inductive QueueAct (s : State) : State → Prop
  | keeps {u : State} (h : QueuesKept s u) : QueueAct s u
  | hardResets (strap : Bool) (flash : List Byte) : QueueAct s (hardReset strap flash s)
  | warmRestarts : QueueAct s (warmRestart s)
  | offers (f : Frame) : QueueAct s (offerPass f s)
  | reports (payload : List Byte) : QueueAct s (takeReport payload s)
  | requests (payload : List Byte) : QueueAct s (takeRequest payload s)
  | answers (payload : List Byte) (st : Status) (body : List Byte) (busy : ∃ p began, s.hub.agent = .decoding p began) :
    QueueAct s (nextRequest (placeReply payload st body s))
  | restarts (tag : Byte) (busy : ∃ p began, s.hub.agent = .decoding p began) : QueueAct s (restartTaken tag s)
  | wallChooses : QueueAct s (wallChoose s)
  | consoleChooses : QueueAct s (consoleChoose s)

/-- Acts on the queues, one after the other. -/
abbrev QueueActs : State → State → Prop := Relation.ReflTransGen QueueAct

theorem QueuesKept.acts {s u : State} (h : QueuesKept s u) : QueueActs s u := .single (.keeps h)

theorem settleLinks_acts (s : State) : QueueActs s (settleLinks s) :=
  .tail (.single .consoleChooses) .wallChooses

/-! ## Changes that keep the queues -/

theorem receiveOn_queuesKept (link : Link) (start : Time) (bytes : List Heard) (broken : Bool) (s : State) :
    QueuesKept s (receiveOn link start bytes broken s) := by
  cases link <;> exact ⟨rfl, rfl, id, id⟩

theorem discardFrame_queuesKept (link : Link) (start : Time) (bytes : List Heard) (broken : Bool) (s : State) :
    QueuesKept s (discardFrame link start bytes broken s) :=
  .trans (u := s.withLink { s.link with linkCheck := true }) ⟨rfl, rfl, id, id⟩ (receiveOn_queuesKept link start bytes broken _)

theorem endWallFrame_queuesKept (t : WallTx) (s : State) : QueuesKept s (endWallFrame t s) := by
  unfold endWallFrame startFill
  cases t.rest <;> exact ⟨rfl, rfl, id, id⟩

theorem withFree_queuesKept (x : Nat) (s : State) : QueuesKept s (s.withFree x) := ⟨rfl, rfl, id, id⟩

theorem buildTally_queuesKept (s : State) : QueuesKept s (buildTally s) :=
  ⟨by simp [Machine.ledger], buildTally_excess s, fun h => h.congr (by simp), fun h => by simpa using h⟩

theorem buildSeat_queuesKept (s : State) : QueuesKept s (buildSeat s) :=
  ⟨by simp [Machine.ledger], buildSeat_excess s, fun _ => seatListFits_of_nil (enqueueNotice_hub_seatChanges _ _),
    fun h => by simpa using h⟩

/-- The action of a cue is the work of its owner (R5, R7). -/
theorem cueAction_queuesKept (c : CueAction) (x : Byte) (s : State) (idle : s.loader.running = false) :
    QueuesKept s (cueAction c x s).1 := by
  cases c with
  | openQuestion => exact (RoundWork.opens _ idle).keeps_queues
  | next => exact (RoundWork.opens _ idle).keeps_queues
  | close => exact (RoundWork.closes idle).keeps_queues
  | commit => exact (RoundWork.commits idle).keeps_queues
  | cancel => exact (RoundWork.cancels idle).keeps_queues
  | reveal => exact (CompWork.reveals x).keeps_queues
  | stopSequence => exact CompWork.stops.keeps_queues
  | freeze => exact CompWork.freezes.keeps_queues
  | thaw => exact CompWork.thaws.keeps_queues
  | curtainOn => exact CompWork.curtainOn.keeps_queues
  | curtainOff => exact CompWork.curtainOff.keeps_queues

theorem runCue_queuesKept (c : CueEntry) (s : State) : QueuesKept s (runCue c s) := by
  unfold runCue
  split
  · exact raiseNotice_queuesKept _ _
  · rename_i loading
    have act := cueAction_queuesKept c.action c.argument s (by simpa using loading)
    dsimp only
    split
    · exact act.trans (raiseNotice_queuesKept _ _)
    · exact act

theorem onPort_queuesKept {port : Byte} {act : Fin 4 → State × Status} {s : State} (h : ∀ p, QueuesKept s (act p).1) :
    QueuesKept s (onPort port act s).1 := by
  unfold onPort
  split
  · exact h _
  · exact .refl s

/-! ## What the outcomes of a command come to -/

theorem acts_of_finish {s u t : State} (h : finish u = .next t) (g : QueueActs s u) : QueueActs s t := by
  cases h; exact g.trans (settleLinks_acts u)

theorem acts_of_whenDue {due : Bool} {event : State → State} {s t : State} (h : whenDue due event s = .next t)
    (g : due = true → QueueActs s (event s)) : QueueActs s t := by
  unfold whenDue at h
  split at h
  · exact acts_of_finish h (g ‹_›)
  · cases h; exact .refl

theorem decoding_busy {payload : List Byte} {s : State} (h : decodeEnds payload s = true) :
    ∃ p began, s.hub.agent = .decoding p began := by
  obtain ⟨began, agent, -⟩ := (decodeEnds_iff payload s).mp h
  exact ⟨payload, began, agent⟩

/-- R157, R158: an execution that keeps the queues, and then its REPLY and the next request. -/
theorem acts_of_executeRequest {payload : List Byte} {execute : State → Executed} {s t : State}
    (h : executeRequest payload execute s = .next t)
    (g : s.loader.running = false ∨ u8 payload 1 = 6 → QueuesKept s (execute s).state) : QueueActs s t := by
  unfold executeRequest at h
  split at h
  · rename_i ends
    have executed : QueuesKept s (checkedExecution payload execute s).state := by
      unfold checkedExecution
      split
      · exact withFree_queuesKept _ s
      · rename_i free
        split
        · refine g ?_
          by_cases running : s.loader.running = true
          · right; simpa [running] using free
          · left; simpa using running
        · exact .refl s
    refine acts_of_finish h (executed.acts.tail (.answers _ _ _ ?_))
    rw [executed.agent]
    exact decoding_busy ends
  · cases h; exact .refl

theorem acts_of_runAction {payload : List Byte} {act : State → State × Status} {s t : State}
    (h : runAction payload act s = .next t) (kind : u8 payload 1 ≠ 6)
    (g : s.loader.running = false → QueuesKept s (act s).1) : QueueActs s t :=
  acts_of_executeRequest h fun idle => g (idle.resolve_right kind)

theorem acts_of_runRead {table : Table} {tag first count : Byte} {s t : State}
    (h : runRead table tag first count s = .next t) : QueueActs s t := by
  refine acts_of_executeRequest h fun _ => ?_
  unfold executeRead
  split
  · exact withFree_queuesKept _ s
  · exact (clearReadFlags_queuesKept table _ _ s).trans (withFree_queuesKept _ _)

theorem acts_of_runWrite {table : Table} {tag first : Byte} {records : List Byte} {s t : State}
    (h : runWrite table tag first records s = .next t) : QueueActs s t := by
  refine acts_of_executeRequest h fun _ => ?_
  unfold executeWrite
  dsimp only
  split
  · exact withFree_queuesKept _ s
  · rw [writeRecords_outcomes]
    exact (recordOutcomes_queuesKept table _ _ s).trans (withFree_queuesKept _ _)

theorem acts_of_takeGood {link : Link} {cls : Byte} {a : Arrival} {take : List Byte → State → State} {s t : State}
    (h : takeGood link cls a take s = .next t) (g : ∀ payload, QueueActs s (take payload s)) : QueueActs s t := by
  unfold takeGood at h
  split at h
  · exact acts_of_finish h ((g _).tail (.keeps (receiveOn_queuesKept _ _ _ _ _)))
  · exact acts_of_finish h (discardFrame_queuesKept _ _ _ _ _).acts

theorem takeCue_acts (payload : List Byte) (s : State) : QueueActs s (takeCue payload s) := by
  unfold takeCue
  split
  · exact .single (.offers _)
  · split
    · exact (runCue_queuesKept _ s).acts
    · exact ((runCue_queuesKept _ s).acts.tail .wallChooses).tail (.offers _)

/-! ## Every command -/

theorem exec_acts (c : Instr) (s t : State) (h : exec c s = .next t) : QueueActs s t := by
  cases c with
  | hardReset strap flash => cases h; exact .single (.hardResets strap flash)
  | warmRestart => exact acts_of_whenDue h fun _ => .single .warmRestarts
  | showTimeTick => cases h; exact QueuesKept.acts ⟨rfl, rfl, id, id⟩
  | linkFrameDiscarded link start bytes => exact acts_of_whenDue h fun _ => (discardFrame_queuesKept _ _ _ _ _).acts
  | pass frame =>
    simp only [exec, execPass] at h
    exact acts_of_takeGood h fun _ => .single (.offers _)
  | cue frame => exact acts_of_takeGood h fun payload => takeCue_acts payload s
  | hubRequest frame => exact acts_of_takeGood h fun _ => .single (.requests _)
  | mark frame =>
    simp only [exec, execMark] at h
    exact acts_of_takeGood h fun _ => (CompWork.marks _).keeps_queues.acts
  | report frame => exact acts_of_takeGood h fun _ => .single (.reports _)
  | wallFrameEnd =>
    simp only [exec, execWallFrameEnd] at h
    split at h
    · exact acts_of_finish h (endWallFrame_queuesKept _ s).acts
    · cases h; exact .refl
  | idleFillExpiry => exact acts_of_whenDue h fun _ => QueuesKept.acts ⟨rfl, rfl, id, id⟩
  | consoleFrameEnd =>
    refine acts_of_whenDue h fun _ => ?_
    unfold endConsoleFrame
    split
    · exact .single .warmRestarts
    · exact QueuesKept.acts ⟨rfl, rfl, id, id⟩
  | requestMalformed payload =>
    simp only [exec, execRequestMalformed] at h
    split at h
    · rename_i ends
      split at h
      · exact acts_of_finish h (.single (.answers _ _ _ (decoding_busy ends)))
      · split at h
        · cases h; exact .refl
        · exact acts_of_executeRequest h fun _ => .refl s
    · cases h; exact .refl
  | readUnknownTable tag table first count =>
    simp only [exec, execReadUnknownTable] at h
    split at h
    · cases h; exact .refl
    · exact acts_of_executeRequest h fun _ => withFree_queuesKept _ s
  | writeReadOnlyTable tag table first records =>
    simp only [exec, execWriteReadOnlyTable] at h
    split at h
    · exact acts_of_executeRequest h fun _ => withFree_queuesKept _ s
    · cases h; exact .refl
  | readSeats | readTeams | readQuestions | readCues | readSequences | readSteps | readPortcfg | readConfig | readResponses
  | readBuzzq | readJudged | readScores | readStandings | readCommit | readPortstat => exact acts_of_runRead h
  | writeSeats | writeTeams | writeQuestions | writeCues | writeSequences | writeSteps | writePortcfg | writeConfig =>
    exact acts_of_runWrite h
  | actOpen | actNext => exact acts_of_runAction h (by simp [u8]) fun idle => (RoundWork.opens _ idle).keeps_queues
  | actClose => exact acts_of_runAction h (by simp [u8]) fun idle => (RoundWork.closes idle).keeps_queues
  | actCommit => exact acts_of_runAction h (by simp [u8]) fun idle => (RoundWork.commits idle).keeps_queues
  | actCancel => exact acts_of_runAction h (by simp [u8]) fun idle => (RoundWork.cancels idle).keeps_queues
  | actJudge => exact acts_of_runAction h (by simp [u8]) fun idle => (RoundWork.judges _ _ idle).keeps_queues
  | actRevoke => exact acts_of_runAction h (by simp [u8]) fun _ => ScoreWork.revokes.keeps_queues
  | actAdjust => exact acts_of_runAction h (by simp [u8]) fun _ => (ScoreWork.adjusts _ _).keeps_queues
  | actClearScores => exact acts_of_runAction h (by simp [u8]) fun _ => ScoreWork.clears.keeps_queues
  | portStart =>
    exact acts_of_runAction h (by simp [u8]) fun idle => onPort_queuesKept fun p => (PortWork.starts p idle).keeps_queues
  | portStop =>
    exact acts_of_runAction h (by simp [u8]) fun idle => onPort_queuesKept fun p => (PortWork.stops p idle).keeps_queues
  | portRollCall =>
    exact acts_of_runAction h (by simp [u8]) fun idle => onPort_queuesKept fun p => (PortWork.rollCalls p idle).keeps_queues
  | showReveal => exact acts_of_runAction h (by simp [u8]) fun _ => (CompWork.reveals _).keeps_queues
  | showStopSequence => exact acts_of_runAction h (by simp [u8]) fun _ => CompWork.stops.keeps_queues
  | showFreeze => exact acts_of_runAction h (by simp [u8]) fun _ => CompWork.freezes.keeps_queues
  | showThaw => exact acts_of_runAction h (by simp [u8]) fun _ => CompWork.thaws.keeps_queues
  | showCurtainOn => exact acts_of_runAction h (by simp [u8]) fun _ => CompWork.curtainOn.keeps_queues
  | showCurtainOff => exact acts_of_runAction h (by simp [u8]) fun _ => CompWork.curtainOff.keeps_queues
  | showResting => exact acts_of_runAction h (by simp [u8]) fun _ => (CompWork.rests _).keeps_queues
  | status tag => exact acts_of_executeRequest h fun _ => ⟨rfl, rfl, id, id⟩
  | reload tag flash => exact acts_of_runAction h (by simp [u8]) fun _ => (TableWork.reloads flash).keeps_queues
  | restart tag =>
    simp only [exec, execRestart] at h
    split at h
    · rename_i ends
      split at h
      · exact acts_of_finish h (.single (.answers _ _ _ (decoding_busy ends)))
      · exact acts_of_finish h (.single (.restarts tag (decoding_busy ends)))
    · cases h; exact .refl
  | wakeTimerExpiry p => exact acts_of_whenDue h fun due => (PortWork.wakes p due).keeps_queues.acts
  | sweepStart p => exact acts_of_whenDue h fun due => (PortWork.sweeps p due).keeps_queues.acts
  | sweepEnd p =>
    simp only [exec, execSweepEnd] at h
    split at h
    · rename_i sw runs
      exact acts_of_whenDue h fun _ => (PortWork.sweepEnds p sw runs).keeps_queues.acts
    · cases h; exact .refl
  | handsetFrameReceived p start last bytes => exact acts_of_finish h (PortWork.receives p start last bytes).keeps_queues.acts
  | breakBegin p line => exact acts_of_whenDue h fun due => (PortWork.breaks p line due).keeps_queues.acts
  | lineIdleChange p active => exact acts_of_whenDue h fun _ => (PortWork.lineChanges p active).keeps_queues.acts
  | breakEnd p =>
    refine acts_of_whenDue h fun due => (PortWork.breakEnds p ?_).keeps_queues.acts
    simp only [Bool.and_eq_true, beq_iff_eq] at due
    exact due.1
  | inboxTake =>
    simp only [exec, execInboxTake] at h
    split at h
    · exact acts_of_finish h (PortWork.takesEntry _).keeps_queues.acts
    · cases h; exact .refl
    · cases h; exact .refl
  | frameHandoff =>
    simp only [exec, execFrameHandoff] at h
    split at h
    · exact acts_of_finish h (RoundWork.handsOff _ ‹_›).keeps_queues.acts
    · cases h; exact .refl
  | windowExpiry => exact acts_of_whenDue h fun due => (RoundWork.windowExpires due).keeps_queues.acts
  | settleExpiry => exact acts_of_whenDue h fun due => (RoundWork.settles due).keeps_queues.acts
  | headSettleExpiry => exact acts_of_whenDue h fun _ => RoundWork.headSettles.keeps_queues.acts
  | answerTimerExpiry => exact acts_of_whenDue h fun due => (RoundWork.answerExpires due).keeps_queues.acts
  | applicationStep => exact acts_of_whenDue h fun due => (RoundWork.applies due).keeps_queues.acts
  | publicationStep => exact acts_of_whenDue h fun _ => ScoreWork.publishes.keeps_queues.acts
  | composeEnd => exact acts_of_whenDue h fun _ => CompWork.composed.keeps_queues.acts
  | wallSilentExpiry => exact acts_of_whenDue h fun _ => CompWork.fallsSilent.keeps_queues.acts
  | internalMark => exact acts_of_whenDue h fun _ => CompWork.marksItself.keeps_queues.acts
  | tallyTimerExpiry => exact acts_of_whenDue h fun _ => (buildTally_queuesKept s).acts
  | seatTimerExpiry => exact acts_of_whenDue h fun _ => (buildSeat_queuesKept s).acts
  | presetSection => exact acts_of_whenDue h fun _ => TableWork.walksSection.keeps_queues.acts
  | loadEnd =>
    simp only [exec, execLoadEnd] at h
    split at h
    · exact acts_of_finish h (TableWork.loadEnds _ ‹_›).keeps_queues.acts
    · cases h; exact .refl
  | walkSeatVisit =>
    simp only [exec, execWalkSeatVisit] at h
    split at h
    · exact acts_of_finish h (ScoreWork.visits _).keeps_queues.acts
    · cases h; exact .refl

/-- A law of the queues that every act keeps is kept by every step. -/
theorem step_keeps_queueLaw {P : State → Prop} (act : ∀ s u, QueueAct s u → P s → P u) {s t : State} (h : step s = .next t)
    (hs : P s) : P t := by
  have run : ∀ {s u : State}, QueueActs s u → P s → P u := fun acts => by
    induction acts with
    | refl => exact id
    | tail _ last ih => exact fun hs => act _ _ last (ih hs)
  unfold step at h
  split at h
  · cases h; exact hs
  · exact run (exec_acts _ _ t h) (act s _ (.keeps ⟨rfl, rfl, id, id⟩) hs)

end Sys2Proof.Machine
end

section
/-! SUPPORT. The count of replies owed (R152, R157) and the capacities of the queues (R51, R56, R145 to R147, R169, R170) through every
act, and with them through every step. -/

namespace Sys2Proof.Machine

/-! ## Replies owed (R144, R152, R157) -/

theorem ledger_eq {s u : State} (h : ledger u = ledger s) :
    u.link.passQueue = s.link.passQueue ∧ u.link.hold = s.link.hold ∧ u.link.reports = s.link.reports
      ∧ u.link.replies = s.link.replies ∧ u.link.owed = s.link.owed ∧ u.hub.agent = s.hub.agent
      ∧ u.hub.requests = s.hub.requests := by
  simpa only [ledger, Prod.mk.injEq, and_assoc] using h

theorem RepliesOwed.congr {s u : State} (h : RepliesOwed s) (replies : u.link.replies = s.link.replies)
    (owed : u.link.owed = s.link.owed) (agent : u.hub.agent = s.hub.agent) (requests : u.hub.requests = s.hub.requests) :
    RepliesOwed u := by
  unfold RepliesOwed at *
  rw [replies, owed, agent, requests]
  exact h

/-- R152: the request in decode is answered, and the oldest queued one is taken. -/
theorem RepliesOwed.answers {s : State} (h : RepliesOwed s) (payload : List Byte) (st : Status) (body : List Byte)
    (busy : ∃ p began, s.hub.agent = .decoding p began) : RepliesOwed (nextRequest (placeReply payload st body s)) := by
  obtain ⟨p, began, agent⟩ := busy
  obtain ⟨count, four, two, -⟩ := h
  rw [agent] at count
  unfold RepliesOwed
  cases requests : s.hub.requests with
  | nil =>
    rw [requests] at count
    simp [requests] at count ⊢
    omega
  | cons r rs =>
    rw [requests] at count two
    simp [requests] at count two ⊢
    omega

/-- R166: the RESTART is answered, and no queued request is taken. -/
theorem RepliesOwed.restarts {s : State} (h : RepliesOwed s) (tag : Byte) (busy : ∃ p began, s.hub.agent = .decoding p began) :
    RepliesOwed (restartTaken tag s) := by
  obtain ⟨p, began, agent⟩ := busy
  obtain ⟨count, four, two, -⟩ := h
  rw [agent] at count
  unfold RepliesOwed restartTaken
  simp at count ⊢
  omega

/-- R144, R157: a request handed on is owed a reply, in decode, in the queue or answered BUSY at once. -/
theorem RepliesOwed.requests {s : State} (h : RepliesOwed s) (payload : List Byte) : RepliesOwed (takeRequest payload s) := by
  unfold takeRequest
  split
  · exact h
  · rename_i fewer
    obtain ⟨count, four, two, idle⟩ := h
    unfold handOn handOn.queueRequest RepliesOwed
    cases agent : s.hub.agent with
    | idle =>
      rw [agent, idle agent] at count
      simp [agent, idle agent] at count ⊢
      omega
    | decoding | restarting =>
      rw [agent] at count
      simp only [withLink_hub, agent]
      split <;> simp [agent] at count ⊢ <;> omega

/-- R152, R153: a REPLY leaves its queue, or none does. -/
theorem consoleChoose_replies (s : State) :
    ((consoleChoose s).link.replies = s.link.replies ∧ (consoleChoose s).link.owed = s.link.owed)
      ∨ ∃ r, s.link.replies = r :: (consoleChoose s).link.replies ∧ (consoleChoose s).link.owed = s.link.owed - 1 := by
  unfold consoleChoose
  split <;> simp [*]

theorem RepliesOwed.consoleChooses {s : State} (h : RepliesOwed s) : RepliesOwed (consoleChoose s) := by
  rcases consoleChoose_replies s with ⟨replies, owed⟩ | ⟨r, replies, owed⟩
  · exact h.congr replies owed (by simp) (by simp)
  · obtain ⟨count, four, rest⟩ := h
    unfold RepliesOwed
    rw [replies, List.length_cons] at count
    rw [owed, consoleChoose_hub_agent, consoleChoose_hub_requests]
    exact ⟨by omega, by omega, rest⟩

/-! ## Resets (R155, R156, R166) -/

/-- Nothing waits and nothing is owed, as after a reset. -/
def DeskCleared (s : State) : Prop :=
  ledger s = (([], false, []), ([], 0), .idle, []) ∧ s.hub.notices = [] ∧ s.hub.seatChanges = []

theorem DeskCleared.owed {s : State} (h : DeskCleared s) : RepliesOwed s := by
  simp only [DeskCleared, ledger, Prod.mk.injEq, and_assoc] at h
  obtain ⟨-, -, -, replies, owed, agent, requests, -⟩ := h
  unfold RepliesOwed
  rw [replies, owed, agent, requests]
  exact ⟨rfl, by decide, by decide, fun _ => rfl⟩

theorem hardReset_cleared (strap : Bool) (flash : List Byte) (s : State) : DeskCleared (hardReset strap flash s) :=
  ⟨rfl, rfl, rfl⟩

theorem warmRestart_cleared (s : State) : DeskCleared (warmRestart s) := by
  simp [DeskCleared, ledger, warmRestart, placeBurst, LinkSwitch.restarted, Hub.restarted]

/-- R152, R157: every act keeps the count of replies owed. -/
theorem QueueAct.keeps_owed {s u : State} (act : QueueAct s u) (h : RepliesOwed s) : RepliesOwed u := by
  cases act with
  | keeps kept =>
    obtain ⟨-, -, -, replies, owed, agent, requests⟩ := ledger_eq kept.ledger
    exact h.congr replies owed agent requests
  | hardResets strap flash => exact (hardReset_cleared strap flash s).owed
  | warmRestarts => exact (warmRestart_cleared s).owed
  | offers f =>
    obtain ⟨-, kept⟩ := offerPass_offered f s
    obtain ⟨replies, owed⟩ := kept .replies (by decide)
    obtain ⟨agent, requests⟩ := kept .agent (by decide)
    exact h.congr replies owed agent requests
  | reports payload => unfold takeReport; split <;> exact h
  | requests payload => exact h.requests payload
  | answers payload st body busy => exact h.answers payload st body busy
  | restarts tag busy => exact h.restarts tag busy
  | wallChooses =>
    obtain ⟨-, replies, owed, -⟩ := wallChoose_console s
    exact h.congr replies owed (by simp) (by simp)
  | consoleChooses => exact h.consoleChooses

/-! ## Capacities (R51, R56, R145 to R147, R169, R170) -/

/-- R145, R146: the Pass Queue within its capacity, and HOLD as R146 leaves it. -/
def PassFits (l : LinkSwitch) : Prop :=
  l.passQueue.length ≤ 8 ∧ (6 ≤ l.passQueue.length → l.hold = true) ∧ (l.passQueue.length ≤ 2 → l.hold = false)

theorem queueBounds_iff (s : State) : QueueBounds s ↔
    PassFits s.link ∧ s.link.reports.length ≤ 2 ∧ noticeExcess s = 0 ∧ SeatListFits s ∧ PortsFit s.ports := by
  unfold QueueBounds PassFits SeatListFits PortsFit PortFits
  rw [noticeExcess_eq_zero]
  simp only [and_assoc]

theorem PassFits.congr {l m : LinkSwitch} (h : PassFits l) (queue : m.passQueue = l.passQueue) (hold : m.hold = l.hold) :
    PassFits m := by
  unfold PassFits; rw [queue, hold]; exact h

/-- R145, R146: HOLD is asserted as an arrival makes 6. -/
theorem offerPass_fits {s : State} (h : PassFits s.link) (f : Frame) : PassFits (offerPass f s).link := by
  obtain ⟨most, asserted, released⟩ := h
  unfold offerPass
  split
  · rename_i room
    simp only [withLink_link, PassFits, holdAfterArrival, List.length_append, List.length_singleton]
    refine ⟨by omega, fun many => ?_, fun few => ?_⟩
    · split
      · rfl
      · exact asserted (by omega)
    · rw [if_neg (by omega)]
      exact released (by omega)
  · exact ⟨most, asserted, released⟩

/-- R146: HOLD is released as a removal leaves 2. -/
theorem sendPassed_fits {s : State} {f : Frame} {queue : List Frame} (h : PassFits s.link) (oldest : s.link.passQueue = f :: queue) :
    PassFits (sendPassed f queue s).link := by
  obtain ⟨most, asserted, released⟩ := h
  rw [oldest, List.length_cons] at most asserted released
  simp only [sendPassed, withLink_link, PassFits, holdAfterRemoval]
  refine ⟨by omega, fun many => ?_, fun few => ?_⟩
  · rw [if_neg (by omega)]
    exact asserted (by omega)
  · split
    · rfl
    · exact released (by omega)

theorem wallChoose_fits {s : State} (h : PassFits s.link) : PassFits (wallChoose s).link := by
  unfold wallChoose
  split
  · exact h
  · exact h
  · split
    · exact h
    · exact sendPassed_fits h ‹_›
  · exact sendPassed_fits h ‹_›
  · exact h

/-- R153: the console-transmit arbiter takes from the queues alone. -/
theorem consoleChoose_shorter (s : State) : (consoleChoose s).link.reports.length ≤ s.link.reports.length
    ∧ noticeExcess (consoleChoose s) ≤ noticeExcess s := by
  unfold consoleChoose noticeExcess
  split <;> simp [*]
  omega

/-- What an act on the links alone leaves of the other queues. -/
theorem QueueBounds.of_links {s u : State} (h : QueueBounds s) (pass : PassFits s.link → PassFits u.link)
    (reports : s.link.reports.length ≤ 2 → u.link.reports.length ≤ 2) (excess : noticeExcess u ≤ noticeExcess s)
    (list : u.hub.seatChanges = s.hub.seatChanges) (ports : u.ports = s.ports) : QueueBounds u := by
  obtain ⟨p, r, n, l, f⟩ := (queueBounds_iff s).mp h
  exact (queueBounds_iff u).mpr ⟨pass p, reports r, Nat.le_zero.mp (n ▸ excess), l.congr list, ports ▸ f⟩

theorem DeskCleared.bounds {s : State} (h : DeskCleared s) (ports : PortsFit s.ports) : QueueBounds s := by
  obtain ⟨same, notices, list⟩ := h
  simp only [ledger, Prod.mk.injEq, and_assoc] at same
  obtain ⟨queue, hold, reports, -⟩ := same
  refine (queueBounds_iff s).mpr ⟨?_, ?_, ?_, seatListFits_of_nil list, ports⟩
  · unfold PassFits
    rw [queue, hold]
    exact ⟨by decide, by decide, fun _ => rfl⟩
  · rw [reports]; decide
  · rw [noticeExcess_eq_zero, notices]; decide

theorem hardReset_portsFit (strap : Bool) (flash : List Byte) (s : State) : PortsFit (hardReset strap flash s).ports := by
  intro p
  rw [show (hardReset strap flash s).ports[p] = Port.reset from replicate_get _ p]
  exact portFits_of_empty rfl rfl

/-- R60: a warm restart stops every port. -/
theorem warmRestart_portsFit (s : State) : PortsFit (warmRestart s).ports := by
  have ports : (warmRestart s).ports = (restartPorts (applyPending false (s.withNow 0))).ports := by simp [warmRestart]
  intro p
  rw [ports, restartPorts_port]
  exact portFits_of_empty rfl rfl

theorem takeReport_fits (payload : List Byte) (s : State) (h : s.link.reports.length ≤ 2) :
    (takeReport payload s).link.reports.length ≤ 2 := by
  unfold takeReport
  split
  · rename_i room
    simp only [withLink_link, List.length_append, List.length_singleton]
    omega
  · exact h

/-- R144, R157: a request handed on takes no room in the other queues. -/
theorem takeRequest_keeps (payload : List Byte) (s : State) :
    (takeRequest payload s).link.passQueue = s.link.passQueue ∧ (takeRequest payload s).link.hold = s.link.hold
      ∧ (takeRequest payload s).link.reports = s.link.reports ∧ (takeRequest payload s).hub.notices = s.hub.notices
      ∧ (takeRequest payload s).hub.seatChanges = s.hub.seatChanges := by
  unfold takeRequest
  split
  · exact ⟨rfl, rfl, rfl, rfl, rfl⟩
  · unfold handOn
    cases agent : s.hub.agent with
    | idle => simp [agent]
    | decoding | restarting =>
      simp only [withLink_hub, agent, handOn.queueRequest]
      split <;> simp

/-- R51, R56, R145 to R147, R169, R170: every act keeps every queue within its capacity. -/
theorem QueueAct.keeps_bounds {s u : State} (act : QueueAct s u) (h : QueueBounds s) : QueueBounds u := by
  cases act with
  | keeps kept =>
    obtain ⟨queue, hold, reports, -⟩ := ledger_eq kept.ledger
    obtain ⟨p, r, n, l, f⟩ := (queueBounds_iff s).mp h
    exact (queueBounds_iff u).mpr ⟨p.congr queue hold, reports ▸ r, kept.excess.trans n, kept.seatList l, kept.ports f⟩
  | hardResets strap flash => exact (hardReset_cleared strap flash s).bounds (hardReset_portsFit strap flash s)
  | warmRestarts => exact (warmRestart_cleared s).bounds (warmRestart_portsFit s)
  | offers f =>
    obtain ⟨-, kept⟩ := offerPass_offered f s
    exact h.of_links (offerPass_fits · f) (by rw [show _ = _ from kept .reports (by decide)]; exact id)
      (noticeExcess_congr (kept .notices (by decide))).le (kept .seatList (by decide)).1 (kept .ports (by decide))
  | reports payload =>
    have kept := takeReport_quiet payload s
    refine h.of_links ?_ (takeReport_fits payload s) ?_ ?_ (kept .ports (by decide)) <;> unfold takeReport
    · split <;> exact id
    · split <;> exact Nat.le_refl _
    · split <;> rfl
  | requests payload =>
    obtain ⟨queue, hold, reports, notices, list⟩ := takeRequest_keeps payload s
    exact h.of_links (·.congr queue hold) (by rw [reports]; exact id) (noticeExcess_congr notices).le list
      (takeRequest_quiet payload s .ports (by decide))
  | answers payload st body busy =>
    exact h.of_links (by simp [PassFits]) (by simp) (noticeExcess_congr (by simp)).le (by simp) (by simp)
  | restarts tag busy => exact h
  | wallChooses =>
    obtain ⟨-, -, -, reports⟩ := wallChoose_console s
    exact h.of_links wallChoose_fits (by rw [reports]; exact id) (noticeExcess_congr (by simp)).le (by simp) (by simp)
  | consoleChooses =>
    obtain ⟨-, -, queue, -, -, hold⟩ := consoleChoose_wall s
    obtain ⟨reports, excess⟩ := consoleChoose_shorter s
    exact h.of_links (·.congr queue hold) reports.trans excess (by simp) (by simp)

/-- Settles O57: both laws are kept by every act that a step is made of. -/
theorem everyStepKeepsTheQueuesWithinTheirCapacities : Obligations.EveryStepKeepsTheQueuesWithinTheirCapacities := fun _ _ h =>
  ⟨step_keeps_queueLaw (fun _ _ act => act.keeps_owed) h, step_keeps_queueLaw (fun _ _ act => act.keeps_bounds) h⟩

end Sys2Proof.Machine
end

section
/-! SUPPORT. WRITE_PORTCFG (R43, R44): the record as it is stored, and the change of a running port that is refused. -/

namespace Sys2Proof.Machine

/-- R44: the fields of a stored record, the period raised to the minimum that the slots of its positions need. -/
theorem portRecord_eq (r : List Byte) :
    portRecord r =
      { autostart := decide (r.getD 0 0 ≠ 0), positions := max 1 (min 64 (u8 r 1))
        period := max (max 8 (min 64 (u8 r 2))) ((16 + 2 * max 1 (min 64 (u8 r 1)) + 7) / 8), skew := u8 r 3 } := by
  simp only [portRecord, minPeriod, flagAt_eq, clampNat_eq (show 1 ≤ 64 by decide), clampNat_eq (show 8 ≤ 64 by decide)]

/-- R44: a change of the positions or of the period on a port that is not STOPPED. -/
def ChangesRunning (p : Fin 4) (new : PortCfg) (s : State) : Prop :=
  s.ports[p].state ≠ .stopped ∧ (new.positions ≠ s.ports[p].cfg.positions ∨ new.period ≠ s.ports[p].cfg.period)

theorem writePort_inUse {p : Fin 4} {r : List Byte} {s : State} (running : ChangesRunning p (portRecord r) s) :
    writePort p r s = (s, .inUse) := if_pos running

theorem writePort_stored {p : Fin 4} {r : List Byte} {s : State} (free : ¬ ChangesRunning p (portRecord r) s) :
    writePort p r s = (s.setPort p { s.ports[p] with cfg := portRecord r },
      storedStatus ((portRecord r).positions != u8 r 1 || (portRecord r).period != u8 r 2)) := if_neg free

/-- R44: the status of a stored record tells whether positions and period stand as written. -/
theorem portStatus (r : List Byte) (new : PortCfg) :
    storedStatus (new.positions != u8 r 1 || new.period != u8 r 2)
      = if new.positions = u8 r 1 ∧ new.period = u8 r 2 then .ok else .clamped := by
  refine storedStatus_eq ?_
  rw [Bool.or_eq_true, bne_iff_ne, bne_iff_ne]
  exact Decidable.not_and_iff_not_or_not.symm

/-- Settles O19. -/
theorem portConfigurationsAreCheckedAndClamped : Obligations.PortConfigurationsAreCheckedAndClamped := by
  intro tag first r p s len at_ e
  have hc : first.toNat < Table.portcfg.count := at_ ▸ p.isLt
  have owner : writeRecord .portcfg first.toNat r s = writePort p r s := by
    rw [← at_]; exact onIndex_val p _ s
  by_cases running : ChangesRunning p (portRecord r) s
  · obtain ⟨u, run, refused⟩ := write_refused len hc e (owner.trans (writePort_inUse running)) rfl
    rw [portRecord_eq] at running
    exact ⟨u, run, (if_pos running).mpr refused⟩
  · obtain ⟨u, run, wrote, kept⟩ := write_stored len hc e (owner.trans (writePort_stored running)) (storedStatus_stores _)
    have stored : u.ports = (s.setPort p { s.ports[p] with cfg := portRecord r }).ports := kept .ports (by simp)
    rw [portStatus] at wrote
    rw [portRecord_eq] at running wrote stored
    refine ⟨u, run, (if_neg running).mpr ⟨wrote, ?_, fun o ne => ?_, Keeps.then_reply [.ports] (fun b hb => ?_) kept⟩⟩
    · rw [stored, setPort_get, if_pos rfl]
    · rw [stored, setPort_get, if_neg ne]
    · cases b <;> simp [Block.same] at hb ⊢

end Sys2Proof.Machine
end

section
/-! SUPPORT. START, STOP and ROLL_CALL on a port (R45, R47, R54). -/

namespace Sys2Proof.Machine

/-! ## The port a request names (R162) -/

theorem onPort_val {p : Fin 4} {x : Byte} (at_ : p.val = x.toNat) (act : Fin 4 → State × Status) (s : State) :
    onPort x act s = act p := by
  unfold onPort
  rw [← at_, finOf_val]

theorem onPort_beyond {x : Byte} (beyond : ∀ p : Fin 4, p.val ≠ x.toNat) (act : Fin 4 → State × Status) (s : State) :
    onPort x act s = (s, .badValue) := by
  have none : finOf 4 x.toNat = none := dif_neg fun lt => beyond ⟨_, lt⟩ rfl
  unfold onPort
  rw [none]

/-! ## STOP (R36, R41, R47, R64) -/

/-- R47, R64: the port of a STOP, stopped, its Feedback Queue emptied and its history cleared; its seats still have their
presences. -/
def portStilled (p : Fin 4) (s : State) : State :=
  clearHistory p ((emptyFeedback p s).setPort p (emptyFeedback p s).ports[p].stopped)

theorem stopPort_eq (loud : Bool) (p : Fin 4) (s : State) : stopPort loud p s = absentPort loud p (portStilled p s) := rfl

theorem portStilled_seat (p : Fin 4) (s : State) (k : Fin 256) : (portStilled p s).seats[k]
    = { s.seats[k] with queued := s.seats[k].queued && !decide (portOf k = p ∧ posOf k ∈ s.ports[p].feedback) } := by
  unfold portStilled
  rw [clearHistory_seats, setPort_seats, emptyFeedback_seat]

theorem stopPort_seat (loud : Bool) (p : Fin 4) (s : State) (k : Fin 256) :
    (stopPort loud p s).seats[k] =
      if portOf k = p then
        { s.seats[k] with
          presence := .absent, missed := 0, battery := false
          queued := s.seats[k].queued && decide (posOf k ∉ s.ports[p].feedback) }
      else s.seats[k] := by
  rw [stopPort_eq, absentPort_seat, portStilled_seat]
  by_cases own : portOf k = p
  · simp only [own, true_and, if_true, decide_not]
  · simp only [own, false_and, if_false, decide_false, Bool.not_false, Bool.and_true]

/-- R64: every written flag of the port's Beacon History is cleared, and nothing else of the stamper changes. -/
theorem stopPort_stamper (loud : Bool) (p : Fin 4) (s : State) :
    (stopPort loud p s).stamper
      = { s.stamper with history := s.stamper.history.set p (Vector.replicate 16 none) } := by
  simp [stopPort_eq, portStilled, clearHistory]

theorem stoppedHistory_get (p o : Fin 4) (i : Fin 16) (v : Vector (Vector (Option Time) 16) 4) :
    (v.set p (Vector.replicate 16 none))[o][i] = if o = p then none else v[o][i] := by
  rw [vector_set_get]
  split
  · exact replicate_get _ i
  · rfl

/-- R36, R41, log entry 28: the SEAT events of the port's seats. -/
theorem stopPort_events (p : Fin 4) (s : State) :
    HubEvents (presenceEvents p .absent (fun _ => true) s) s (stopPort true p s) := by
  have absent := absentPort_hub p (portStilled p s) (s.withSeats (stopPort true p s).seats) (by simp [portStilled])
    (by simp [portStilled]) fun k _ => rfl
  have presences : presenceEvents p .absent (fun _ => true) (portStilled p s)
      = presenceEvents p .absent (fun _ => true) s := by
    unfold presenceEvents
    simp only [portStilled_seat]
  rw [presences] at absent
  exact hubEvents_of absent

theorem stopPort_keeps (p : Fin 4) (s : State) :
    Keeps [.ports, .stamper, .seats, .seatList, .notices, .noticeLost] s (stopPort true p s) := by
  intro b hb
  cases b <;> simp [Block.same] at hb ⊢

/-- The events of an action stand as its REPLY is placed. -/
theorem HubEvents.then_reply {events : List HubEvent} {s v u : State} (h : HubEvents events s v)
    (kept : Keeps [.replies, .agent] v u) : HubEvents events s u := by
  obtain ⟨list, timer⟩ := kept .seatList (by decide)
  unfold HubEvents at h ⊢
  dsimp only at h ⊢
  rw [show u.seats = v.seats from kept .seats (by decide), show u.hub.notices = v.hub.notices from kept .notices (by decide),
    show u.hub.noticeLost = v.hub.noticeLost from kept .noticeLost (by decide), list, timer]
  exact h

/-! ## START and ROLL_CALL (R45, R54) -/

theorem startPort_stopped {p : Fin 4} {s : State} (h : s.ports[p].state = .stopped) : startPort p s = (wakePort p s, .ok) :=
  if_pos h

theorem startPort_badState {p : Fin 4} {s : State} (h : s.ports[p].state ≠ .stopped) : startPort p s = (s, .badState) :=
  if_neg h

theorem rollCall_badState {p : Fin 4} {s : State} (h : s.ports[p].state ≠ .sweeping) : rollCall p s = (s, .badState) :=
  if_pos h

theorem rollCall_busy {p : Fin 4} {s : State} (sweeping : ¬ s.ports[p].state ≠ .sweeping) (roll : s.ports[p].roll.isSome = true) :
    rollCall p s = (s, .busy) := by
  unfold rollCall
  rw [if_neg sweeping, if_pos roll]

theorem rollCall_started {p : Fin 4} {s : State} (sweeping : ¬ s.ports[p].state ≠ .sweeping)
    (roll : ¬ s.ports[p].roll.isSome = true) : rollCall p s = (startRoll p s, .ok) := by
  unfold rollCall
  rw [if_neg sweeping, if_neg roll]

theorem setPort_keeps (p : Fin 4) (x : Port) (s : State) : Keeps [.ports] s (s.setPort p x) := by
  intro b hb
  cases b <;> simp [Block.same] at hb ⊢

/-- An action that gives one port a new record is executed, and no other port changes. -/
theorem act_setsPort {c : Instr} {payload : List Byte} {act : State → State × Status} {s : State} {p : Fin 4} {x : Port}
    (run : exec c s = runAction payload act s) (e : Executing payload s) (fits : payloadFits payload = true)
    (gives : act s = (s.setPort p x, .ok)) :
    ∃ u, exec c s = .next (settleLinks u) ∧ Replied [payload.getD 0 0, payload.getD 1 0, 0] s u ∧ u.ports[p] = x
      ∧ (∀ o : Fin 4, o ≠ p → u.ports[o] = s.ports[o]) ∧ Keeps [.ports, .replies, .agent] s u := by
  have alone := setPort_keeps p x s
  obtain ⟨u, run, replied, kept⟩ := act_completes run e fits gives (alone.desk (by decide) (by decide) (by decide))
  have ports : u.ports = (s.setPort p x).ports := kept .ports (by decide)
  refine ⟨u, run, replied, ?_, fun o ne => ?_, alone.then_reply [.ports] kept⟩
  · rw [ports, setPort_get, if_pos rfl]
  · rw [ports, setPort_get, if_neg ne]

/-- Settles O30, by the request and the state of its port. -/
theorem startStopAndRollCallObeyThePortState : Obligations.StartStopAndRollCallObeyThePortState := by
  intro tag x s
  refine ⟨fun beyond => ⟨fun e => ?_, fun e => ?_, fun e => ?_⟩, fun p at_ => ⟨fun e => ?_, fun e => ?_, fun e => ?_⟩⟩
  · exact act_refuses (c := .portStart tag x) rfl e rfl (onPort_beyond beyond _ s)
  · exact act_refuses (c := .portStop tag x) rfl e rfl (onPort_beyond beyond _ s)
  · exact act_refuses (c := .portRollCall tag x) rfl e rfl (onPort_beyond beyond _ s)
  · by_cases stopped : s.ports[p].state = .stopped
    · obtain ⟨u, run, woken⟩ := act_setsPort (c := .portStart tag x) rfl e rfl
        ((onPort_val at_ _ s).trans (startPort_stopped stopped))
      exact ⟨u, run, (if_pos stopped).mpr woken⟩
    · obtain ⟨u, run, refused⟩ := act_refuses (c := .portStart tag x) rfl e rfl
        ((onPort_val at_ _ s).trans (startPort_badState stopped))
      exact ⟨u, run, (if_neg stopped).mpr refused⟩
  · have alone := stopPort_keeps p s
    obtain ⟨u, run, replied, kept⟩ := act_completes (c := .portStop tag x) rfl e rfl (onPort_val at_ _ s)
      (alone.desk (by decide) (by decide) (by decide))
    have ports : u.ports = (stopPort true p s).ports := kept .ports (by decide)
    have seats : u.seats = (stopPort true p s).seats := kept .seats (by decide)
    have stamper := (show u.stamper = (stopPort true p s).stamper from kept .stamper (by decide)).trans (stopPort_stamper true p s)
    refine ⟨u, run, replied, ?_, fun o ne => ?_, ?_, ?_, fun o i => ?_, fun k => ?_, (stopPort_events p s).then_reply kept,
      alone.then_reply _ kept⟩
    · rw [ports, stopPort_port, if_pos rfl]; rfl
    · rw [ports, stopPort_port, if_neg ne]
    · rw [stamper]
    · rw [stamper]
    · rw [stamper]; exact stoppedHistory_get p o i _
    · rw [seats, stopPort_seat]
  · by_cases idle : s.ports[p].state ≠ .sweeping
    · obtain ⟨u, run, refused⟩ := act_refuses (c := .portRollCall tag x) rfl e rfl
        ((onPort_val at_ _ s).trans (rollCall_badState idle))
      exact ⟨u, run, (if_pos idle).mpr refused⟩
    by_cases running : s.ports[p].roll.isSome = true
    · obtain ⟨u, run, refused⟩ := act_refuses (c := .portRollCall tag x) rfl e rfl
        ((onPort_val at_ _ s).trans (rollCall_busy idle running))
      exact ⟨u, run, (if_neg idle).mpr ((if_pos running).mpr refused)⟩
    · obtain ⟨u, run, started⟩ := act_setsPort (c := .portRollCall tag x) rfl e rfl
        ((onPort_val at_ _ s).trans (rollCall_started idle running))
      exact ⟨u, run, (if_neg idle).mpr ((if_neg running).mpr started)⟩

end Sys2Proof.Machine
end

section
/-! SUPPORT. The beacons of the wake timer's expiry and of a sweep start (R46, R48, R51 to R53). -/

namespace Sys2Proof.Machine

/-! ## The positions a beacon takes from the queue (R51, R52) -/

theorem mem_take_iff_of_nodup {α : Type} {l : List α} (nodup : l.Nodup) (n : Nat) (a : α) :
    a ∈ l.take n ↔ a ∈ l ∧ a ∉ l.drop n := by
  constructor
  · exact fun taken => ⟨List.mem_of_mem_take taken, fun left => List.disjoint_take_drop nodup (Nat.le_refl n) taken left⟩
  · rintro ⟨mem, left⟩
    rw [← List.take_append_drop n l, List.mem_append] at mem
    exact mem.resolve_right left

/-- R51, R52: the positions that the queue no longer holds are no longer queued. -/
theorem startSweep_unqueued {p : Fin 4} {s : State} (nodup : s.ports[p].feedback.Nodup) (k : Fin 256) :
    (startSweep p s).seats[k] = { s.seats[k] with
      queued := s.seats[k].queued && !decide (portOf k = p ∧ posOf k ∈ s.ports[p].feedback
        ∧ posOf k ∉ (startSweep p s).ports[p].feedback) } := by
  have left : (startSweep p s).ports[p].feedback = s.ports[p].feedback.drop s.ports[p].queueRoom := by
    rw [startSweep_port, if_pos rfl, Port.afterBeacon_eq]
  simp only [startSweep_seat, left, mem_take_iff_of_nodup nodup]

theorem startSweep_keeps (p : Fin 4) (s : State) : Keeps [.ports, .seats, .stamper] s (startSweep p s) := by
  intro b hb
  cases b <;> simp [Block.same] at hb ⊢

/-! ## A port that wakes (R46, R53, R54) -/

/-- R46: the state in which a woken port sends its first beacon: a roll call and a lamp sweep have started. -/
def portWoken (p : Fin 4) (s : State) : State :=
  startLampSweep p (startRoll p (s.setPort p { s.ports[p] with state := .sweeping, wakeTimer := none }))

theorem enterSweeping_sends (p : Fin 4) (s : State) : enterSweeping p s = startSweep p (portWoken p s) := rfl

theorem portWoken_port (p o : Fin 4) (s : State) :
    (portWoken p s).ports[o] = if o = p then wokenPort s.ports[p] else s.ports[o] := by
  unfold portWoken startRoll
  by_cases own : o = p
  · simp only [startLampSweep_port, setPort_get, if_true, own, wokenPort]
  · simp only [startLampSweep_port, setPort_get, if_neg own]

/-- R53: the lamp sweep empties the Feedback Queue. -/
theorem portWoken_seat (p : Fin 4) (s : State) (k : Fin 256) : (portWoken p s).seats[k]
    = { s.seats[k] with queued := s.seats[k].queued && !decide (portOf k = p ∧ posOf k ∈ s.ports[p].feedback) } := by
  unfold portWoken startRoll
  simp only [startLampSweep_seat, setPort_seats, setPort_get, if_true]

theorem portWoken_keeps (p : Fin 4) (s : State) : Keeps [.ports, .seats] s (portWoken p s) := by
  intro b hb
  cases b <;> simp [portWoken, startRoll, Block.same] at hb ⊢

/-- R46: the first beacon of a woken port. -/
theorem enterSweeping_sent {p : Fin 4} {s : State} (least : 1 ≤ s.ports[p].cfg.positions)
    (most : s.ports[p].cfg.positions ≤ 64) : BeaconSent p (wokenPort s.ports[p]) s (enterSweeping p s) := by
  have kept := portWoken_keeps p s
  have own : (portWoken p s).ports[p] = wokenPort s.ports[p] := (portWoken_port p p s).trans (if_pos rfl)
  have positions : (portWoken p s).ports[p].cfg.positions = s.ports[p].cfg.positions := congrArg (·.cfg.positions) own
  rw [enterSweeping_sends, ← own]
  refine startSweep_sent p s (portWoken p s) (positions ▸ least) (positions ▸ most) (kept .now (by decide))
    (kept .round (by decide)) (kept .questions (by decide)) (kept .stamper (by decide)) (fun o ne => ?_) (fun k => ?_)
  · rw [portWoken_port, if_neg ne]
  · rw [portWoken_seat]; exact ⟨rfl, rfl⟩

/-- R51, R53: the first beacon takes nothing from the queue that the lamp sweep has emptied. -/
theorem enterSweeping_seat (p : Fin 4) (s : State) (k : Fin 256) : (enterSweeping p s).seats[k]
    = { s.seats[k] with queued := s.seats[k].queued && !decide (portOf k = p ∧ posOf k ∈ s.ports[p].feedback) } := by
  have empty : (portWoken p s).ports[p].feedback = [] := by rw [portWoken_port, if_pos rfl, wokenPort]
  rw [enterSweeping_sends, startSweep_seat, empty, portWoken_seat]
  simp only [List.take_nil, List.not_mem_nil, and_false, decide_false, Bool.not_false, Bool.and_true]

/-! ## When they happen (R46, R48) -/

theorem wakeDue_expired {p : Fin 4} {e : Time} {s : State} (waking : s.ports[p].state = .waking)
    (timer : s.ports[p].wakeTimer = some e) (past : 0 ≤ since s.now e) : wakeDue p s = true := by
  unfold wakeDue
  rw [waking, timer, expired_some past]
  rfl

theorem Port.betweenSweeps_of_ended {x : Port} (ended : ∀ sw, x.sweep = some sw → sw.ended = true) : x.betweenSweeps = true := by
  unfold Port.betweenSweeps
  split
  · exact ended _ ‹_›
  · rfl

theorem sweepStartDue_expired {p : Fin 4} {e : Time} {s : State} (sweeping : s.ports[p].state = .sweeping)
    (timer : s.ports[p].sweepTimer = some e) (ended : ∀ sw, s.ports[p].sweep = some sw → sw.ended = true)
    (past : 0 ≤ since s.now e) : sweepStartDue p s = true := by
  unfold sweepStartDue
  rw [sweeping, timer, expired_some past, Port.betweenSweeps_of_ended ended]
  rfl

/-- Settles O31. -/
theorem wakingPortsAndSweepStartsSendABeacon : Obligations.WakingPortsAndSweepStartsSendABeacon := by
  intro p e s least most past nodup
  refine ⟨fun waking timer => ?_, fun sweeping timer ended => ?_⟩
  · refine whenDue_completes (c := .wakeTimerExpiry p) (event := enterSweeping p) rfl (wakeDue_expired waking timer past)
      ⟨enterSweeping_sent least most, enterSweeping_seat p s, ?_⟩
    exact ((portWoken_keeps p s).mono (by decide)).trans (startSweep_keeps p (portWoken p s))
  · exact whenDue_completes (c := .sweepStart p) (event := startSweep p) rfl
      (sweepStartDue_expired sweeping timer ended past)
      ⟨startSweep_sent p s s least most rfl rfl rfl rfl (fun _ _ => rfl) (fun _ => ⟨rfl, rfl⟩), startSweep_unqueued nodup,
        startSweep_keeps p s⟩

end Sys2Proof.Machine
end

section
/-! SUPPORT. The reception of a handset frame (R55, R56, R177): the start marks that are heard, the three tests, and the fields of
a good frame. -/

namespace Sys2Proof.Machine

/-! ## SLOT (R55) -/

/-- R55, log entry 10: the start marks that are not hunted for: within the beacon, or before the port entered SWEEPING. -/
theorem hears_iff (sw : Sweep) (start : Time) : sw.hears start = true ↔
    (since start sw.departure < 0 ∧ sw.first = false) ∨ 5 ≤ since start sw.departure := by
  unfold Sweep.hears beaconTicks
  rw [Bool.or_eq_true, Bool.and_eq_true, Bool.not_eq_true', decide_eq_true_eq, decide_eq_true_eq, and_comm, or_comm]

section
variable {x : Port} {sw : Sweep} {start last now : Time} {bytes : List Byte}

theorem receive_notSweeping (still : x.state ≠ .sweeping) : x.receive start last bytes now = x := by
  unfold Port.receive
  split
  · exact absurd ‹_› still
  · rfl

theorem receive_unheard (runs : x.sweep = some sw) (unheard : ¬ sw.hears start = true) :
    x.receive start last bytes now = x := by
  unfold Port.receive
  rw [runs]
  split
  · rename_i same
    obtain rfl := Option.some.inj same
    exact if_neg unheard
  · rfl

theorem receive_heard (sweeping : x.state = .sweeping) (runs : x.sweep = some sw) (heard : sw.hears start = true) :
    x.receive start last bytes now = match slotOf x.cfg.positions sw.departure start last with
      | none => { x with flagSlot := true }
      | some pos => if pos ∈ sw.usedSlots then { x with flagSlot := true } else x.slotFrame sw pos bytes now := by
  unfold Port.receive
  rw [sweeping, runs]
  exact if_pos heard

/-- R55: a frame of no slot, or of a slot that has had one, sets SLOT. -/
theorem receive_slotless (sweeping : x.state = .sweeping) (runs : x.sweep = some sw) (heard : sw.hears start = true)
    (none : ∀ n, slotOf x.cfg.positions sw.departure start last = some n → n ∈ sw.usedSlots) :
    x.receive start last bytes now = { x with flagSlot := true } := by
  rw [receive_heard sweeping runs heard]
  split
  · rfl
  · exact if_pos (none _ ‹_›)

/-- R55: a frame that passes SLOT. -/
theorem receive_slotted {n : Fin 64} (sweeping : x.state = .sweeping) (runs : x.sweep = some sw) (heard : sw.hears start = true)
    (slot : slotOf x.cfg.positions sw.departure start last = some n) (free : n ∉ sw.usedSlots) :
    x.receive start last bytes now = x.slotFrame sw n bytes now := by
  rw [receive_heard sweeping runs heard, slot]
  exact if_neg free

/-! ## LENGTH and CHECK (R55, R56) -/

theorem slotFrame_badLength {n : Fin 64} (bad : ¬ handsetLengthGood bytes = true) : x.slotFrame sw n bytes now
    = { x with sweep := some { sw with usedSlots := n :: sw.usedSlots }, flagLength := true } := by
  unfold Port.slotFrame
  rw [Bool.eq_false_iff.mpr bad]
  rfl

theorem slotFrame_badCheck {n : Fin 64} (length : handsetLengthGood bytes = true) (bad : ¬ handsetCheckGood bytes = true) :
    x.slotFrame sw n bytes now
      = { x with sweep := some { sw with usedSlots := n :: sw.usedSlots }, flagCheck := true } := by
  unfold Port.slotFrame
  rw [length, Bool.eq_false_iff.mpr bad]
  rfl

/-- R50, R56: a good frame enters the Inbox, and a HELLO is noted for the end-of-sweep report. -/
theorem slotFrame_good {n : Fin 64} (length : handsetLengthGood bytes = true) (check : handsetCheckGood bytes = true) :
    x.slotFrame sw n bytes now = { x with
      sweep := some { sw with
        usedSlots := n :: sw.usedSlots, hellos := if u8 bytes 0 = 1 then n :: sw.hellos else sw.hellos }
      inbox := (if x.inbox.length < 4 then x.inbox else x.inbox.dropLast)
        ++ [⟨readHandset bytes, n, now, sw.beacon.sequence, sw.departure, decide (4 ≤ x.inbox.length)⟩]
      flagOverrun := x.flagOverrun || decide (4 ≤ x.inbox.length) } := by
  unfold Port.slotFrame
  rw [length, check]
  exact Port.enterInbox_eq _ _

end

/-! ## The fields of a good frame (R177) -/

theorem readHandset_hello {bytes : List Byte} (kind : u8 bytes 0 = 1) :
    readHandset bytes = .hello (bytes.getD 1 0) (decide (bytes.getD 2 0 ≠ 0)) := by
  simp only [readHandset, kind, flagAt_eq]

theorem readHandset_press {bytes : List Byte} (kind : u8 bytes 0 = 2) :
    ∃ (m : Fin 4) (r : Fin 16), m.val = u8 bytes 2 % 4 ∧ r.val = u8 bytes 3 % 16
      ∧ readHandset bytes = .press (bytes.getD 1 0) m r (min (u16 bytes 4) 4095) := by
  unfold readHandset
  rw [kind]
  exact ⟨_, _, rfl, rfl, rfl⟩

theorem readHandset_digits {bytes : List Byte} (kind : u8 bytes 0 = 3) :
    ∃ (m : Fin 4) (r : Fin 16), m.val = u8 bytes 3 % 4 ∧ r.val = u8 bytes 4 % 16
      ∧ readHandset bytes = .digits (u16 bytes 1) m r (min (u16 bytes 5) 4095) := by
  unfold readHandset
  rw [kind]
  exact ⟨_, _, rfl, rfl, rfl⟩

/-- A port given the record it has is unchanged. -/
theorem setPort_self_keeps (p : Fin 4) (s : State) : Keeps [] s (s.setPort p s.ports[p]) := by
  have ports : (s.setPort p s.ports[p]).ports = s.ports := Vector.set_getElem_self p.isLt
  intro b hb
  cases b <;> simp [Block.same]
  exact ports

/-- Settles O33, by the tests in their order. -/
theorem receptionsAreCheckedInOrder : Obligations.ReceptionsAreCheckedInOrder := by
  refine ⟨fun p start last bytes s still => ⟨_, rfl, ?_⟩, fun p start last bytes sw s sweeping runs most => ⟨_, rfl,
    fun o ne => ?_, setPort_keeps p _ s, fun silent => ?_, fun heard taken => ?_, fun n fits free => ?_⟩⟩
  · rw [receive_notSweeping still]
    exact setPort_self_keeps p s
  · rw [setPort_get, if_neg ne]
  · have unheard : ¬ sw.hears start = true := by
      rw [hears_iff]
      rintro (⟨before, first⟩ | after)
      · rcases silent with within | ⟨-, entered⟩
        · omega
        · rw [first] at entered; cases entered
      · omega
    rw [setPort_get, if_pos rfl, receive_unheard runs unheard]
  · rw [setPort_get, if_pos rfl]
    exact receive_slotless sweeping runs ((hears_iff sw start).mpr heard)
      fun n slot => taken n ((slotOf_some _ most _ _ _ n).mp slot)
  · have heard : sw.hears start = true := (hears_iff sw start).mpr (.inr (by omega))
    have slotted := receive_slotted (now := s.now) (bytes := bytes) sweeping runs heard
      ((slotOf_some _ most _ _ _ n).mpr fits) free
    rw [setPort_get, if_pos rfl, slotted]
    refine ⟨fun bad => ?_, fun length bad => ?_, fun length check => ?_⟩
    · exact slotFrame_badLength fun good => bad ((handsetLengthGood_iff bytes).mp good)
    · exact slotFrame_badCheck ((handsetLengthGood_iff bytes).mpr length) fun good => bad ((handsetCheckGood_iff bytes).mp good)
    · exact ⟨⟨readHandset bytes, n, s.now, sw.beacon.sequence, sw.departure, decide (4 ≤ s.ports[p].inbox.length)⟩, rfl,
        readHandset_hello, readHandset_press, readHandset_digits,
        slotFrame_good ((handsetLengthGood_iff bytes).mpr length) ((handsetCheckGood_iff bytes).mpr check)⟩

end Sys2Proof.Machine
end

section
/-! SUPPORT. The Press Stamper takes an entry (R65 to R71): the port that the arbiter serves, and the entry's stamp. -/

namespace Sys2Proof.Machine

/-! ## The arbiter (R66) -/

/-- In a list whose keys rise, a member that passes the test at the least key of all that pass is the one found. -/
theorem find?_of_least_key {α : Type} {key : α → Nat} {test : α → Bool} {x : α} {l : List α}
    (rising : l.Pairwise fun a b => key a < key b) (mem : x ∈ l) (passes : test x = true)
    (least : ∀ y ∈ l, test y = true → key x ≤ key y) : l.find? test = some x := by
  induction l with
  | nil => cases mem
  | cons a l ih =>
    obtain ⟨above, rising⟩ := List.pairwise_cons.mp rising
    rcases List.mem_cons.mp mem with rfl | later
    · exact List.find?_cons_of_pos passes
    · have fails : ¬ test a = true := fun ok => Nat.not_le_of_lt (above x later) (least a List.mem_cons_self ok)
      rw [List.find?_cons_of_neg fails]
      exact ih rising later fun y hy => least y (List.mem_cons_of_mem a hy)

/-- R66: the ports in the order in which the arbiter tries them, each at its distance from the first. -/
theorem serviceOrder_rising (last : Fin 4) :
    [last + 1, last + 2, last + 3, last].Pairwise fun a b => (a - last - 1).val < (b - last - 1).val := by
  revert last; decide

theorem mem_serviceOrder (last p : Fin 4) : p ∈ [last + 1, last + 2, last + 3, last] := by
  revert last p; decide

theorem arbiterChoice_of_first {p : Fin 4} {s : State} (holds : s.ports[p].inbox ≠ [])
    (first : ∀ o : Fin 4, s.ports[o].inbox ≠ [] →
      (p - s.stamper.lastServed - 1).val ≤ (o - s.stamper.lastServed - 1).val) :
    arbiterChoice s = some p :=
  find?_of_least_key (serviceOrder_rising _) (mem_serviceOrder _ p) (decide_eq_true holds)
    fun o _ entry => first o (of_decide_eq_true entry)

/-! ## The stamp (R68 to R71) -/

theorem since_self (a : Time) : since a a = 0 := by simp [since]

theorem validReference_of_recent {p : Fin 4} {e : InboxEntry} {r : Fin 16} {b : Time} {s : State}
    (written : s.stamper.history[p][r] = some b) (recent : (e.sequence - r).val ≤ 7) (sent : since b e.departure ≤ 0) :
    validReference p e r s = some b := by
  unfold validReference
  rw [written]
  exact if_pos ⟨recent, sent⟩

theorem validReference_of_stale {p : Fin 4} {e : InboxEntry} {r : Fin 16} {s : State}
    (stale : ∀ b, s.stamper.history[p][r] = some b → 7 < (e.sequence - r).val ∨ 0 < since b e.departure) :
    validReference p e r s = none := by
  unfold validReference
  split
  · rename_i b written
    refine if_neg fun ⟨recent, sent⟩ => ?_
    rcases stale b written with old | future <;> omega
  · rfl

/-- R69, R70: the raw time of a press, from the departure that its reference stands for or, when it is none, from the arrival's. -/
def rawTime (p : Fin 4) (e : InboxEntry) (reference : Option Time) (offset : Nat) (s : State) : Time :=
  match reference with
  | some b => after (after b s.ports[p].cfg.skew) offset
  | none => after e.departure s.ports[p].cfg.skew

/-- R71: a raw time after the arrival becomes the arrival. -/
theorem stampTime_clamped (p : Fin 4) (e : InboxEntry) (r : Fin 16) (offset : Nat) (s : State) :
    ∃ time clamped, stampTime p e r offset s = (time, ⟨(validReference p e r s).isNone, clamped, e.overrun⟩)
      ∧ since time e.arrival ≤ 0
      ∧ if since (rawTime p e (validReference p e r s) offset s) e.arrival ≤ 0 then
          time = rawTime p e (validReference p e r s) offset s ∧ clamped = false
        else time = e.arrival ∧ clamped = true := by
  by_cases early : since (rawTime p e (validReference p e r s) offset s) e.arrival ≤ 0
  · exact ⟨_, false, if_pos early, early, (if_pos early).mpr ⟨rfl, rfl⟩⟩
  · exact ⟨e.arrival, true, if_neg early, (since_self _).le, (if_neg early).mpr ⟨rfl, rfl⟩⟩

/-! ## The entry taken (R65, R67) -/

theorem takeEntry_of_cons {p : Fin 4} {e : InboxEntry} {rest : List InboxEntry} {s : State}
    (held : s.ports[p].inbox = e :: rest) :
    takeEntry p s = (s.setPort p { s.ports[p] with inbox := rest }).withStamper
      { s.stamper with lastServed := p, inHand := some ⟨p, e.position, e.frame, stampOf p e s⟩ } := by
  unfold takeEntry
  rw [held]

theorem takeEntry_keeps (p : Fin 4) (s : State) : Keeps [.ports, .stamper] s (takeEntry p s) := by
  intro b hb
  cases b <;> simp [Block.same] at hb ⊢

theorem execInboxTake_of_choice {p : Fin 4} {s : State} (free : s.stamper.inHand = none)
    (choice : arbiterChoice s = some p) : exec .inboxTake s = .next (settleLinks (takeEntry p s)) := by
  show execInboxTake s = finish (takeEntry p s)
  unfold execInboxTake
  rw [free, choice]

theorem stampOf_hello {p : Fin 4} {e : InboxEntry} {s : State} (hello : ∃ cls battery, e.frame = .hello cls battery) :
    stampOf p e s = none := by
  obtain ⟨cls, battery, frame⟩ := hello
  unfold stampOf
  rw [frame]

theorem stampOf_press {p : Fin 4} {e : InboxEntry} {r : Fin 16} {offset : Nat} {s : State}
    (press : (∃ key n, e.frame = .press key n r offset) ∨ ∃ v n, e.frame = .digits v n r offset) :
    stampOf p e s = some (stampTime p e r offset s) := by
  unfold stampOf
  rcases press with ⟨key, n, frame⟩ | ⟨v, n, frame⟩ <;> rw [frame]

/-- Settles O35, from the port served and the validity of the entry's reference. -/
theorem pressesAreStampedNoLaterThanTheirArrival : Obligations.PressesAreStampedNoLaterThanTheirArrival := by
  intro p e rest s free held first
  have choice : arbiterChoice s = some p := arbiterChoice_of_first (by rw [held]; exact List.cons_ne_nil e rest) first
  have taken := takeEntry_of_cons held
  refine ⟨takeEntry p s, execInboxTake_of_choice free choice, ?_, fun o ne => ?_, takeEntry_keeps p s, stampOf p e s, ?_,
    stampOf_hello, fun r offset press => ?_⟩
  · rw [taken, withStamper_ports, setPort_get, if_pos rfl]
  · rw [taken, withStamper_ports, setPort_get, if_neg ne]
  · rw [taken, withStamper_stamper]
  · obtain ⟨time, clamped, stamp, bound, clamp⟩ := stampTime_clamped p e r offset s
    refine ⟨_, time, _, clamped, (stampOf_press press).trans (congrArg some stamp), bound, clamp, fun b written recent sent => ?_,
      fun stale => ?_⟩
    · rw [validReference_of_recent written recent sent]
      exact ⟨rfl, rfl⟩
    · rw [validReference_of_stale stale]
      exact ⟨rfl, rfl⟩

end Sys2Proof.Machine
end

section
/-! SUPPORT. The show time (R61): what the tables, the load, the links and the cues leave of it, and what a warm restart sets it to. -/

namespace Sys2Proof.Machine

/-! ## The tables and the Preset Loader (10.2, chapter 11) -/

theorem recordOutcomes_now (t : Table) (i : Nat) (records : List (List Byte)) (s : State) :
    (recordOutcomes t i records s).2.now = s.now :=
  recordOutcomes_invariant t (fun u => u.now = s.now) (fun i r u h => by simpa using h) records i s rfl

@[simp] theorem walkSection_now (s : State) : (walkSection s).now = s.now := by
  obtain ⟨u, e, -, rfl | ⟨t, i, rs, rfl⟩⟩ := walkSection_cases s
  · rw [e, withLoader_now]
  · rw [e, withLoader_now, recordOutcomes_now]

@[simp] theorem resetTables_now (s : State) : (resetTables s).now = s.now := by
  have seats := foldl_keeps (fun s k => assignTeam k none s) State.now (by intros; simp) (List.finRange 256) s
  have teams := foldl_keeps (fun s t => storeTeam t Team.reset s) State.now (by intros; simp) (List.finRange 16)
  simpa [resetTables] using (teams _).trans seats

@[simp] theorem autostart_now (s : State) : (autostart s).now = s.now :=
  foldl_keeps _ State.now (by intro s p; split <;> simp) _ _

@[simp] theorem endLoad_now (r : LoadResult) (s : State) : (endLoad r s).now = s.now := by
  rw [endLoad_eq]
  cases r <;> simp [loadAction]

@[simp] theorem reloadAction_now (flash : List Byte) (s : State) : (reloadAction flash s).1.now = s.now := by
  unfold reloadAction; split <;> rfl

@[simp] theorem executeRead_now (t : Table) (tag first count : Byte) (s : State) :
    (executeRead t tag first count s).state.now = s.now := by
  unfold executeRead; split <;> simp [notExecuted]

@[simp] theorem executeWrite_now (t : Table) (tag first : Byte) (records : List Byte) (s : State) :
    (executeWrite t tag first records s).state.now = s.now := by
  unfold executeWrite
  dsimp only
  split
  · rfl
  · rw [writeRecords_outcomes]
    exact recordOutcomes_now _ _ _ _

/-! ## The links and the cues (1.3, chapter 9) -/

@[simp] theorem receiveOn_now (link : Link) (start : Time) (bytes : List Heard) (broken : Bool) (s : State) :
    (receiveOn link start bytes broken s).now = s.now := by
  cases link <;> rfl

@[simp] theorem discardFrame_now (link : Link) (start : Time) (bytes : List Heard) (broken : Bool) (s : State) :
    (discardFrame link start bytes broken s).now = s.now := receiveOn_now link start bytes broken _

@[simp] theorem offerPass_now (f : Frame) (s : State) : (offerPass f s).now = s.now := by
  unfold offerPass; split <;> rfl

@[simp] theorem takeReport_now (payload : List Byte) (s : State) : (takeReport payload s).now = s.now := by
  unfold takeReport; split <;> rfl

@[simp] theorem handOn_now (payload : List Byte) (s : State) : (handOn payload s).now = s.now := by
  have queued : (handOn.queueRequest payload s).now = s.now := by
    unfold handOn.queueRequest; split <;> simp
  unfold handOn
  split
  · rfl
  · exact queued
  · exact queued

@[simp] theorem takeRequest_now (payload : List Byte) (s : State) : (takeRequest payload s).now = s.now := by
  unfold takeRequest; split <;> simp

@[simp] theorem endWallFrame_now (t : WallTx) (s : State) : (endWallFrame t s).now = s.now := by
  unfold endWallFrame; dsimp only; split <;> rfl

theorem cueAction_now (a : CueAction) (x : Byte) (s : State) : (cueAction a x s).1.now = s.now := by
  cases a <;> simp [cueAction]

@[simp] theorem runCue_now (c : CueEntry) (s : State) : (runCue c s).now = s.now := by
  unfold runCue
  dsimp only
  (repeat' split) <;> simp [cueAction_now]

@[simp] theorem takeCue_now (payload : List Byte) (s : State) : (takeCue payload s).now = s.now := by
  unfold takeCue; (repeat' split) <;> simp

/-! ## Requests (R157, R158, R162) -/

theorem onPort_now {port : Byte} {act : Fin 4 → State × Status} {s : State} (h : ∀ p, (act p).1.now = s.now) :
    (onPort port act s).1.now = s.now := by
  unfold onPort
  split
  · exact h _
  · rfl

@[simp] theorem restartTaken_now (tag : Byte) (s : State) : (restartTaken tag s).now = s.now :=
  placeReply_now s [tag, 8] .ok []

/-! ## The warm restart (R61, R166) -/

/-- R61: the show time of a warm restart is 0. -/
theorem warmRestart_now (s : State) : (warmRestart s).now = 0 := by simp [warmRestart]

theorem restartEnding_of_reply {tag : Byte} {s : State} (agent : s.hub.agent = .restarting)
    (reply : s.link.consoleTx = some ⟨4, [tag, 8, 0]⟩) : restartEnding s = true := by
  unfold restartEnding
  rw [agent, reply]
  rfl

/-- Log entry 17: both commands that end the RESTART REPLY are the warm restart. -/
theorem exec_of_restartEnding {c : Instr} {s : State} (ends : c = .warmRestart ∨ c = .consoleFrameEnd)
    (ending : restartEnding s = true) : exec c s = .next (settleLinks (warmRestart s)) := by
  rcases ends with rfl | rfl
  · exact if_pos ending
  · have sending : s.link.consoleTx.isSome = true := by
      unfold restartEnding at ending
      split at ending
      · rename_i reply
        rw [reply]; rfl
      · cases ending
    have restarts : endConsoleFrame s = warmRestart s := if_pos ending
    rw [← restarts]
    exact if_pos sending

end Sys2Proof.Machine
end

section
/-! SUPPORT. No command but the tick and the resets moves the show time (R61). -/

namespace Sys2Proof.Machine

/-! ## What the outcomes of a command leave of the show time -/

theorem now_of_finish {s u t : State} (h : finish u = .next t) (kept : u.now = s.now) : t.now = s.now := by
  cases h; rw [settleLinks_now, kept]

theorem now_of_whenDue {due : Bool} {event : State → State} {s t : State} (h : whenDue due event s = .next t)
    (kept : (event s).now = s.now) : t.now = s.now := by
  unfold whenDue at h
  split at h
  · exact now_of_finish h kept
  · cases h; rfl

theorem now_of_executeRequest {payload : List Byte} {execute : State → Executed} {s t : State}
    (h : executeRequest payload execute s = .next t) (kept : (execute s).state.now = s.now) : t.now = s.now := by
  have checked : (checkedExecution payload execute s).state.now = s.now := by
    unfold checkedExecution
    (repeat' split)
    · rfl
    · exact kept
    · rfl
  unfold executeRequest at h
  split at h
  · exact now_of_finish h (by rw [nextRequest_now, placeReply_now, checked])
  · cases h; rfl

theorem now_of_runAction {payload : List Byte} {act : State → State × Status} {s t : State}
    (h : runAction payload act s = .next t) (kept : (act s).1.now = s.now) : t.now = s.now :=
  now_of_executeRequest h kept

theorem now_of_takeGood {link : Link} {cls : Byte} {a : Arrival} {take : List Byte → State → State} {s t : State}
    (h : takeGood link cls a take s = .next t) (kept : ∀ payload, (take payload s).now = s.now) : t.now = s.now := by
  unfold takeGood at h
  split at h
  · exact now_of_finish h ((receiveOn_now _ _ _ _ _).trans (kept _))
  · exact now_of_finish h (discardFrame_now _ _ _ _ _)

/-! ## Every command -/

/-- R61, by the owner of each command: only the tick and the resets set the counter. -/
theorem exec_keeps_now {c : Instr} {s t : State} (h : exec c s = .next t) (noTick : c ≠ .showTimeTick)
    (noReset : ∀ strap flash, c ≠ .hardReset strap flash)
    (noRestart : c = .warmRestart ∨ c = .consoleFrameEnd → ¬ restartEnding s = true) : t.now = s.now := by
  cases c with
  | hardReset strap flash => exact absurd rfl (noReset strap flash)
  | showTimeTick => exact absurd rfl noTick
  | warmRestart =>
    have idle : exec .warmRestart s = .next s := if_neg (noRestart (.inl rfl))
    cases h.symm.trans idle; rfl
  | consoleFrameEnd =>
    have sent : (endConsoleFrame s).now = s.now := by
      unfold endConsoleFrame
      rw [if_neg (noRestart (.inr rfl)), withLink_now]
    exact now_of_whenDue h sent
  | pass | mark =>
    simp only [exec, execPass, execMark] at h
    exact now_of_takeGood h fun payload => by simp
  | cue | hubRequest | report => exact now_of_takeGood h fun payload => by simp
  | readSeats | readTeams | readQuestions | readCues | readSequences | readSteps | readPortcfg | readConfig | readResponses
  | readBuzzq | readJudged | readScores | readStandings | readCommit | readPortstat =>
    exact now_of_executeRequest h (executeRead_now _ _ _ _ s)
  | writeSeats | writeTeams | writeQuestions | writeCues | writeSequences | writeSteps | writePortcfg | writeConfig =>
    exact now_of_executeRequest h (executeWrite_now _ _ _ _ s)
  | actOpen | actNext | actClose | actCommit | actCancel | actJudge | actRevoke | actAdjust | actClearScores | showReveal
  | showStopSequence | showFreeze | showThaw | showCurtainOn | showCurtainOff | showResting | reload =>
    exact now_of_runAction h (by simp)
  | portStart | portStop | portRollCall => exact now_of_runAction h (onPort_now fun p => by simp [stopAction])
  | status => exact now_of_executeRequest h rfl
  | requestMalformed payload =>
    simp only [exec, execRequestMalformed] at h
    (repeat' split at h)
    · exact now_of_finish h (by simp)
    · cases h; rfl
    · exact now_of_executeRequest h rfl
    · cases h; rfl
  | readUnknownTable =>
    simp only [exec, execReadUnknownTable] at h
    split at h
    · cases h; rfl
    · exact now_of_executeRequest h rfl
  | writeReadOnlyTable =>
    simp only [exec, execWriteReadOnlyTable] at h
    split at h
    · exact now_of_executeRequest h rfl
    · cases h; rfl
  | restart tag =>
    simp only [exec, execRestart] at h
    (repeat' split at h)
    · exact now_of_finish h (by simp)
    · exact now_of_finish h (by simp)
    · cases h; rfl
  | handsetFrameReceived => exact now_of_finish h (setPort_now _ _ _)
  | sweepEnd p =>
    simp only [exec, execSweepEnd] at h
    split at h
    · exact now_of_whenDue h (by simp)
    · cases h; rfl
  | wallFrameEnd | frameHandoff | loadEnd | walkSeatVisit =>
    simp only [exec, execWallFrameEnd, execFrameHandoff, execLoadEnd, execWalkSeatVisit] at h
    split at h
    · exact now_of_finish h (by simp)
    · cases h; rfl
  | inboxTake =>
    simp only [exec, execInboxTake] at h
    split at h
    · exact now_of_finish h (by simp)
    · cases h; rfl
    · cases h; rfl
  | idleFillExpiry => exact now_of_whenDue h (withLink_now s _)
  | linkFrameDiscarded | wakeTimerExpiry | sweepStart | breakBegin | lineIdleChange | breakEnd | windowExpiry
  | settleExpiry | headSettleExpiry | answerTimerExpiry | applicationStep | publicationStep | composeEnd | wallSilentExpiry
  | internalMark | tallyTimerExpiry | seatTimerExpiry | presetSection => exact now_of_whenDue h (by simp)

/-- R61: the tick is taken modulo 2^32. -/
theorem tick_toNat (x : Time) : (x + 1).toNat = if x.toNat = 4294967295 then 0 else x.toNat + 1 := by
  have range := x.isLt
  rw [BitVec.toNat_add, show (1 : Time).toNat = 1 from rfl]
  split <;> omega

theorem withNow_keeps (x : Time) (s : State) : Keeps [.now] s (s.withNow x) := by
  intro b hb
  cases b <;> simp [Block.same] at hb ⊢

/-- Settles O5: the tick and the two resets set the counter, and every other command keeps it. -/
theorem showTimeAdvancesAtTicksAndRestartsAtResets : Obligations.ShowTimeAdvancesAtTicksAndRestartsAtResets := by
  refine ⟨fun s => ⟨_, rfl, tick_toNat s.now, rfl, withNow_keeps _ s⟩, fun strap flash s => ⟨_, rfl, rfl⟩,
    fun c tag s ends agent reply => ⟨_, exec_of_restartEnding ends (restartEnding_of_reply agent reply), ?_⟩,
    fun c s t h moved => ?_⟩
  · rw [settleLinks_now, warmRestart_now]
  · by_contra other
    obtain ⟨noTick, noReset, noRestart⟩ := by simpa only [not_or] using other
    exact moved (exec_keeps_now h noTick (fun strap flash e => noReset ⟨strap, flash, e⟩) fun ends ending =>
      noRestart ⟨ends, ending⟩)

end Sys2Proof.Machine
end

section
/-! SUPPORT. The live tallies (R74, R80, R81, R82, R84): the law as counts of one vector of records, and what an event can do to the
records and the tallies. -/

namespace Sys2Proof.Machine

/-! ## Counts over a vector -/

theorem vector_countP_finRange {α : Type} {n : Nat} (p : α → Bool) (v : Vector α n) :
    v.countP p = (List.finRange n).countP fun k => p v[k] := by
  have entries : v.toList = (List.finRange n).map fun k => v[k] := by
    rw [← List.ofFn_eq_map, ← Vector.toList_ofFn]
    exact congrArg Vector.toList Vector.ofFn_getElem.symm
  rw [← Vector.countP_toList, entries, List.countP_map]
  rfl

theorem vector_countP_congr {α : Type} {n : Nat} {p : α → Bool} {v w : Vector α n} (h : ∀ k : Fin n, p w[k] = p v[k]) :
    w.countP p = v.countP p := by
  simp only [vector_countP_finRange, h]

/-- The count after one entry is replaced, without a truncated difference. -/
theorem vector_countP_set {α : Type} {n : Nat} (p : α → Bool) (v : Vector α n) (k : Fin n) (x : α) :
    (v.set k x).countP p + (p v[k]).toNat = v.countP p + (p x).toNat := by
  have counted : p v[k] = true → 0 < v.countP p := fun h => Vector.countP_pos_iff.mpr ⟨v[k], by simp, h⟩
  rw [Vector.countP_set, ← Fin.getElem_fin]
  cases old : p v[k] <;> cases new : p x <;> simp
  all_goals exact Nat.sub_add_cancel (counted old)

theorem recordCount_eq_countP (f : Response → Bool) (s : State) : recordCount f s = s.resp.records.countP f := by
  rw [vector_countP_finRange, List.countP_eq_length_filter]
  rfl

/-! ## The law over the Response Unit -/

/-- The answers that a question of the kind takes (R77, R82). -/
def Answer.suits (kind : Option QKind) : Answer → Bool
  | .option _ => kind == some .choice || kind == some .poll
  | .value _ => kind == some .estimate

/-- The record counts for option o (R84): no option is counted on an ESTIMATE question. -/
def picks (kind : Option QKind) (o : Fin 6) (r : Response) : Bool := Answer.suits kind (.option o) && r.answer == some (.option o)

/-- R74: the seat has answered exactly when its record holds an answer that suits the question. -/
def RecordFits (kind : Option QKind) (r : Response) : Prop := r.state = .answered ↔ ∃ a, r.answer = some a ∧ a.suits kind = true

/-- R74, R84: the records are those of the question's kind, and the live tallies are their counts. -/
structure Tallied (x : Responses) : Prop where
  fits : ∀ k : Fin 256, RecordFits x.header.kind x.records[k]
  answered : x.tallies.answered = x.records.countP fun r => r.state == .answered
  counts : ∀ o : Fin 6, x.tallies.counts[o] = x.records.countP (picks x.header.kind o)

/-- The question's kind is one whose presses the Response Collector judges (R23). -/
def Collects (kind : Option QKind) : Prop := (kind = some .choice ∨ kind = some .poll) ∨ kind = some .estimate

theorem recordFits_option {kind : Option QKind} (h : kind = some .choice ∨ kind = some .poll) (r : Response) :
    RecordFits kind r ↔ (r.state = .answered ↔ ∃ o, r.answer = some (.option o)) := by
  have suits : ∀ a : Answer, a.suits kind = true ↔ ∃ o, a = .option o := by
    rintro (o | v) <;> rcases h with rfl | rfl <;> simp [Answer.suits]
  unfold RecordFits
  simp only [suits]
  exact iff_congr Iff.rfl ⟨fun ⟨_, held, o, e⟩ => ⟨o, e ▸ held⟩, fun ⟨o, held⟩ => ⟨_, held, o, rfl⟩⟩

theorem recordFits_value (r : Response) :
    RecordFits (some .estimate) r ↔ (r.state = .answered ↔ ∃ v, r.answer = some (.value v)) := by
  have suits : ∀ a : Answer, a.suits (some .estimate) = true ↔ ∃ v, a = .value v := by
    rintro (o | v) <;> simp [Answer.suits]
  unfold RecordFits
  simp only [suits]
  exact iff_congr Iff.rfl ⟨fun ⟨_, held, v, e⟩ => ⟨v, e ▸ held⟩, fun ⟨v, held⟩ => ⟨_, held, v, rfl⟩⟩

theorem talliesMatch_iff (s : State) : TalliesMatch s ↔ (Collects s.resp.header.kind → Tallied s.resp) := by
  have options (h : s.resp.header.kind = some .choice ∨ s.resp.header.kind = some .poll) (o : Fin 6) :
      picks s.resp.header.kind o = fun r => r.answer == some (.option o) := by
    funext r
    rcases h with h | h <;> simp [picks, h, Answer.suits]
  have values (o : Fin 6) : s.resp.records.countP (picks (some .estimate) o) = 0 :=
    Vector.countP_eq_zero.mpr fun r _ => by simp [picks, Answer.suits]
  simp only [TalliesMatch, recordCount_eq_countP]
  constructor
  · rintro ⟨option, value⟩ (kind | kind)
    · obtain ⟨fits, answered, counts⟩ := option kind
      exact ⟨fun k => (recordFits_option kind _).mpr (fits k), answered, fun o => by rw [options kind, counts]⟩
    · obtain ⟨fits, answered, counts⟩ := value kind
      exact ⟨fun k => by rw [kind]; exact (recordFits_value _).mpr (fits k), answered, fun o => by rw [kind, values, counts]⟩
  · refine fun tallied => ⟨fun kind => ?_, fun kind => ?_⟩
    · obtain ⟨fits, answered, counts⟩ := tallied (.inl kind)
      exact ⟨fun k => (recordFits_option kind _).mp (fits k), answered, fun o => by rw [counts, options kind]⟩
    · obtain ⟨fits, answered, counts⟩ := tallied (.inr kind)
      exact ⟨fun k => (recordFits_value _).mp (kind ▸ fits k), answered, fun o => by rw [counts, kind, values]⟩

/-! ## The tallies moved by an answer (R80, R81, R82) -/

theorem Tallies.move_answered (t : Tallies) (a : Answer) (up : Bool) : (t.move a up).answered = t.answered := by
  cases a <;> rfl

theorem Tallies.move_count (t : Tallies) (a : Answer) (up : Bool) (o : Fin 6) : (t.move a up).counts[o] =
    if a = .option o then (if up then t.counts[o] + 1 else t.counts[o] - 1) else t.counts[o] := by
  cases a with
  | value v => rfl
  | option k =>
    simp only [Tallies.move, Tallies.bump, vector_set_get, Answer.option.injEq, eq_comm (a := k)]
    split
    · rename_i same
      rw [same]
    · rfl

theorem picks_of_suits {kind : Option QKind} {r : Response} {a : Answer} (held : r.answer = some a) (suits : a.suits kind = true)
    (o : Fin 6) : picks kind o r = decide (a = .option o) := by
  by_cases same : a = .option o
  · rw [same] at suits held
    simp [picks, held, same, suits]
  · simp [picks, held, same]

/-- A record that does not count as answered counts for no option. -/
theorem RecordFits.unpicked {kind : Option QKind} {r : Response} (fits : RecordFits kind r) (open_ : r.state ≠ .answered)
    (o : Fin 6) : picks kind o r = false := by
  by_contra picked
  obtain ⟨suits, held⟩ : Answer.suits kind (.option o) = true ∧ r.answer = some (.option o) := by simpa [picks] using picked
  exact open_ (fits.mpr ⟨_, held, suits⟩)

/-! ## What an event does to the records and the tallies -/

/-- Which seats have answered, their answers and the tallies are the same. -/
structure AnswersKept (x y : Responses) : Prop where
  kind : y.header.kind = x.header.kind
  tallies : y.tallies = x.tallies
  answered : ∀ k : Fin 256, y.records[k].state = .answered ↔ x.records[k].state = .answered
  answer : ∀ k : Fin 256, y.records[k].answer = x.records[k].answer

/-- What one event does to the Response Unit: it keeps the answers, clears them, belongs to a race, or takes a seat's first answer
(R80) or a change of its answer (R81). -/
inductive AnswerMove (x y : Responses) : Prop
  | stays (h : AnswersKept x y)
  | clears (records : y.records = Vector.replicate 256 Response.reset) (tallies : y.tallies = Tallies.reset)
  | races (kind : y.header.kind = some .buzz)
  | first (k : Fin 256) (r : Response) (a : Answer) (suits : a.suits x.header.kind = true)
      (fresh : ∀ old, x.records[k].state = .answered → x.records[k].answer ≠ some old)
      (state : r.state = .answered) (answer : r.answer = some a)
      (h : y = ⟨x.header, x.records.set k r,
        { x.tallies.move a true with answered := (x.tallies.move a true).answered + 1 }⟩)
  | changes (k : Fin 256) (r : Response) (old a : Answer) (suits : a.suits x.header.kind = true)
      (was : x.records[k].state = .answered) (held : x.records[k].answer = some old) (ne : old ≠ a)
      (state : r.state = .answered) (answer : r.answer = some a)
      (h : y = ⟨x.header, x.records.set k r, (x.tallies.move old false).move a true⟩)

theorem AnswersKept.refl (x : Responses) : AnswersKept x x := ⟨rfl, rfl, fun _ => Iff.rfl, fun _ => rfl⟩

theorem AnswerMove.of_eq {x y : Responses} (h : y = x) : AnswerMove x y := by
  rw [h]; exact .stays (.refl x)

/-- Header fields other than the kind are no part of the law. -/
theorem answersKept_of_header {x y : Responses} (kind : y.header.kind = x.header.kind) (tallies : y.tallies = x.tallies)
    (records : y.records = x.records) : AnswersKept x y :=
  ⟨kind, tallies, fun k => by rw [records], fun k => by rw [records]⟩

/-- One record is replaced by another with the same answer. -/
theorem answersKept_of_set {x : Responses} (k : Fin 256) {r : Response}
    (answered : r.state = .answered ↔ x.records[k].state = .answered) (answer : r.answer = x.records[k].answer) :
    AnswersKept x { x with records := x.records.set k r } := by
  refine ⟨rfl, rfl, fun j => ?_, fun j => ?_⟩ <;> rw [vector_set_get] <;> split
  · rename_i same; rw [same]; exact answered
  · rfl
  · rename_i same; rw [same]; exact answer
  · rfl

/-! ## The law through a move -/

theorem AnswersKept.tallied {x y : Responses} (h : AnswersKept x y) (m : Tallied x) : Tallied y := by
  refine ⟨fun k => ?_, ?_, fun o => ?_⟩
  · unfold RecordFits
    rw [h.answered, h.answer, h.kind]
    exact m.fits k
  · rw [h.tallies, m.answered]
    exact (vector_countP_congr fun k => by rw [Bool.eq_iff_iff, beq_iff_eq, beq_iff_eq, h.answered k]).symm
  · rw [h.tallies, m.counts, h.kind]
    exact (vector_countP_congr fun k => by rw [picks, picks, h.answer k]).symm

theorem tallied_of_cleared {x : Responses} (records : x.records = Vector.replicate 256 Response.reset)
    (tallies : x.tallies = Tallies.reset) : Tallied x := by
  refine ⟨fun k => ?_, ?_, fun o => ?_⟩
  · rw [records, replicate_get]
    simp [RecordFits, Response.reset]
  · rw [records, tallies]
    simp [Tallies.reset, Response.reset, Vector.countP_replicate]
  · rw [records, tallies]
    simp [Tallies.reset, Response.reset, picks, Vector.countP_replicate]

/-- One record and the tallies are set so that each count moves by what the record's change is. -/
theorem Tallied.set {x : Responses} (m : Tallied x) (k : Fin 256) {r : Response} {t : Tallies}
    (fits : RecordFits x.header.kind r)
    (answered : t.answered + (x.records[k].state == .answered).toNat = x.tallies.answered + (r.state == .answered).toNat)
    (counts : ∀ o : Fin 6, t.counts[o] + (picks x.header.kind o x.records[k]).toNat
      = x.tallies.counts[o] + (picks x.header.kind o r).toNat) :
    Tallied ⟨x.header, x.records.set k r, t⟩ := by
  refine ⟨fun j => ?_, ?_, fun o => ?_⟩
  · rw [vector_set_get]
    split
    · exact fits
    · exact m.fits j
  · have set := vector_countP_set (fun r => r.state == .answered) x.records k r
    have now := m.answered
    simp only at set ⊢
    omega
  · have set := vector_countP_set (picks x.header.kind o) x.records k r
    have moved := counts o
    have now := m.counts o
    simp only at set ⊢
    omega

theorem recordFits_of_suits {kind : Option QKind} {r : Response} {a : Answer} (state : r.state = .answered)
    (answer : r.answer = some a) (suits : a.suits kind = true) : RecordFits kind r :=
  iff_of_true state ⟨a, answer, suits⟩

/-- R80: a first answer raises the answered count and its option's. -/
theorem Tallied.first {x : Responses} (m : Tallied x) {k : Fin 256} {r : Response} {a : Answer}
    (suits : a.suits x.header.kind = true) (fresh : ∀ old, x.records[k].state = .answered → x.records[k].answer ≠ some old)
    (state : r.state = .answered) (answer : r.answer = some a) :
    Tallied ⟨x.header, x.records.set k r,
      { x.tallies.move a true with answered := (x.tallies.move a true).answered + 1 }⟩ := by
  have open_ : x.records[k].state ≠ .answered := fun was =>
    have ⟨old, held, _⟩ := (m.fits k).mp was
    fresh old was held
  refine m.set k (recordFits_of_suits state answer suits) ?_ fun o => ?_
  · rw [Tallies.move_answered, state, beq_false_of_ne open_]
    rfl
  · rw [(m.fits k).unpicked open_, picks_of_suits answer suits]
    dsimp only
    rw [Tallies.move_count]
    split <;> simp [*]

/-- R81: a change of answer moves one count from the old option to the new. -/
theorem Tallied.changes {x : Responses} (m : Tallied x) {k : Fin 256} {r : Response} {old a : Answer}
    (suits : a.suits x.header.kind = true) (was : x.records[k].state = .answered) (held : x.records[k].answer = some old)
    (ne : old ≠ a) (state : r.state = .answered) (answer : r.answer = some a) :
    Tallied ⟨x.header, x.records.set k r, (x.tallies.move old false).move a true⟩ := by
  have suited : old.suits x.header.kind = true := by
    obtain ⟨b, same, suited⟩ := (m.fits k).mp was
    cases held.symm.trans same
    exact suited
  refine m.set k (recordFits_of_suits state answer suits) ?_ fun o => ?_
  · rw [Tallies.move_answered, Tallies.move_answered, state, was]
  · have picked := picks_of_suits held suited o
    rw [picked, picks_of_suits answer suits, Tallies.move_count, Tallies.move_count]
    by_cases leaves : old = .option o
    · have counted : 0 < x.tallies.counts[o] := by
        rw [m.counts o]
        exact Vector.countP_pos_iff.mpr ⟨x.records[k], by simp, by rw [picked]; exact decide_eq_true leaves⟩
      have elsewhere : a ≠ .option o := fun joins => ne (leaves.trans joins.symm)
      simpa [leaves, elsewhere] using Nat.sub_add_cancel counted
    · by_cases joins : a = .option o <;> simp [leaves, joins]

theorem AnswerMove.keeps_tallied {x y : Responses} (h : AnswerMove x y) (law : Collects x.header.kind → Tallied x)
    (collects : Collects y.header.kind) : Tallied y := by
  cases h with
  | stays h => exact h.tallied (law (h.kind ▸ collects))
  | clears records tallies => exact tallied_of_cleared records tallies
  | races kind =>
    rw [kind] at collects
    rcases collects with (c | c) | c <;> cases c
  | first k r a suits fresh state answer h =>
    subst h
    exact (law collects).first suits fresh state answer
  | changes k r old a suits was held ne state answer h =>
    subst h
    exact (law collects).changes suits was held ne state answer

end Sys2Proof.Machine
end

section
/-! SUPPORT. What every work does to the Response Unit, and the tallies through every step (R74, R80, R81, R84). -/

namespace Sys2Proof.Machine

/-! ## Presses (R77 to R82, R92) -/

theorem setResponseState_kept {k : Fin 256} {x : ResponseState} {s : State}
    (same : x = .answered ↔ s.resp.records[k].state = .answered) : AnswersKept s.resp (setResponseState k x s).resp :=
  answersKept_of_set k same rfl

theorem ResponseState.afterEarly_answered (x : ResponseState) : x.afterEarly = .answered ↔ x = .answered := by
  cases x <;> simp [ResponseState.afterEarly]

theorem ResponseState.afterLate_answered (x : ResponseState) : x.afterLate = .answered ↔ x = .answered := by
  cases x <;> simp [ResponseState.afterLate]

theorem firstAnswer_resp (k : Fin 256) (t : Fin 16) (a : Answer) (time : Time) (marks : Marks) (s : State) :
    (firstAnswer k t a time marks s).resp = ⟨s.resp.header,
      s.resp.records.set k
        { s.resp.records[k] with state := .answered, answer := some a, pressTime := some time, changes := 0 },
      { s.resp.tallies.move a true with answered := (s.resp.tallies.move a true).answered + 1 }⟩ := by
  simp only [firstAnswer, answerTaken_resp, recordAnswer_resp]

theorem acceptedChange_resp (k : Fin 256) (t : Fin 16) (old a : Answer) (time : Time) (marks : Marks) (s : State) :
    (acceptedChange k t old a time marks s).resp = ⟨s.resp.header,
      s.resp.records.set k
        { s.resp.records[k] with answer := some a, pressTime := some time, changes := s.resp.records[k].changes + 1 },
      (s.resp.tallies.move old false).move a true⟩ := by
  simp only [acceptedChange, answerTaken_resp, recordAnswer_resp]

theorem takeAnswer_move (k : Fin 256) (t : Fin 16) {a : Answer} (time : Time) (marks : Marks) {s : State}
    (suits : a.suits s.resp.header.kind = true) : AnswerMove s.resp (takeAnswer k t a time marks s).resp := by
  unfold takeAnswer
  split
  · rename_i old was held
    split
    · exact .of_eq rfl
    · rename_i ne
      split
      · refine .changes k _ old a suits was held ne ?_ ?_ (acceptedChange_resp k t old a time marks s)
        · exact was
        · rfl
      · exact .of_eq (requestLamp_resp s k .locked)
  · rename_i fresh
    refine .first k _ a suits fresh ?_ ?_ (firstAnswer_resp k t a time marks s) <;> rfl

theorem judgePress_move (k : Fin 256) (team : Option (Fin 16)) {answer : Option Answer} (time : Time) (marks : Marks) {s : State}
    (suits : ∀ a, answer = some a → a.suits s.resp.header.kind = true) :
    AnswerMove s.resp (judgePress k team answer time marks s).resp := by
  unfold judgePress
  split
  · exact .of_eq (requestLamp_resp s k .notEligible)
  · exact .of_eq rfl
  · split
    · exact .stays (setResponseState_kept (ResponseState.afterEarly_answered _))
    · split
      · exact .stays (setResponseState_kept (ResponseState.afterLate_answered _))
      · exact takeAnswer_move k _ time marks (suits _ rfl)

theorem keyAnswer_option {key : Byte} {options : Nat} {a : Answer} (h : keyAnswer key options = some a) : ∃ o, a = .option o := by
  unfold keyAnswer at h
  (repeat' split at h) <;> cases h
  exact ⟨_, rfl⟩

theorem valueAnswer_value {cls : Option HandsetClass} {value : Nat} {a : Answer} (h : valueAnswer cls value = some a) :
    a = .value value := by
  unfold valueAnswer at h
  split at h <;> cases h
  rfl

/-- R83, R92: a buzz changes at most a record, and no header. -/
theorem takeBuzz_header (k : Fin 256) (team : Option (Fin 16)) (time : Time) (marks : Marks) (s : State) :
    (takeBuzz k team time marks s).resp.header = s.resp.header := by
  unfold takeBuzz
  (repeat' split) <;> simp [falseStart]

theorem routeKey_move (k : Fin 256) (team : Option (Fin 16)) (key : Byte) (time : Time) (marks : Marks) (s : State) :
    AnswerMove s.resp (routeKey k team key time marks s).resp := by
  have judged (kind : s.resp.header.kind = some .choice ∨ s.resp.header.kind = some .poll) :
      AnswerMove s.resp (judgePress k team (keyAnswer key (headerQuestion s).options) time marks s).resp := by
    refine judgePress_move k team time marks fun a named => ?_
    obtain ⟨o, rfl⟩ := keyAnswer_option named
    rcases kind with h | h <;> simp [Answer.suits, h]
  unfold routeKey
  split
  · exact .of_eq rfl
  · split
    · exact .of_eq (takeHelp_resp s k team time marks)
    · split
      · rename_i kind
        split
        · exact judged (.inl kind)
        · exact .of_eq rfl
      · rename_i kind
        split
        · exact judged (.inr kind)
        · exact .of_eq rfl
      · rename_i kind
        split
        · exact .races (by rw [takeBuzz_header, kind])
        · exact .of_eq rfl
      all_goals exact .of_eq rfl

theorem routeDigits_move (k : Fin 256) (team : Option (Fin 16)) (v : Nat) (time : Time) (marks : Marks) (s : State) :
    AnswerMove s.resp (routeDigits k team v time marks s).resp := by
  unfold routeDigits
  split
  · rename_i asked
    refine judgePress_move k team time marks fun a named => ?_
    rw [valueAnswer_value named, asked.1]
    rfl
  · exact .of_eq rfl

theorem handOff_answers (f : Stamped) (s : State) : AnswerMove s.resp (handOff f s).resp := by
  rcases handOff_cases f s with h | ⟨-, a, heard, h⟩
  · exact .of_eq (by rw [h, withStamper_resp])
  · have same : a.resp = s.resp := by
      rcases heard with ⟨cls, battery, rfl⟩ | ⟨n, rfl⟩ <;> simp [pressHeard]
    rw [← same]
    rcases h with h | ⟨team, key, time, marks, h⟩ | ⟨team, v, time, marks, h⟩ <;> rw [h]
    · exact .of_eq rfl
    · exact routeKey_move _ _ _ _ _ _
    · exact routeDigits_move _ _ _ _ _ _

/-! ## The round (R12, R14 to R16, R115) -/

theorem openQuestion_answers (q : Fin 128) (s : State) (x : Responses) : AnswerMove x (openQuestion q s).resp :=
  .clears (by rw [openQuestion_resp]) (by rw [openQuestion_resp])

theorem openChosen_answers (q : Option (Fin 128)) (s : State) : AnswerMove s.resp (openChosen q s).1.resp := by
  unfold openChosen
  (repeat' split)
  · exact openQuestion_answers _ s _
  all_goals exact .of_eq rfl

theorem closeAnswering_kept (s : State) : AnswersKept s.resp (closeAnswering s).resp := by
  have closed : (closeAnswering s).resp = { s.resp with header := { s.resp.header with closeTime := some s.now } } := by
    simp [closeAnswering, apply_ite State.resp]
  rw [closed]
  exact answersKept_of_header rfl rfl rfl

theorem closeAction_kept (s : State) : AnswersKept s.resp (closeAction s).1.resp := by
  unfold closeAction
  split
  case h_1 => exact closeAnswering_kept s
  case h_2 =>
    split
    · exact .refl _
    · exact answersKept_of_header rfl rfl rfl
  all_goals exact .refl _

theorem takePendingOpen_resp (s : State) :
    (takePendingOpen s).resp = s.resp ∨ ∃ q v, takePendingOpen s = openQuestion q v := by
  unfold takePendingOpen
  split
  · exact .inl rfl
  · dsimp only
    split
    · exact .inl (by simp)
    · exact .inr ⟨_, _, rfl⟩

/-- R115 step 3, R14: the committed flag, and then a pending open or nothing. -/
theorem applicationStep_answers (s : State) : AnswerMove s.resp (applicationStep s).resp := by
  unfold applicationStep roundAfterCommit
  rcases takePendingOpen_resp (lampsOff isResultLamp _) with same | ⟨q, v, opened⟩
  · rw [same]
    refine .stays (answersKept_of_header ?_ ?_ ?_) <;> simp [applyCommit]
  · rw [opened]
    exact openQuestion_answers q v _

theorem RoundWork.answers {s u : State} (h : RoundWork s u) : AnswerMove s.resp u.resp := by
  cases h with
  | opens q idle => exact openChosen_answers q s
  | closes idle => exact .stays (closeAction_kept s)
  | windowExpires due => exact .stays (closeAnswering_kept s)
  | applies due => exact applicationStep_answers s
  | handsOff f held => exact handOff_answers f s
  | commits | cancels | judges | settles | headSettles | answerExpires => exact .of_eq (by simp)

/-! ## The other owners -/

theorem PortWork.keeps_resp {s u : State} (h : PortWork s u) : u.resp = s.resp := by
  cases h <;> simp

theorem CompWork.keeps_resp {s u : State} (h : CompWork s u) : u.resp = s.resp := by
  cases h <;> simp

/-- R109: a visit sets the points of one record. -/
theorem ScoreWork.keeps_answers {s u : State} (h : ScoreWork s u) : AnswersKept s.resp u.resp := by
  cases h with
  | visits k =>
    rw [visitSeat_resp]
    exact answersKept_of_set k Iff.rfl rfl
  | revokes => rw [revokeAction_resp]; exact .refl _
  | adjusts team delta => rw [adjustAction_resp]; exact .refl _
  | clears => rw [clearScoresAction_resp]; exact .refl _
  | publishes => rw [publish_resp]; exact .refl _

theorem recordOutcomes_resp (t : Table) (i : Nat) (records : List (List Byte)) (s : State) :
    (recordOutcomes t i records s).2.resp = s.resp :=
  recordOutcomes_invariant t (fun u => u.resp = s.resp) (fun i r u h => by simpa using h) records i s rfl

theorem resetTables_resp (s : State) : (resetTables s).resp = s.resp := by
  have seats := foldl_keeps (fun s k => assignTeam k none s) State.resp (by intros; simp) (List.finRange 256) s
  have teams := foldl_keeps (fun s t => storeTeam t Team.reset s) State.resp (by intros; simp) (List.finRange 16)
  simpa [resetTables] using (teams _).trans seats

theorem autostart_resp (s : State) : (autostart s).resp = s.resp :=
  foldl_keeps _ State.resp (by intro s p; split <;> simp) _ _

theorem TableWork.keeps_resp {s u : State} (h : TableWork s u) : u.resp = s.resp := by
  cases h with
  | writes t i records => exact recordOutcomes_resp t i records s
  | reads t first returned => exact clearReadFlags_resp s t first returned
  | walksSection =>
    obtain ⟨u, e, -, rfl | ⟨t, i, rs, rfl⟩⟩ := walkSection_cases s
    · rw [e, withLoader_resp]
    · rw [e, withLoader_resp, recordOutcomes_resp]
  | loadEnds r due =>
    rw [endLoad_eq, raiseNotice_resp, withLoader_resp]
    cases r with
    | failed => exact resetTables_resp _
    | loaded => exact autostart_resp _
    | none | empty => rfl
  | reloads flash => unfold reloadAction; split <;> rfl

theorem warmRestart_resp (s : State) : (warmRestart s).resp = Responses.reset := by simp [warmRestart]

theorem Work.answers {s u : State} (h : Work s u) : AnswerMove s.resp u.resp := by
  cases h with
  | nothing => exact .of_eq rfl
  | hardReset strap flash => exact .clears rfl rfl
  | warmRestart => exact .clears (by rw [warmRestart_resp]; rfl) (by rw [warmRestart_resp]; rfl)
  | port h => exact .of_eq h.keeps_resp
  | round h => exact h.answers
  | score h => exact .stays h.keeps_answers
  | comp h => exact .of_eq h.keeps_resp
  | table h => exact .of_eq h.keeps_resp

/-! ## The law through every work and every step -/

theorem Work.keeps_tallies {s u : State} (h : Work s u) (m : TalliesMatch s) : TalliesMatch u :=
  (talliesMatch_iff u).mpr (h.answers.keeps_tallied ((talliesMatch_iff s).mp m))

theorem Quiet.keeps_tallies {s u : State} (h : Quiet s u) (m : TalliesMatch s) : TalliesMatch u := by
  have same : u.resp = s.resp := h .resp (by decide)
  rw [talliesMatch_iff, same]
  exact (talliesMatch_iff s).mp m

/-- Settles O59: by what a work can do to the records and the tallies (AnswerMove). -/
theorem everyStepKeepsTheTalliesEqualToTheRecords : Obligations.EveryStepKeepsTheTalliesEqualToTheRecords := fun _ _ h =>
  step_keeps (fun _ _ q => q.keeps_tallies) (fun _ _ w => w.keeps_tallies) h

end Sys2Proof.Machine
end

section
/-! SUPPORT. The refusals of JUDGE (R98), in the order of its checks. -/

namespace Sys2Proof.Machine

/-- An action's request has one next state, in which a refusal of any status has changed nothing but the REPLY. -/
theorem act_answers {c : Instr} {payload : List Byte} {act : State → State × Status} {s : State}
    (run : exec c s = runAction payload act s) (e : Executing payload s) (fits : payloadFits payload = true) :
    Completes c s fun u => ∀ st, act s = (s, st) →
      Replied [payload.getD 0 0, payload.getD 1 0, st.code] s u ∧ Keeps [.replies, .agent] s u := by
  by_cases refuses : ∃ st, act s = (s, st)
  · obtain ⟨st, gives⟩ := refuses
    obtain ⟨u, runs, refused⟩ := act_refuses run e fits gives
    refine ⟨u, runs, fun st' gives' => ?_⟩
    cases gives.symm.trans gives'
    exact refused
  · exact ⟨_, run.trans (runAction_executing act e fits), fun st gives => absurd ⟨st, gives⟩ refuses⟩

theorem finOf_beyond {n x : Nat} (beyond : n ≤ x) : finOf n x = none := dif_neg (Nat.not_lt.mpr beyond)

/-- R98: JUDGE may carry RIGHT (0) and WRONG (1). -/
theorem Verdict.ofJudge_some {b : Byte} (h : b.toNat ≤ 1) : ∃ v, Verdict.ofJudge b = some v := by
  rcases Nat.le_one_iff_eq_zero_or_eq_one.mp h with zero | one
  · rw [show b = 0 from BitVec.eq_of_toNat_eq zero]; exact ⟨.right, rfl⟩
  · rw [show b = 1 from BitVec.eq_of_toNat_eq one]; exact ⟨.wrong, rfl⟩

theorem Verdict.ofJudge_none {b : Byte} (h : 2 ≤ b.toNat) : Verdict.ofJudge b = none := by
  unfold Verdict.ofJudge
  split
  · exact absurd h (by decide)
  · exact absurd h (by decide)
  · rfl

theorem judged_any_iff (t : Fin 16) (s : State) :
    s.buzz.judged.any (fun j => j.team == t) = true ↔ ∃ j ∈ s.buzz.judged, j.team = t := by simp

theorem holderTeam_head {e : BuzzEntry} {rest : List BuzzEntry} {s : State} (held : s.buzz.held = true)
    (queue : s.buzz.queue = e :: rest) : holderTeam s = some e.team := by
  unfold holderTeam
  rw [if_pos held, queue]
  rfl

/-- R98 check 1: no such team, or no such verdict. -/
theorem judgeAction_badValue {team verdict : Byte} (bad : 16 ≤ team.toNat ∨ 2 ≤ verdict.toNat) (s : State) :
    judgeAction team verdict s = (s, .badValue) := by
  unfold judgeAction
  rcases bad with beyond | unknown
  · rw [finOf_beyond beyond]
  · rw [Verdict.ofJudge_none unknown]
    cases finOf 16 team.toNat <;> rfl

section Named

/-! The request names the team t and the verdict v: check 1 passes. -/

variable {team verdict : Byte} {t : Fin 16} {v : Verdict} {s : State}

/-- R98 check 2: the team is judged already. -/
theorem judgeAction_judged (named : finOf 16 team.toNat = some t) (given : Verdict.ofJudge verdict = some v)
    (judged : ∃ j ∈ s.buzz.judged, j.team = t) : judgeAction team verdict s = (s, .staleJudge) := by
  unfold judgeAction
  rw [named, given]
  exact if_pos ((judged_any_iff t s).mpr judged)

/-- R98 check 3: the round is not in FLOOR. -/
theorem judgeAction_badState (named : finOf 16 team.toNat = some t) (given : Verdict.ofJudge verdict = some v)
    (fresh : ¬ ∃ j ∈ s.buzz.judged, j.team = t) (elsewhere : s.round.state ≠ .floor) :
    judgeAction team verdict s = (s, .badState) := by
  unfold judgeAction
  rw [named, given]
  exact (if_neg (mt (judged_any_iff t s).mp fresh)).trans (if_pos elsewhere)

/-- R98 check 4: in FLOOR, the team does not hold it. -/
theorem judgeAction_notHolder (named : finOf 16 team.toNat = some t) (given : Verdict.ofJudge verdict = some v)
    (fresh : ¬ ∃ j ∈ s.buzz.judged, j.team = t) (floor : s.round.state = .floor) (other : holderTeam s ≠ some t) :
    judgeAction team verdict s = (s, .staleJudge) := by
  unfold judgeAction
  rw [named, given]
  refine (if_neg (mt (judged_any_iff t s).mp fresh)).trans ((if_neg (not_not.mpr floor)).trans ?_)
  cases held : s.buzz.held with
  | false => rfl
  | true =>
    cases queue : s.buzz.queue with
    | nil => rfl
    | cons e rest =>
      exact if_neg fun same : e.team = t => other ((holderTeam_head held queue).trans (congrArg some same))

end Named

/-- Settles O29, by the four checks of R98 in their order. -/
theorem staleAndMisplacedVerdictsChangeNothing : Obligations.StaleAndMisplacedVerdictsChangeNothing := by
  intro tag team verdict s e
  obtain ⟨u, run, refused⟩ := act_answers (c := .actJudge tag team verdict) (act := judgeAction team verdict) rfl e rfl
  refine ⟨u, run, fun bad => refused .badValue (judgeAction_badValue bad s), fun t at_ known => ?_⟩
  have named : finOf 16 team.toNat = some t := by rw [← at_, finOf_val]
  obtain ⟨v, given⟩ := Verdict.ofJudge_some known
  have unjudged (fresh : ∀ j ∈ s.buzz.judged, j.team ≠ t) : ¬ ∃ j ∈ s.buzz.judged, j.team = t :=
    fun ⟨j, listed, same⟩ => fresh j listed same
  exact ⟨fun judged => refused .staleJudge (judgeAction_judged named given judged),
    fun fresh elsewhere => refused .badState (judgeAction_badState named given (unjudged fresh) elsewhere),
    fun fresh floor other => refused .staleJudge (judgeAction_notHolder named given (unjudged fresh) floor other)⟩

end Sys2Proof.Machine
end

section
/-! SUPPORT. The score table and the Commit Record (R107, R108) through the operations that move the walk alone (R109), and the
standings law (R122 to R125) through everything that the Sorter does. -/

namespace Sys2Proof.Machine

/-! ## Operations that begin a walk or end one: the table and the Commit Record stay (R20, R107, R109) -/

section Walk

variable (s : State)

@[simp] theorem beginWalk_table : (beginWalk s).score.table = s.score.table := rfl
@[simp] theorem beginWalk_commit : (beginWalk s).score.commit = s.score.commit := rfl
@[simp] theorem enterCommitting_table (w : Bool) : (enterCommitting w s).score.table = s.score.table := by simp [enterCommitting]
@[simp] theorem enterCommitting_commit (w : Bool) : (enterCommitting w s).score.commit = s.score.commit := by simp [enterCommitting]
@[simp] theorem endQuestion_table : (endQuestion s).score.table = s.score.table := by
  obtain ⟨_, -, -, -, table, -⟩ := endQuestion_ends s; exact table
@[simp] theorem endQuestion_commit : (endQuestion s).score.commit = s.score.commit := by
  obtain ⟨_, -, -, -, -, commit, -⟩ := endQuestion_ends s; exact commit
@[simp] theorem settleExpires_table : (settleExpires s).score.table = s.score.table := by
  simp only [settleExpires]; split <;> simp
@[simp] theorem settleExpires_commit : (settleExpires s).score.commit = s.score.commit := by
  simp only [settleExpires]; split <;> simp
@[simp] theorem closeAnswering_table : (closeAnswering s).score.table = s.score.table := by
  simp only [closeAnswering]; split <;> simp
@[simp] theorem closeAnswering_commit : (closeAnswering s).score.commit = s.score.commit := by
  simp only [closeAnswering]; split <;> simp
@[simp] theorem closeAction_table : (closeAction s).1.score.table = s.score.table := by
  unfold closeAction; (repeat' split) <;> simp
@[simp] theorem closeAction_commit : (closeAction s).1.score.commit = s.score.commit := by
  unfold closeAction; (repeat' split) <;> simp
@[simp] theorem commitAction_table : (commitAction s).1.score.table = s.score.table := by
  unfold commitAction; split <;> simp
@[simp] theorem commitAction_commit : (commitAction s).1.score.commit = s.score.commit := by
  unfold commitAction; split <;> simp
@[simp] theorem releaseWrong_table (n : Nat) : (releaseWrong n s).score.table = s.score.table := by
  rcases releaseWrong_cases n s with h | h <;> simp [h]
@[simp] theorem releaseWrong_commit (n : Nat) : (releaseWrong n s).score.commit = s.score.commit := by
  rcases releaseWrong_cases n s with h | h <;> simp [h]
@[simp] theorem judgeHolder_table (v : Verdict) (e : BuzzEntry) (rest : List BuzzEntry) :
    (judgeHolder v e rest s).score.table = s.score.table := by
  simp only [judgeHolder]; split <;> simp
@[simp] theorem judgeHolder_commit (v : Verdict) (e : BuzzEntry) (rest : List BuzzEntry) :
    (judgeHolder v e rest s).score.commit = s.score.commit := by
  simp only [judgeHolder]; split <;> simp
@[simp] theorem judgeAction_table (t v : Byte) : (judgeAction t v s).1.score.table = s.score.table := by
  unfold judgeAction; (repeat' split) <;> simp
@[simp] theorem judgeAction_commit (t v : Byte) : (judgeAction t v s).1.score.commit = s.score.commit := by
  unfold judgeAction; (repeat' split) <;> simp
@[simp] theorem answerTimeout_table : (answerTimeout s).score.table = s.score.table := by
  unfold answerTimeout; split <;> simp
@[simp] theorem answerTimeout_commit : (answerTimeout s).score.commit = s.score.commit := by
  unfold answerTimeout; split <;> simp
@[simp] theorem visitSeat_table (k : Fin 256) : (visitSeat k s).score.table = s.score.table := by
  cases h : summedTeam s k with
  | none => rw [visitSeat_unsummed h]
  | some t => rw [visitSeat_summed h]
@[simp] theorem visitSeat_commit (k : Fin 256) : (visitSeat k s).score.commit = s.score.commit := by
  cases h : summedTeam s k with
  | none => rw [visitSeat_unsummed h]
  | some t => rw [visitSeat_summed h]

end Walk

/-! ## The standings law -/

theorem ListsActive.congr {l : List Standing} {s u : State} (h : ListsActive l s)
    (active : ∀ t : Fin 16, u.teams[t].active = s.teams[t].active) : ListsActive l u :=
  ⟨h.1, fun t => by rw [active t]; exact h.2 t⟩

/-- The law is about the Sorter and the active flags alone. -/
theorem StandingsLaw.congr {s u : State} (h : StandingsLaw s) (sorter : u.sorter = s.sorter)
    (active : ∀ t : Fin 16, u.teams[t].active = s.teams[t].active) : StandingsLaw u := by
  obtain ⟨published, idle, runs⟩ := h
  unfold StandingsLaw
  rw [sorter]
  exact ⟨published, fun stopped => (idle stopped).congr active, fun running =>
    ⟨(runs running).1, fun fresh => ((runs running).2 fresh).congr active⟩⟩

/-- R123: a pass that starts now will publish a lawful list. -/
theorem standingsLaw_started {s u : State} (published : RanksRight u.sorter.published) (running : u.sorter.running = true)
    (working : u.sorter.working = rankedStandings s) (teams : u.teams = s.teams) : StandingsLaw u := by
  obtain ⟨lists, ranks, -, -⟩ := rankedStandings_ranked s
  refine ⟨published, fun stopped => absurd (running.symm.trans stopped) (by decide), fun _ => ?_⟩
  rw [working]
  exact ⟨ranks, fun _ => lists.congr fun t => by rw [teams]⟩

/-- R123, R125: after a trigger the law holds, whatever the scores and the roster have become. -/
theorem StandingsLaw.triggered {s u : State} (h : StandingsLaw s) (trigger : Triggered s u) : StandingsLaw u := by
  obtain ⟨published, -, runs⟩ := h
  unfold Triggered at trigger
  by_cases running : s.sorter.running = true
  · rw [if_pos running] at trigger
    unfold StandingsLaw
    rw [trigger]
    exact ⟨published, fun stopped => absurd (running.symm.trans stopped) (by decide), fun _ => ⟨(runs running).1, nofun⟩⟩
  · rw [if_neg running] at trigger
    exact standingsLaw_started (s := u) (by rw [trigger]; exact published) (by rw [trigger]) (by rw [trigger]) rfl

/-- R124, R125: the Sorter after the publication step. -/
theorem publish_sorter (s : State) : (publish s).sorter =
    if s.sorter.rerank then
      { published := s.sorter.working, working := rankedStandings s, running := true, rerank := false, start := s.now }
    else { s.sorter with published := s.sorter.working, working := [], running := false } := by
  have ranked (x : Sorter) : rankedStandings ((reportChange countsStandings (s.withSorter x)).withSorter
      { x with rerank := false }) = rankedStandings s := rankedStandings_congr (by simp) (by simp)
  simp only [publish, reportChange_sorter, withSorter_sorter]
  split
  · simp [startRanking, ranked]
  · simp

/-- R124, R125: a pass that runs publishes a lawful list, and starts anew when a trigger has overtaken it. -/
theorem StandingsLaw.published {s : State} (h : StandingsLaw s) (running : s.sorter.running = true) :
    StandingsLaw (publish s) := by
  obtain ⟨-, -, runs⟩ := h
  obtain ⟨ranks, lists⟩ := runs running
  have sorter := publish_sorter s
  by_cases overtaken : s.sorter.rerank = true
  · rw [if_pos overtaken] at sorter
    exact standingsLaw_started (s := s) (by rw [sorter]; exact ranks) (by rw [sorter]) (by rw [sorter]) (publish_teams s)
  · rw [if_neg overtaken] at sorter
    unfold StandingsLaw
    rw [sorter]
    exact ⟨ranks, fun _ => (lists (by simpa using overtaken)).congr fun t => by rw [publish_teams], nofun⟩

end Sys2Proof.Machine
end

section
/-! SUPPORT. A relation of states through every outcome of a command: quiet movements are in it, it chains, and then the work of the
command alone is left to show. -/

namespace Sys2Proof.Machine

/-- A relation that quiet movements are in and that chains. -/
structure StepRelation (R : State → State → Prop) : Prop where
  quiet : ∀ {s u : State}, Quiet s u → R s u
  trans : ∀ {s u t : State}, R s u → R u t → R s t

namespace StepRelation

variable {R : State → State → Prop} {s t u : State}

theorem refl (r : StepRelation R) (s : State) : R s s := r.quiet (.refl _ s)

theorem of_finish (r : StepRelation R) (h : finish u = .next t) (work : R s u) : R s t := by
  cases h; exact r.trans work (r.quiet (settleLinks_quiet u))

theorem of_whenDue (r : StepRelation R) {due : Bool} {event : State → State} (h : Machine.whenDue due event s = .next t)
    (work : due = true → R s (event s)) : R s t := by
  unfold Machine.whenDue at h
  split at h
  · exact r.of_finish h (work ‹_›)
  · cases h; exact r.refl s

/-- A request's execution: its REPLY is quiet, and so is a refusal of the Hub Agent's own (R157, R158). -/
theorem of_executeRequest (r : StepRelation R) {payload : List Byte} {execute : State → Executed}
    (h : Machine.executeRequest payload execute s = .next t) (work : R s (execute s).state) : R s t := by
  have checked : R s (checkedExecution payload execute s).state := by
    unfold checkedExecution
    split
    · exact r.quiet (withFree_quiet s _)
    · split
      · exact work
      · exact r.refl s
  unfold Machine.executeRequest at h
  split at h
  · cases h
    exact r.trans checked (r.quiet (replied_quiet payload _ _ _))
  · cases h; exact r.refl s

theorem of_runAction (r : StepRelation R) {payload : List Byte} {act : State → State × Status}
    (h : Machine.runAction payload act s = .next t) (work : R s (act s).1) : R s t := r.of_executeRequest h work

theorem of_onPort (r : StepRelation R) {payload : List Byte} {port : Byte} {act : Fin 4 → State → State × Status}
    (h : Machine.runAction payload (fun s => onPort port (fun p => act p s) s) s = .next t)
    (work : ∀ p, R s (act p s).1) : R s t := by
  refine r.of_runAction h ?_
  unfold onPort
  split
  · exact work _
  · exact r.refl s

theorem of_runRead (r : StepRelation R) {table : Table} {tag first count : Byte} (h : runRead table tag first count s = .next t)
    (work : ∀ returned, R s (clearReadFlags table first.toNat returned s)) : R s t := by
  refine r.of_executeRequest h ?_
  unfold executeRead
  split
  · exact r.quiet (withFree_quiet s _)
  · exact r.trans (work _) (r.quiet (withFree_quiet _ _))

theorem of_runWrite (r : StepRelation R) {table : Table} {tag first : Byte} {records : List Byte}
    (h : runWrite table tag first records s = .next t) (work : ∀ rs, R s (recordOutcomes table first.toNat rs s).2) : R s t := by
  refine r.of_executeRequest h ?_
  unfold executeWrite
  dsimp only
  split
  · exact r.quiet (withFree_quiet s _)
  · rw [writeRecords_outcomes]
    exact r.trans (work _) (r.quiet (withFree_quiet _ _))

/-- A frame of a link: taken, and then its receiver goes on, or discarded (R142, R143). -/
theorem of_takeGood (r : StepRelation R) {link : Link} {cls : Byte} {a : Arrival} {take : List Byte → State → State}
    (h : takeGood link cls a take s = .next t) (work : ∀ payload, R s (take payload s)) : R s t := by
  unfold takeGood at h
  split at h
  · exact r.of_finish h (r.trans (work _) (r.quiet (receiveOn_quiet _ _ _ _ _)))
  · exact r.of_finish h (r.quiet (discardFrame_quiet _ _ _ _ _))

/-- A CUE frame: its action, and the frame offered on (R7, R8). -/
theorem of_takeCue (r : StepRelation R) (work : ∀ c x, R s (cueAction c x s).1) (payload : List Byte) : R s (takeCue payload s) := by
  have run (c : CueEntry) : R s (runCue c s) := by
    unfold runCue
    dsimp only
    (repeat' split)
    · exact r.quiet (raiseNotice_quiet _ s)
    · exact r.trans (work _ _) (r.quiet (raiseNotice_quiet _ _))
    · exact work _ _
  unfold takeCue
  split
  · exact r.quiet (offerPass_quiet _ s)
  · split
    · exact run _
    · exact r.trans (run _) (r.quiet ((wallChoose_quiet _).trans (offerPass_quiet _ _)))

end StepRelation

end Sys2Proof.Machine
end

section
/-! SUPPORT. The commands that leave every team's score as it is (R107), and the standings lawful (R122 to R125). -/

namespace Sys2Proof.Machine

/-- Every total and correct count stands, the Commit Record stands or is no longer valid, and lawful standings stay so. -/
structure ScoresKept (s u : State) : Prop where
  table : u.score.table = s.score.table
  commit : u.score.commit = s.score.commit ∨ u.score.commit.valid = false
  standings : StandingsLaw s → StandingsLaw u

theorem ScoresKept.of_same {s u : State} (table : u.score.table = s.score.table) (commit : u.score.commit = s.score.commit)
    (sorter : u.sorter = s.sorter) (teams : u.teams = s.teams) : ScoresKept s u :=
  ⟨table, .inl commit, fun h => h.congr sorter fun t => by rw [teams]⟩

theorem ScoresKept.trans {s u t : State} (h : ScoresKept s u) (g : ScoresKept u t) : ScoresKept s t :=
  ⟨g.table.trans h.table, g.commit.elim (fun same => same ▸ h.commit) .inr, g.standings ∘ h.standings⟩

theorem scoresKept_step : StepRelation ScoresKept where
  quiet h := .of_same (congrArg Score.table (h .score (by decide))) (congrArg Score.commit (h .score (by decide)))
    (h .sorter (by decide)) (h .teams (by decide))
  trans := .trans

/-! ## The roster (R31) -/

/-- R31, R123: a stored team triggers a pass when its active flag changes. -/
theorem storeTeam_scoresKept (t : Fin 16) (x : Team) (s : State) : ScoresKept s (storeTeam t x s) := by
  refine ⟨by simp, .inl (by simp), fun h => ?_⟩
  have sorter := storeTeam_ranked (t := t) (x := x) (s := s) (.refl _ _)
  by_cases same : x.active = s.teams[t].active
  · rw [if_pos same] at sorter
    refine h.congr sorter fun o => ?_
    rw [storeTeam_teams, vector_set_get]
    split
    · rename_i at_; rw [at_, same]
    · rfl
  · rw [if_neg same] at sorter
    exact h.triggered sorter

/-- R31: of the tables that WRITEs set the roster alone bears on the standings. -/
theorem RecordStore.scoresKept {r : List Byte} {s u : State} (h : RecordStore r s u) : ScoresKept s u := by
  cases h with
  | team t =>
    unfold writeTeam
    (repeat' split)
    · exact scoresKept_step.refl s
    · exact scoresKept_step.refl s
    · exact storeTeam_scoresKept _ _ s
  | refused => exact scoresKept_step.refl s
  | seat | question | cue | sequence | step | port | config => exact .of_same (by simp) (by simp) (by simp) (by simp)

theorem recordOutcomes_scoresKept (t : Table) (i : Nat) (rs : List (List Byte)) (s : State) :
    ScoresKept s (recordOutcomes t i rs s).2 :=
  recordOutcomes_stores (P := ScoresKept s) (fun _ _ _ store kept => kept.trans store.scoresKept) t rs i s (scoresKept_step.refl s)

/-! ## The Preset Loader (R173, R174) -/

theorem walkSection_scoresKept (s : State) : ScoresKept s (walkSection s) := by
  have loader {u : State} (x : Loader) : ScoresKept u (u.withLoader x) := .of_same rfl rfl rfl rfl
  obtain ⟨u, e, -, rfl | ⟨t, i, rs, rfl⟩⟩ := walkSection_cases s
  · rw [e]; exact loader _
  · rw [e]; exact (recordOutcomes_scoresKept t i rs s).trans (loader _)

theorem resetTables_scoresKept (s : State) : ScoresKept s (resetTables s) := by
  have seats : ScoresKept s ((List.finRange 256).foldl (fun s k => assignTeam k none s) s) :=
    foldl_invariant _ (ScoresKept s) (fun _ _ h => h.trans (.of_same (by simp) (by simp) (by simp) (by simp))) _ _
      (scoresKept_step.refl s)
  have teams (v : State) : ScoresKept v ((List.finRange 16).foldl (fun s t => storeTeam t Team.reset s) v) :=
    foldl_invariant _ (ScoresKept v) (fun u t h => h.trans (storeTeam_scoresKept t _ u)) _ _ (scoresKept_step.refl v)
  exact (seats.trans (teams _)).trans (.of_same (by simp [resetTables]) (by simp [resetTables]) (by simp [resetTables])
    (by simp [resetTables]))

theorem endLoad_scoresKept (r : LoadResult) (s : State) : ScoresKept s (endLoad r s) := by
  have begun : ScoresKept s (s.withLoader { s.loader with result := r, refused := s.loader.count }) := .of_same rfl rfl rfl rfl
  have acted (u : State) : ScoresKept u (loadAction r u) := by
    cases r with
    | none | empty => exact scoresKept_step.refl u
    | loaded =>
      exact .of_same (by simp [loadAction, autostart_same]) (by simp [loadAction, autostart_same])
        (foldl_keeps _ State.sorter (fun s p => by split <;> simp) _ _) (by simp [loadAction, autostart_same])
    | failed => exact resetTables_scoresKept u
  rw [endLoad_eq]
  exact (begun.trans (acted _)).trans (.of_same (by simp) (by simp) (by simp) (by simp))

/-! ## The warm restart (R107, R108, R122, R166) -/

theorem warmRestart_scoresKept (s : State) : ScoresKept s (warmRestart s) := by
  refine ⟨by simp [warmRestart, Score.restarted], .inr (by simp [warmRestart, Score.restarted]), fun h => ?_⟩
  obtain ⟨published, -, -⟩ := h
  refine standingsLaw_started (s := warmRestart s) ?_ ?_ ?_ rfl
  · simpa [warmRestart, startRanking] using published
  · simp [warmRestart, startRanking]
  · rw [rankedStandings_congr (t := s) (by simp [warmRestart]) (by simp [warmRestart, Score.restarted])]
    simp only [warmRestart, startRanking, startCompose_sorter, placeBurst_sorter, withSorter_sorter]
    exact rankedStandings_congr (by simp) (by simp [Score.restarted])

/-! ## Every command -/

/-- The commands that set a team's score or publish a list. -/
def movesScores : Instr → Bool
  | .hardReset .. | .applicationStep | .publicationStep | .actRevoke .. | .actAdjust .. | .actClearScores .. => true
  | _ => false

/-- R107, R124: by the owner of each command. -/
theorem exec_scoresKept {c : Instr} {s t : State} (h : exec c s = .next t) (other : movesScores c = false) : ScoresKept s t := by
  have r := scoresKept_step
  cases c with
  | hardReset | applicationStep | publicationStep | actRevoke | actAdjust | actClearScores => cases other
  | warmRestart => exact r.of_whenDue h fun _ => warmRestart_scoresKept s
  | consoleFrameEnd =>
    refine r.of_whenDue h fun _ => ?_
    unfold endConsoleFrame
    split
    · exact warmRestart_scoresKept s
    · exact .of_same rfl rfl rfl rfl
  | showTimeTick => cases h; exact .of_same rfl rfl rfl rfl
  | linkFrameDiscarded => exact r.of_whenDue h fun _ => r.quiet (discardFrame_quiet _ _ _ _ s)
  | pass =>
    simp only [exec, execPass] at h
    exact r.of_takeGood h fun _ => r.quiet (offerPass_quiet _ s)
  | cue =>
    refine r.of_takeGood h (r.of_takeCue fun c x => ?_)
    cases c <;> exact .of_same (by simp [cueAction]) (by simp [cueAction]) (by simp [cueAction]) (by simp [cueAction])
  | hubRequest => exact r.of_takeGood h fun _ => r.quiet (takeRequest_quiet _ s)
  | mark =>
    simp only [exec, execMark] at h
    exact r.of_takeGood h fun _ => .of_same (by simp) (by simp) (by simp) (by simp)
  | report => exact r.of_takeGood h fun _ => r.quiet (takeReport_quiet _ s)
  | readSeats | readTeams | readQuestions | readCues | readSequences | readSteps | readPortcfg | readConfig | readResponses
  | readBuzzq | readJudged | readScores | readStandings | readCommit | readPortstat =>
    exact r.of_runRead h fun _ => .of_same (by simp) (by simp) (by simp) (by simp)
  | writeSeats | writeTeams | writeQuestions | writeCues | writeSequences | writeSteps | writePortcfg | writeConfig =>
    exact r.of_runWrite h fun rs => recordOutcomes_scoresKept _ _ rs s
  | actOpen | actNext | actClose | actCommit | actCancel | actJudge | showReveal | showStopSequence | showFreeze | showThaw
  | showCurtainOn | showCurtainOff | showResting => exact r.of_runAction h (.of_same (by simp) (by simp) (by simp) (by simp))
  | portStart | portStop | portRollCall =>
    exact r.of_onPort h fun p => .of_same (by simp [stopAction]) (by simp [stopAction]) (by simp [stopAction]) (by simp [stopAction])
  | reload tag flash =>
    refine r.of_runAction h ?_
    unfold reloadAction
    split <;> exact .of_same rfl rfl rfl rfl
  | status => exact r.of_executeRequest h (r.quiet (clearLatched_quiet s))
  | requestMalformed payload =>
    simp only [exec, execRequestMalformed] at h
    (repeat' split at h)
    · exact r.of_finish h (r.quiet ((placeReply_quiet _ _ _ s).trans (nextRequest_quiet _)))
    · cases h; exact r.refl s
    · exact r.of_executeRequest h (r.refl s)
    · cases h; exact r.refl s
  | readUnknownTable =>
    simp only [exec, execReadUnknownTable] at h
    split at h
    · cases h; exact r.refl s
    · exact r.of_executeRequest h (r.quiet (withFree_quiet s _))
  | writeReadOnlyTable =>
    simp only [exec, execWriteReadOnlyTable] at h
    split at h
    · exact r.of_executeRequest h (r.quiet (withFree_quiet s _))
    · cases h; exact r.refl s
  | restart tag =>
    simp only [exec, execRestart] at h
    (repeat' split at h)
    · exact r.of_finish h (r.quiet ((placeReply_quiet _ _ _ s).trans (nextRequest_quiet _)))
    · exact r.of_finish h (r.quiet (restartTaken_quiet tag s))
    · cases h; exact r.refl s
  | handsetFrameReceived => exact r.of_finish h (.of_same rfl rfl rfl rfl)
  | sweepEnd p =>
    simp only [exec, execSweepEnd] at h
    split at h
    · exact r.of_whenDue h fun _ => .of_same (by simp) (by simp) (by simp) (by simp)
    · cases h; exact r.refl s
  | wallFrameEnd =>
    simp only [exec, execWallFrameEnd] at h
    split at h
    · exact r.of_finish h (r.quiet (endWallFrame_quiet _ s))
    · cases h; exact r.refl s
  | loadEnd =>
    simp only [exec, execLoadEnd] at h
    split at h
    · exact r.of_finish h (endLoad_scoresKept _ s)
    · cases h; exact r.refl s
  | frameHandoff | walkSeatVisit =>
    simp only [exec, execFrameHandoff, execWalkSeatVisit] at h
    split at h
    · exact r.of_finish h (.of_same (by simp) (by simp) (by simp) (by simp))
    · cases h; exact r.refl s
  | inboxTake =>
    simp only [exec, execInboxTake] at h
    split at h
    · exact r.of_finish h (.of_same (by simp) (by simp) (by simp) (by simp))
    · cases h; exact r.refl s
    · cases h; exact r.refl s
  | presetSection => exact r.of_whenDue h fun _ => walkSection_scoresKept s
  | idleFillExpiry => exact r.of_whenDue h fun _ => .of_same rfl rfl rfl rfl
  | tallyTimerExpiry | seatTimerExpiry | wakeTimerExpiry | sweepStart | breakBegin | lineIdleChange | breakEnd
  | windowExpiry | settleExpiry | headSettleExpiry | answerTimerExpiry | composeEnd | wallSilentExpiry | internalMark =>
    exact r.of_whenDue h fun _ => .of_same (by simp) (by simp) (by simp) (by simp)

end Sys2Proof.Machine
end

section
/-! SUPPORT. REVOKE, ADJUST and CLEAR_SCORES (R119 to R121), and the publication of a ranking pass (R122 to R125). -/

namespace Sys2Proof.Machine

/-! ## A new score table, its notice and the trigger (R119 to R121, R123) -/

/-- A Score Unit stored, a notice raised and a ranking pass triggered: what REVOKE, ADJUST and CLEAR_SCORES come to. -/
def scoresChanged (x : Score) (body : NoticeBody) (s : State) : State := triggerRanking (raiseNotice body (s.withScore x))

theorem scoresChanged_keeps (x : Score) (body : NoticeBody) (s : State) :
    Keeps [.score, .sorter, .notices, .noticeLost] s (scoresChanged x body s) := by
  intro b hb; unfold scoresChanged; cases b <;> simp [Block.same] at hb ⊢

theorem scoresChanged_score (x : Score) (body : NoticeBody) (s : State) : (scoresChanged x body s).score = x := by
  simp [scoresChanged]

theorem scoresChanged_triggers (x : Score) (body : NoticeBody) {s u : State} (sorter : u.sorter = (scoresChanged x body s).sorter)
    (teams : u.teams = s.teams) (score : u.score = x) : Triggered s u :=
  triggered_of (raiseNotice body (s.withScore x)) sorter (by simp) (by simp) (by simpa using teams) (by simp [score])

theorem scoresChanged_notices (x : Score) (body : NoticeBody) {s u : State}
    (notices : u.hub.notices = (scoresChanged x body s).hub.notices)
    (lost : u.hub.noticeLost = (scoresChanged x body s).hub.noticeLost) : NoticesRaised [body] s u := by
  unfold NoticesRaised
  rw [notices, lost]
  simp [scoresChanged, raiseAll]

/-- R162: the action that changes the scores so is executed, its REPLY placed, and the rest of the state stands. -/
theorem scoresChanged_completes {c : Instr} {payload : List Byte} {act : State → State × Status} {s : State} {st : Status}
    {x : Score} {body : NoticeBody} (run : exec c s = runAction payload act s) (e : Executing payload s)
    (fits : payloadFits payload = true) (gives : act s = (scoresChanged x body s, st)) :
    ∃ u, exec c s = .next (settleLinks u) ∧ Replied [payload.getD 0 0, payload.getD 1 0, st.code] s u ∧ u.score = x
      ∧ NoticesRaised [body] s u ∧ Triggered s u ∧ Keeps [.score, .sorter, .notices, .noticeLost, .replies, .agent] s u := by
  have changed := scoresChanged_keeps x body s
  obtain ⟨u, done, replied, kept⟩ := act_completes run e fits gives (changed.desk (by decide) (by decide) (by decide))
  have score : u.score = x := (kept .score (by decide)).trans (scoresChanged_score x body s)
  exact ⟨u, done, replied, score, scoresChanged_notices x body (kept .notices (by decide)) (kept .noticeLost (by decide)),
    scoresChanged_triggers x body (kept .sorter (by decide))
      ((kept .teams (by decide)).trans (changed .teams (by decide))) score,
    Keeps.then_reply _ changed kept⟩

/-! ## REVOKE (R119) -/

/-- The Score Unit after a REVOKE. -/
def revokedUnit (s : State) : Score :=
  { s.score with table := Vector.ofFn (revokedScore s), commit := { s.score.commit with valid := false } }

theorem revoke_eq (s : State) : revoke s = scoresChanged (revokedUnit s) (.revoked s.score.commit.question s.score.commit.points
    s.score.commit.correct (Vector.ofFn fun t => s.score.table[t].total - s.score.commit.points[t])) s := by
  simp [revoke, scoresChanged, revokedUnit, revokedScore]

theorem revokeAction_badState {s : State} (h : s.round.state ≠ .idle) : revokeAction s = (s, .badState) := if_pos h

theorem revokeAction_badValue {s : State} (idle : s.round.state = .idle) (h : s.score.commit.valid = false) :
    revokeAction s = (s, .badValue) := by
  unfold revokeAction
  rw [if_neg (not_not.mpr idle), h]; rfl

theorem revokeAction_taken {s : State} (idle : s.round.state = .idle) (h : s.score.commit.valid = true) :
    revokeAction s = (revoke s, .ok) := by
  unfold revokeAction
  rw [if_neg (not_not.mpr idle), h]; rfl

/-- R115, R119: what the application step applied to a team in range, a REVOKE takes back. -/
theorem revoked_of_committed {s v : State} (range : TotalsInRange s) (table : v.score.table = Vector.ofFn (committedScore s))
    (points : v.score.commit.points = Vector.ofFn (appliedPoints s)) (correct : v.score.commit.correct = Vector.ofFn (appliedCorrect s))
    (n : Fin 16) :
    (revokedScore v n).total = s.score.table[n].total ∧ (revokedScore v n).correct = s.score.table[n].correct := by
  obtain ⟨-, -, right, -⟩ := range n
  simp only [revokedScore, table, points, correct, Fin.getElem_fin, Vector.getElem_ofFn, Fin.eta, committedScore, appliedPoints,
    appliedCorrect, clampCorrect] at right ⊢
  exact ⟨by omega, by omega⟩

/-- R109: the application step is due once the walk has visited the last seat. -/
theorem applicationDue_of {s : State} (walking : s.score.walk.walking = true) (seats : 256 ≤ s.score.walk.position)
    (ticked : 0 < since s.now s.score.walk.start) : applicationDue s = true := by
  unfold applicationDue tickPassed
  rw [walking, decide_eq_true seats, decide_eq_true ticked]; rfl

/-- R119: a valid Commit Record is taken back in IDLE. -/
theorem revoke_completes {tag : Byte} {s : State} (e : Executing [tag, 3, 7] s) (idle : s.round.state = .idle)
    (valid : s.score.commit.valid = true) :
    ∃ u, exec (.actRevoke tag) s = .next (settleLinks u) ∧ Replied [tag, 3, 0] s u ∧ u.score = revokedUnit s
      ∧ NoticesRaised [.revoked s.score.commit.question s.score.commit.points s.score.commit.correct
          (Vector.ofFn fun t => s.score.table[t].total - s.score.commit.points[t])] s u ∧ Triggered s u
      ∧ Keeps [.score, .sorter, .notices, .noticeLost, .replies, .agent] s u :=
  scoresChanged_completes (act := revokeAction) rfl e rfl ((revokeAction_taken idle valid).trans (by rw [revoke_eq]))

/-- Settles O42. -/
theorem revokeTakesBackTheLastCommitExactlyOnce : Obligations.RevokeTakesBackTheLastCommitExactlyOnce := by
  refine ⟨fun tag s e => ?_, fun tag s t v w range walking seats ticked commits score idle e revokes n => ?_⟩
  · by_cases busy : s.round.state ≠ .idle
    · obtain ⟨u, run, refused⟩ := act_refuses (c := .actRevoke tag) (act := revokeAction) rfl e rfl (revokeAction_badState busy)
      exact ⟨u, run, (if_pos busy).mpr refused⟩
    have idle := not_not.mp busy
    by_cases valid : s.score.commit.valid = false
    · obtain ⟨u, run, refused⟩ :=
        act_refuses (c := .actRevoke tag) (act := revokeAction) rfl e rfl (revokeAction_badValue idle valid)
      exact ⟨u, run, (if_neg busy).mpr ((if_pos valid).mpr refused)⟩
    · obtain ⟨u, run, replied, unit, rest⟩ := revoke_completes e idle (by simpa using valid)
      refine ⟨u, run, (if_neg busy).mpr ((if_neg valid).mpr ⟨replied, fun t => ?_, by rw [unit]; rfl, by rw [unit]; rfl, rest⟩)⟩
      rw [unit]
      simp [revokedUnit, revokedScore]
  · have applied : exec .applicationStep s = .next (settleLinks (applicationStep s)) :=
      if_pos (applicationDue_of walking seats ticked)
    obtain rfl : settleLinks (applicationStep s) = t := Host.Outcome.next.inj (applied.symm.trans commits)
    rw [settleLinks_score] at score
    obtain ⟨table, commit, -⟩ := applicationStep_score s
    rw [← score] at table commit
    obtain ⟨u, run, -, unit, -⟩ := revoke_completes e idle (by rw [commit])
    obtain rfl : settleLinks u = w := Host.Outcome.next.inj (run.symm.trans revokes)
    rw [settleLinks_score, unit]
    simpa [revokedUnit] using revoked_of_committed range table (by rw [commit]) (by rw [commit]) n

/-! ## ADJUST (R120) -/

/-- The Score Unit after an ADJUST of one team by a delta. -/
def adjustedUnit (t : Fin 16) (delta : Int) (s : State) : Score :=
  { s.score with
    table := s.score.table.set t (adjustedScore s.score.table[t] delta)
    commit := { s.score.commit with valid := false } }

theorem clampInt_eq (x lo hi : Int) (h : lo ≤ hi) : clampInt x lo hi = max lo (min hi x) := by
  unfold clampInt; omega

theorem adjustedUnit_table (t x : Fin 16) (delta : Int) (s : State) : (adjustedUnit t delta s).table[x] =
    if x = t then adjustedScore s.score.table[t] delta else s.score.table[x] := vector_set_get _ _ _ _

/-- R120: the two clamps of an ADJUST, and its status. -/
theorem adjustAction_taken {team : Byte} {t : Fin 16} (named : finOf 16 team.toNat = some t) (requested : Int) (s : State) :
    let d := max (-999) (min 999 requested)
    let total := max (-9999) (min 99999 (s.score.table[t].total + d))
    adjustAction team requested s =
      (scoresChanged (adjustedUnit t d s) (.adjusted t requested (total - s.score.table[t].total) total) s,
        if d = requested ∧ total = s.score.table[t].total + d then .ok else .clamped) := by
  unfold adjustAction
  rw [named]
  dsimp only
  simp only [scoresChanged, adjustedUnit, adjustedScore, clampTotal_eq, clampInt_eq requested (-999) 999 (by decide), ne_eq,
    ← not_and_or, ite_not]

/-- R120: the status byte of an ADJUST (12.1). -/
theorem okOrClamped_code (exact_ : Prop) [Decidable exact_] :
    (if exact_ then Status.ok else Status.clamped).code = if exact_ then 0 else 1 := by
  split <;> rfl

/-- Settles O43. -/
theorem adjustMovesOneTotalWithinItsRange : Obligations.AdjustMovesOneTotalWithinItsRange := by
  intro tag team delta s e
  have fits : payloadFits ([tag, 3, 8, team] ++ be16 delta.toNat) = true := rfl
  by_cases inside : team.toNat < 16
  · obtain ⟨u, run, replied, unit, rest⟩ := scoresChanged_completes (c := .actAdjust tag team delta)
      (act := adjustAction team delta.toInt) rfl e fits (adjustAction_taken (dif_pos inside) delta.toInt s)
    rw [okOrClamped_code] at replied
    refine ⟨u, run, (dif_pos inside).mpr ⟨replied, ?_, fun x other => ?_, by rw [unit]; rfl, by rw [unit]; rfl, rest⟩⟩
    · rw [unit, adjustedUnit_table, if_pos rfl]
      simp only [adjustedScore, clampTotal_eq]
    · rw [unit, adjustedUnit_table, if_neg other]
  · obtain ⟨u, run, refused⟩ := act_refuses (c := .actAdjust tag team delta) (act := adjustAction team delta.toInt) rfl e fits
      (st := .badValue) (by unfold adjustAction; rw [finOf_beyond (Nat.not_lt.mp inside)])
    exact ⟨u, run, (dif_neg inside).mpr refused⟩

/-! ## CLEAR_SCORES (R121) -/

/-- The Score Unit after CLEAR_SCORES. -/
def clearedUnit (s : State) : Score :=
  { s.score with table := Vector.replicate 16 ⟨0, 0, 0⟩, commit := { s.score.commit with valid := false } }

theorem clearScoresAction_badState {s : State} (h : s.round.state ≠ .idle) : clearScoresAction s = (s, .badState) := if_pos h

theorem clearScoresAction_taken {s : State} (h : s.round.state = .idle) :
    clearScoresAction s = (scoresChanged (clearedUnit s) .cleared s, .ok) := if_neg (not_not.mpr h)

/-- Settles O44. -/
theorem clearScoresZeroesEveryTeamInIdleAlone : Obligations.ClearScoresZeroesEveryTeamInIdleAlone := by
  intro tag s e
  by_cases idle : s.round.state = .idle
  · obtain ⟨u, run, replied, unit, rest⟩ := scoresChanged_completes (c := .actClearScores tag) (act := clearScoresAction) rfl e rfl
      (clearScoresAction_taken idle)
    refine ⟨u, run, (if_pos idle).mpr ⟨replied, fun t => ?_, by rw [unit]; rfl, by rw [unit]; rfl, rest⟩⟩
    rw [unit]
    exact replicate_get _ t
  · obtain ⟨u, run, refused⟩ :=
      act_refuses (c := .actClearScores tag) (act := clearScoresAction) rfl e rfl (clearScoresAction_badState idle)
    exact ⟨u, run, (if_neg idle).mpr refused⟩

/-! ## Publication (R123 to R125) -/

theorem countsStandings_iff (v : View) : countsStandings v = decide (v = .standings ∨ v = .topFive ∨ v = .teamCard) := by
  cases v <;> rfl

/-- R124, R128: the list published is reported to the views that show standings. -/
theorem publish_refreshed (s : State) : Refreshed (countsStandings (currentView s)) s (publish s) := by
  let a := s.withSorter { s.sorter with published := s.sorter.working, working := [], running := false }
  have comp : (publish s).comp = (reportChange countsStandings a).comp := by
    simp only [publish, a]
    split <;> simp [startRanking]
  have published : (publish s).sorter.published = s.sorter.working := by rw [publish_sorter]; split <;> rfl
  exact refreshed_of comp rfl rfl rfl fun _ => composedView_congr (by simp [a]) (by rw [comp, reportChange_player]) (by simp [a])
    (by simp [a]) (by simp [a]) (by simp [a]) (by simp [a]) (by simp [a]) (by rw [published]; rfl)

theorem publish_keeps (s : State) : Keeps [.sorter, .comp] s (publish s) := by
  intro b hb; cases b <;> simp [Block.same] at hb ⊢

/-- Settles O45. -/
theorem rankedListsAreOrderedAndPublished : Obligations.RankedListsAreOrderedAndPublished := by
  refine ⟨rankedStandings_ranked, fun s running ticked => ?_⟩
  refine whenDue_completes rfl ?_ ⟨publish_sorter s, countsStandings_iff _ ▸ publish_refreshed s, publish_keeps s⟩
  unfold publicationDue tickPassed
  rw [running, decide_eq_true ticked]; rfl

/-! ## The laws of the scores and the standings (R107, R108, R122 to R125) -/

/-- R108: a state with these scores, or with them and no valid Commit Record, is in range too. -/
theorem ScoresKept.totals {s u : State} (h : ScoresKept s u) (range : TotalsInRange s) : TotalsInRange u := by
  intro t
  obtain ⟨low, high, correct, record⟩ := range t
  rw [h.table]
  refine ⟨low, high, correct, fun valid => ?_⟩
  rcases h.commit with same | invalid
  · rw [same] at valid ⊢; exact record valid
  · rw [invalid] at valid; cases valid

/-- What a step leaves of both laws. -/
def LawsKept (s u : State) : Prop := (TotalsInRange s → TotalsInRange u) ∧ (StandingsLaw s → StandingsLaw u)

theorem ScoresKept.laws {s u : State} (h : ScoresKept s u) : LawsKept s u := ⟨h.totals, h.standings⟩

theorem lawsKept_step : StepRelation LawsKept where
  quiet h := (scoresKept_step.quiet h).laws
  trans h g := ⟨g.1 ∘ h.1, g.2 ∘ h.2⟩

/-- R107: a clamped total and a clamped correct count. -/
theorem clampTotal_bounds (x : Int) : -9999 ≤ clampTotal x ∧ clampTotal x ≤ 99999 := by
  rw [clampTotal_eq]; omega

theorem revokedUnit_get (t : Fin 16) (s : State) : (revokedUnit s).table[t] = revokedScore s t := by
  simp [revokedUnit]

/-- R119: a REVOKE returns every team to what the Commit Record keeps in range. -/
theorem revokeAction_laws (s : State) : LawsKept s (revokeAction s).1 := by
  by_cases busy : s.round.state ≠ .idle
  · rw [revokeAction_badState busy]; exact lawsKept_step.refl s
  by_cases valid : s.score.commit.valid = false
  · rw [revokeAction_badValue (not_not.mp busy) valid]; exact lawsKept_step.refl s
  rw [revokeAction_taken (not_not.mp busy) (by simpa using valid), revoke_eq]
  refine ⟨fun range t => ?_, fun law => law.triggered (scoresChanged_triggers _ _ rfl
    (scoresChanged_keeps _ _ s .teams (by decide)) (scoresChanged_score _ _ s))⟩
  obtain ⟨-, -, correct, record⟩ := range t
  obtain ⟨low, high, -⟩ := record (by simpa using valid)
  rw [scoresChanged_score, revokedUnit_get]
  exact ⟨low, high, (Nat.sub_le _ _).trans correct, nofun⟩

/-- R120: an ADJUST clamps its new total. -/
theorem adjustAction_laws (team : Byte) (requested : Int) (s : State) : LawsKept s (adjustAction team requested s).1 := by
  cases named : finOf 16 team.toNat with
  | none =>
    unfold adjustAction
    rw [named]
    exact lawsKept_step.refl s
  | some o =>
    rw [adjustAction_taken named]
    refine ⟨fun range t => ?_, fun law => law.triggered (scoresChanged_triggers _ _ rfl
      (scoresChanged_keeps _ _ s .teams (by decide)) (scoresChanged_score _ _ s))⟩
    obtain ⟨low, high, correct, -⟩ := range t
    dsimp only
    rw [scoresChanged_score, adjustedUnit_table]
    split
    · exact ⟨(clampTotal_bounds _).1, (clampTotal_bounds _).2, (range o).2.2.1, nofun⟩
    · exact ⟨low, high, correct, nofun⟩

theorem clearScoresAction_laws (s : State) : LawsKept s (clearScoresAction s).1 := by
  by_cases idle : s.round.state = .idle
  · rw [clearScoresAction_taken idle]
    refine ⟨fun _ t => ?_, fun law => law.triggered (scoresChanged_triggers _ _ rfl
      (scoresChanged_keeps _ _ s .teams (by decide)) (scoresChanged_score _ _ s))⟩
    dsimp only
    rw [scoresChanged_score, show (clearedUnit s).table[t] = ⟨0, 0, 0⟩ from replicate_get _ t]
    exact ⟨by decide, by decide, by decide, nofun⟩
  · rw [clearScoresAction_badState idle]; exact lawsKept_step.refl s

/-- R115: what the application step stores is clamped, and its Commit Record returns each team to a total in range. -/
theorem applicationStep_totals {s : State} (range : TotalsInRange s) : TotalsInRange (applicationStep s) := by
  intro t
  obtain ⟨low, high, correct, -⟩ := range t
  obtain ⟨table, commit, -⟩ := applicationStep_score s
  obtain ⟨clampedLow, clampedHigh⟩ := clampTotal_bounds (s.score.table[t].total + contribution s t)
  rw [table, commit]
  simp only [Fin.getElem_fin, Vector.getElem_ofFn, Fin.eta, committedScore, appliedPoints, appliedCorrect, clampCorrect] at *
  refine ⟨clampedLow, clampedHigh, by omega, fun _ => ⟨by omega, by omega, by omega⟩⟩

end Sys2Proof.Machine
end

section
/-! SUPPORT. The application step (R112 to R117, R21): the state it leaves before the pending open is taken, part by part. -/

namespace Sys2Proof.Machine

/-! ## The steps of R115 -/

/-- R115 steps 1 to 6: the scores applied, the result lamps lit, the COMMITTED event raised and a ranking pass triggered. -/
def commitApplied (s : State) : State :=
  triggerRanking (raiseNotice (committedNotice s (resultLamps (applyCommit s))) (resultLamps (applyCommit s)))

/-- R115 step 7: the reveal of the question played. -/
def commitRevealed (s : State) : State := revealAfterCommit (headerQuestion (commitApplied s)).reveal (commitApplied s)

/-- R109: the walk is over. -/
def walkEnded (s : State) : State := s.withScore { s.score with walk := { s.score.walk with walking := false } }

/-- R115 step 8, R21: the round moved to IDLE. -/
def commitMoved (s : State) : State := moveRound .idle false (walkEnded (commitRevealed s))

/-- R115 step 8, R21: the round in IDLE with its pending teams and lamps, the pending open not yet taken. Irreducible: what
becomes of the pending open is said by cases on it, and unfolding it there would run the folds over the seats. -/
@[irreducible] def commitEnded (s : State) : State := lampsOff isResultLamp (applyPending true (commitMoved s))

theorem commitEnded_eq (s : State) : commitEnded s = lampsOff isResultLamp (applyPending true (commitMoved s)) := by
  unfold commitEnded; rfl

theorem applicationStep_eq (s : State) : applicationStep s = takePendingOpen (commitEnded s) := by
  rw [commitEnded_eq]; rfl

/-- R14: the application step is its commit, and then the pending open. -/
theorem applicationStep_taken (s : State) : PendingTaken (commitEnded s) (applicationStep s) := by
  rw [applicationStep_eq]; exact takePendingOpen_taken _

theorem commitApplied_question (s : State) : headerQuestion (commitApplied s) = headerQuestion s := by
  simp [headerQuestion, commitApplied, applyCommit]

theorem commitRevealed_eq (s : State) :
    commitRevealed s = revealAfterCommit (headerQuestion s).reveal (commitApplied s) := by
  rw [commitRevealed, commitApplied_question]

/-! ## The scores, the standings and the round (R113 to R115, R123, R21) -/

theorem commitEnded_score (s : State) : (commitEnded s).score = (applicationStep s).score := by
  rw [applicationStep_eq, takePendingOpen_score]

theorem commitEnded_sorter (s : State) : (commitEnded s).sorter = (commitApplied s).sorter := by
  simp [commitEnded_eq, commitMoved, commitRevealed, walkEnded]

theorem commitEnded_triggers (s : State) : Triggered s (commitEnded s) := by
  refine triggered_of (raiseNotice (committedNotice s (resultLamps (applyCommit s))) (resultLamps (applyCommit s)))
    (commitEnded_sorter s) ?_ ?_ ?_ ?_ <;>
  simp [commitEnded_eq, commitMoved, commitRevealed, commitApplied, walkEnded, applyCommit]

theorem commitEnded_round (s : State) : (commitEnded s).round = { s.round with state := .idle } := by
  simp [commitEnded_eq, commitMoved, commitRevealed, commitApplied, walkEnded, applyCommit, moveRound]

theorem commitEnded_resp (s : State) :
    (commitEnded s).resp = { s.resp with header := { s.resp.header with committed := true } } := by
  simp [commitEnded_eq, commitMoved, commitRevealed, commitApplied, walkEnded, applyCommit]

theorem commitEnded_keeps (s : State) :
    Keeps [.score, .resp, .seats, .ports, .round, .comp, .sorter, .notices, .noticeLost, .seatList] s (commitEnded s) := by
  intro b hb
  cases b <;> simp [Block.same] at hb ⊢ <;> simp [commitEnded_eq, commitMoved, commitRevealed, commitApplied, walkEnded, applyCommit]

/-- R122, R123: the application step triggers a pass. -/
theorem applicationStep_laws (s : State) : LawsKept s (applicationStep s) :=
  ⟨applicationStep_totals, fun law => (law.triggered (commitEnded_triggers s)).congr
    (by rw [applicationStep_eq, takePendingOpen_sorter]) fun t => by rw [applicationStep_eq, takePendingOpen_teams]⟩

/-- R115: the step happens once the walk has visited the last seat. -/
theorem applicationStep_completes {s : State} {P : State → Prop} (walking : s.score.walk.walking = true)
    (seats : 256 ≤ s.score.walk.position) (ticked : 0 < since s.now s.score.walk.start)
    (ended : P (commitEnded s)) : Completes .applicationStep s fun u => ∃ v, PendingTaken v u ∧ P v :=
  whenDue_completes (event := applicationStep) rfl (applicationDue_of walking seats ticked) ⟨_, applicationStep_taken s, ended⟩

/-! ## Contributions (R112 to R114) -/

theorem contribution_eq (s : State) (t : Fin 16) : contribution s t =
    if s.resp.header.kind = some .choice ∨ s.resp.header.kind = some .estimate then
      meanPoints s.score.walk.sums[t] (divisor s t)
    else if s.resp.header.kind = some .buzz then ((s.buzz.judged.filter fun j => j.team == t).map (·.points)).sum else 0 := by
  unfold contribution
  cases s.resp.header.kind with
  | none => rfl
  | some kind => cases kind <;> rfl

theorem correctDelta_eq (s : State) (t : Fin 16) : correctDelta s t =
    if s.resp.header.kind = some .choice ∨ s.resp.header.kind = some .estimate then s.score.walk.correct[t]
    else if s.resp.header.kind = some .buzz ∧ (∃ j ∈ s.buzz.judged, j.team = t ∧ j.verdict = .right) then 1 else 0 := by
  have right : (s.buzz.judged.any fun j => j.team == t && j.verdict == .right) = true
      ↔ ∃ j ∈ s.buzz.judged, j.team = t ∧ j.verdict = .right := by simp
  unfold correctDelta
  simp only [right]
  cases s.resp.header.kind with
  | none => rfl
  | some kind => cases kind <;> simp

/-- Settles O40. -/
theorem theApplicationStepCommitsTheContributions : Obligations.TheApplicationStepCommitsTheContributions := by
  intro s walking seats ticked
  refine applicationStep_completes walking seats ticked ?_
  intro kind walked n gain right
  obtain ⟨table, commit, walk⟩ := applicationStep_score s
  rw [← commitEnded_score] at table commit walk
  refine ⟨fun t => ?_, by rw [commit], by rw [commit], by rw [walk], commitEnded_triggers s, commitEnded_round s,
    commitEnded_resp s, commitEnded_keeps s⟩
  have gained : gain t = contribution s t := (contribution_eq s t).symm
  have counted : right t = correctDelta s t := (correctDelta_eq s t).symm
  rw [gained, counted, table, commit]
  simp [committedScore, appliedPoints, appliedCorrect, clampTotal_eq, clampCorrect]

/-! ## Every step (R107, R108, R122 to R125) -/

/-- The commands that set a team's score (R107). -/
theorem exec_table {c : Instr} {s t : State} (h : exec c s = .next t) (changed : t.score.table ≠ s.score.table) :
    c = .applicationStep ∨ (∃ tag, c = .actRevoke tag ∨ c = .actClearScores tag)
      ∨ (∃ tag team delta, c = .actAdjust tag team delta) ∨ ∃ strap flash, c = .hardReset strap flash := by
  cases moves : movesScores c with
  | false => exact absurd (exec_scoresKept h moves).table changed
  | true =>
    cases c with
    | applicationStep => exact .inl rfl
    | actRevoke tag => exact .inr (.inl ⟨tag, .inl rfl⟩)
    | actClearScores tag => exact .inr (.inl ⟨tag, .inr rfl⟩)
    | actAdjust tag team delta => exact .inr (.inr (.inl ⟨tag, team, delta, rfl⟩))
    | hardReset strap flash => exact .inr (.inr (.inr ⟨strap, flash, rfl⟩))
    | publicationStep =>
      refine absurd ?_ changed
      have r : StepRelation fun s u => u.score.table = s.score.table :=
        ⟨fun q => (scoresKept_step.quiet q).table, fun h g => g.trans h⟩
      exact r.of_whenDue h fun _ => by rw [publish_score]
    | _ => cases moves

/-- Settles O54. -/
theorem scoresChangeOnlyAtTheirCommands : Obligations.ScoresChangeOnlyAtTheirCommands := fun _ _ _ => exec_table

/-- The laws through every command: by the commands that leave the scores, and the six that do not. -/
theorem exec_laws {c : Instr} {s t : State} (h : exec c s = .next t) : LawsKept s t := by
  cases moves : movesScores c with
  | false => exact (exec_scoresKept h moves).laws
  | true =>
    have r := lawsKept_step
    cases c with
    | hardReset strap flash =>
      cases h
      exact ⟨fun _ => totalsInRange_reset, fun _ => standingsLaw_reset⟩
    | applicationStep => exact r.of_whenDue h fun _ => applicationStep_laws s
    | actRevoke => exact r.of_runAction h (revokeAction_laws s)
    | actClearScores => exact r.of_runAction h (clearScoresAction_laws s)
    | actAdjust => exact r.of_runAction h (adjustAction_laws _ _ s)
    | publicationStep =>
      refine r.of_whenDue h fun due => ⟨fun range => ?_, fun law => law.published ?_⟩
      · exact (show TotalsInRange (publish s) by unfold TotalsInRange; rw [publish_score]; exact range)
      · simp only [publicationDue, Bool.and_eq_true] at due
        exact due.1
    | _ => cases moves

/-- Settles O58: a step takes the front command, and every command keeps both laws. -/
theorem everyStepKeepsScoresInRangeAndStandingsRanked : Obligations.EveryStepKeepsScoresInRangeAndStandingsRanked := by
  intro s t h
  unfold step at h
  split at h
  · cases h; exact lawsKept_step.refl s
  · exact lawsKept_step.trans (lawsKept_step.quiet (withPending_quiet s _)) (exec_laws h)

end Sys2Proof.Machine
end

section
/-! SUPPORT. WALK_SEAT_VISIT (R109 to R112): a seat's points by the kind of the question, and the running sums of its team. -/

namespace Sys2Proof.Machine

/-! ## Points (R110 to R112) -/

theorem seatPoints_none {s : State} {k : Fin 256}
    (kind : s.resp.header.kind = none ∨ s.resp.header.kind = some .empty ∨ s.resp.header.kind = some .poll) :
    seatPoints s k = 0 := by
  unfold seatPoints
  rcases kind with kind | kind | kind <;> rw [kind]

theorem seatPoints_unanswered {s : State} {k : Fin 256}
    (kind : s.resp.header.kind = some .choice ∨ s.resp.header.kind = some .estimate)
    (state : s.resp.records[k].state ≠ .answered) : seatPoints s k = 0 := by
  unfold seatPoints
  rcases kind with kind | kind <;> rw [kind] <;> exact if_neg state

/-- R110: an ANSWERED record on a CHOICE question. -/
theorem seatPoints_choice {s : State} {k : Fin 256} {x : Fin 6} {pressed opened : Time}
    (kind : s.resp.header.kind = some .choice) (state : s.resp.records[k].state = .answered)
    (answer : s.resp.records[k].answer = some (.option x)) (press : s.resp.records[k].pressTime = some pressed)
    (open_ : s.resp.header.openTime = some opened) :
    seatPoints s k = if (headerQuestion s).correct.getLsbD x.val = false then -((headerQuestion s).penalty : Int)
      else (headerQuestion s).base + bonus (headerQuestion s) (since pressed opened) := by
  unfold seatPoints choicePoints answerDelay rightOption
  rw [kind]
  dsimp only
  rw [if_pos state, answer, press, open_]
  dsimp only
  by_cases wrong : (headerQuestion s).correct.getLsbD x.val = false
  · rw [if_pos wrong, if_neg (by rw [wrong]; decide)]
  · rw [if_neg wrong, if_pos (by simpa using wrong)]

/-- R111: an ANSWERED record on an ESTIMATE question; what is left of the tolerance is a natural number. -/
theorem seatPoints_estimate {s : State} {k : Fin 256} {v : Nat} (kind : s.resp.header.kind = some .estimate)
    (state : s.resp.records[k].state = .answered) (answer : s.resp.records[k].answer = some (.value v)) :
    seatPoints s k =
      if ((v : Int) - (headerQuestion s).target).natAbs < (headerQuestion s).tolerance then
        (((headerQuestion s).base * ((headerQuestion s).tolerance - ((v : Int) - (headerQuestion s).target).natAbs)
          / (headerQuestion s).tolerance : Nat) : Int)
      else 0 := by
  unfold seatPoints estimatePoints
  rw [kind]
  dsimp only
  rw [if_pos state, answer]
  dsimp only
  by_cases near : ((v : Int) - (headerQuestion s).target).natAbs < (headerQuestion s).tolerance
  · rw [if_pos near, if_pos (Int.ofNat_lt.mpr near), Int.natCast_ediv, Int.natCast_mul, Int.ofNat_sub near.le]
  · rw [if_neg near, if_neg (mt Int.ofNat_lt.mp near)]

theorem seatPoints_buzz {s : State} {k : Fin 256} (kind : s.resp.header.kind = some .buzz) :
    seatPoints s k = ((s.buzz.judged.filter fun j => j.seat == k).map (·.points)).sum := by
  unfold seatPoints; rw [kind]; rfl

/-! ## The running sums (R109) -/

theorem visitSeat_keeps (k : Fin 256) (s : State) : Keeps [.resp, .score] s (visitSeat k s) := by
  intro b hb; cases b <;> simp [Block.same] at hb ⊢

/-- R109: the walk goes on to the next seat. -/
theorem visitSeat_walk (k : Fin 256) (s : State) :
    (visitSeat k s).score.walk.walking = s.score.walk.walking ∧ (visitSeat k s).score.walk.start = s.score.walk.start
      ∧ (visitSeat k s).score.walk.position = s.score.walk.position + 1 := by
  cases h : summedTeam s k with
  | none => rw [visitSeat_unsummed h]; exact ⟨rfl, rfl, rfl⟩
  | some t => rw [visitSeat_summed h]; exact ⟨rfl, rfl, rfl⟩

/-- R109: a seat enters the sums of one team, and no other team's move. -/
theorem visitSeat_sums (k : Fin 256) (s : State) (t : Fin 16) :
    if summedTeam s k = some t then
      (visitSeat k s).score.walk.sums[t] = s.score.walk.sums[t] + seatPoints s k
      ∧ (visitSeat k s).score.walk.answered[t] = s.score.walk.answered[t] + 1
      ∧ (visitSeat k s).score.walk.correct[t] = s.score.walk.correct[t] + (if 0 < seatPoints s k then 1 else 0)
    else
      (visitSeat k s).score.walk.sums[t] = s.score.walk.sums[t]
      ∧ (visitSeat k s).score.walk.answered[t] = s.score.walk.answered[t]
      ∧ (visitSeat k s).score.walk.correct[t] = s.score.walk.correct[t] := by
  cases h : summedTeam s k with
  | none => rw [visitSeat_unsummed h]; exact (if_neg nofun).mpr ⟨rfl, rfl, rfl⟩
  | some o =>
    rw [visitSeat_summed h]
    simp only [Walk.add, vector_set_get, Option.some.injEq, eq_comm (a := o)]
    by_cases same : t = o
    · rw [if_pos same, if_pos same, if_pos same, if_pos same, same]
      exact ⟨rfl, rfl, by split <;> rfl⟩
    · rw [if_neg same, if_neg same, if_neg same, if_neg same]
      exact ⟨rfl, rfl, rfl⟩

/-- Settles O39. -/
theorem theWalkGivesEachSeatItsPoints : Obligations.TheWalkGivesEachSeatItsPoints := by
  intro k s walking at_
  have next : walkSeat s = some k := by
    unfold walkSeat; rw [if_pos walking, at_, finOf_val]
  refine ⟨visitSeat k s, by simp only [exec, execWalkSeatVisit, next, finish], ?_⟩
  obtain ⟨on, start, position⟩ := visitSeat_walk k s
  refine ⟨seatPoints s k, fun j => ?_, by rw [visitSeat_resp], by rw [visitSeat_resp], seatPoints_none, seatPoints_unanswered,
    fun x pressed opened choice answered option press open_ => ?_, fun v => seatPoints_estimate, seatPoints_buzz,
    visitSeat_table s k, visitSeat_commit s k, on.trans walking, start, position.trans (by rw [at_]), fun t => ?_,
    visitSeat_keeps k s⟩
  · rw [visitSeat_resp]
    exact vector_set_get _ _ _ _
  · rw [seatPoints_choice choice answered option press open_]
    simp only [bonus, windowTicks, Nat.cast_mul, Nat.cast_ofNat]
  · have sums := visitSeat_sums k s t
    simp only [summedTeam_some] at sums
    exact sums

end Sys2Proof.Machine
end

section
/-! SUPPORT. The end of a commit pass (R116, R115, R29, R136): the result lamps, the seats, the reveal and the events, in their order. -/

namespace Sys2Proof.Machine

/-! ## The result lamps (R39, R116) -/

/-- R39: a lamp request sets one lamp; of the other seats it can move the queued flag alone. -/
theorem requestLamp_seat (k : Fin 256) (lamp : Lamp) (s : State) (j : Fin 256) :
    (requestLamp k lamp s).seats[j] = { s.seats[j] with
      lamp := if j = k then lamp else s.seats[j].lamp
      queued := (requestLamp k lamp s).seats[j].queued } := by
  unfold requestLamp
  by_cases lit : s.seats[k].lamp = lamp
  · rw [if_pos lit]
    by_cases same : j = k
    · rw [if_pos same, ← lit, same]
    · rw [if_neg same]
  · rw [if_neg lit, queueFeedback_seat, setSeat_get]
    by_cases same : j = k
    · rw [if_pos same, if_pos same, same]
    · rw [if_neg same, if_neg same]

/-- R39: lamps asked for the seats of a list that pass a test, one after the other. -/
theorem requestLamps_seat (lamp : Fin 256 → Lamp) (asked : Fin 256 → Bool) (l : List (Fin 256)) (s : State) (j : Fin 256) :
    (l.foldl (fun t k => if asked k then requestLamp k (lamp k) t else t) s).seats[j] = { s.seats[j] with
      lamp := if j ∈ l ∧ asked j = true then lamp j else s.seats[j].lamp
      queued := (l.foldl (fun t k => if asked k then requestLamp k (lamp k) t else t) s).seats[j].queued } := by
  induction l generalizing s with
  | nil => simp
  | cons k l ih =>
    rw [List.foldl_cons, ih]
    by_cases ask : asked k = true
    · rw [if_pos ask, requestLamp_seat]
      by_cases same : j = k
      · subst same; simp [ask]
      · simp [same]
    · rw [if_neg ask]
      by_cases same : j = k
      · subst same; simp [ask]
      · simp [same]

/-- R116: the lamp that a seat has once the result lamps are lit. -/
def resultLamp (s : State) (k : Fin 256) : Lamp :=
  if (headerQuestion s).resultLamps = true ∧ s.resp.header.kind = some .choice ∧ s.resp.records[k].state = .answered then
    if rightOption (headerQuestion s) s.resp.records[k].answer then .right else .wrong
  else s.seats[k].lamp

theorem rightOption_iff (q : Question) (a : Option Answer) :
    rightOption q a = true ↔ ∃ x : Fin 6, a = some (.option x) ∧ q.correct.getLsbD x.val = true := by
  unfold rightOption
  split
  · simp
  · rename_i other
    exact ⟨nofun, fun ⟨x, answer, _⟩ => absurd answer (other x)⟩

/-- R116: of a seat the result lamps move the lamp, and the queued flag. -/
theorem resultLamps_seat (s : State) (k : Fin 256) :
    (resultLamps s).seats[k] = { s.seats[k] with
      lamp := resultLamp s k
      queued := (resultLamps s).seats[k].queued } := by
  unfold resultLamps resultLamp
  by_cases lit : (headerQuestion s).resultLamps = true ∧ s.resp.header.kind = some .choice
  · rw [if_pos lit, resultLamps_eq (headerQuestion s) s (fun k =>
      if rightOption (headerQuestion s) s.resp.records[k].answer then .right else .wrong) (fun _ => rfl) _ s rfl rfl,
      requestLamps_seat]
    simp only [lit, true_and, List.mem_finRange, decide_eq_true_eq]
  · rw [if_neg lit, if_neg fun h => lit ⟨h.1, h.2.1⟩]

/-- R116: the lamps that are asked for, in ascending seat number. -/
def lampsAsked (s : State) : List (Fin 256 × Lamp) :=
  if (headerQuestion s).resultLamps = true ∧ s.resp.header.kind = some .choice then
    ((List.finRange 256).filter fun k => decide (s.resp.records[k].state = .answered)).map fun k => (k, resultLamp s k)
  else []

theorem resultLamps_asked (s : State) : LampsShown (lampsAsked s) s (resultLamps s) := by
  have shown := resultLamps_shown s _ fun _ => rfl
  unfold lampsAsked
  by_cases lit : (headerQuestion s).resultLamps = true ∧ s.resp.header.kind = some .choice
  · rw [if_pos lit] at shown ⊢
    refine (congrArg (LampsShown · s (resultLamps s)) (List.map_congr_left fun k answered => ?_)).mp shown
    rw [List.mem_filter, decide_eq_true_eq] at answered
    exact congrArg (Prod.mk k) (if_pos ⟨lit.1, lit.2, answered.2⟩).symm
  · rw [if_neg lit] at shown ⊢
    exact shown

/-! ## The seats (R29, R116, R21) -/

/-- R115: the scores applied, the seats are as they were. -/
theorem applyCommit_same (s : State) : (applyCommit s).seats = s.seats ∧ (applyCommit s).ports = s.ports
    ∧ headerQuestion (applyCommit s) = headerQuestion s ∧ (applyCommit s).resp.header.kind = s.resp.header.kind
    ∧ (applyCommit s).resp.records = s.resp.records := by
  simp [applyCommit, headerQuestion]

theorem applyCommit_lamps (s : State) :
    (∀ k, resultLamp (applyCommit s) k = resultLamp s k) ∧ lampsAsked (applyCommit s) = lampsAsked s := by
  obtain ⟨seats, -, question, kind, records⟩ := applyCommit_same s
  have lamp (k : Fin 256) : resultLamp (applyCommit s) k = resultLamp s k := by
    unfold resultLamp
    rw [question, seats, kind, records]
  refine ⟨lamp, ?_⟩
  unfold lampsAsked
  simp only [lamp]
  rw [question, kind, records]

theorem commitEnded_ports (s : State) : (commitEnded s).ports = (resultLamps (applyCommit s)).ports := by
  simp [commitEnded_eq, commitMoved, commitRevealed, commitApplied, walkEnded]

theorem commitMoved_seats (s : State) : (commitMoved s).seats = (resultLamps (applyCommit s)).seats := by
  simp [commitMoved, walkEnded, commitRevealed, commitApplied]

theorem isResultLamp_iff (x : Lamp) : isResultLamp x = true ↔ x = .right ∨ x = .wrong := by
  cases x <;> simp [isResultLamp]

/-- R29, R116, R21: a seat at the end of the pass. -/
theorem commitEnded_seat (s : State) (k : Fin 256) : (commitEnded s).seats[k] = { s.seats[k] with
    team := s.seats[k].pending.getD s.seats[k].team
    pending := none
    queued := (resultLamps (applyCommit s)).seats[k].queued
    lamp := if resultLamp s k = .right ∨ resultLamp s k = .wrong then resultLamp s k else .off } := by
  have lit := resultLamps_seat (applyCommit s) k
  rw [(applyCommit_lamps s).1 k, (applyCommit_same s).1] at lit
  rw [commitEnded_eq, lampsOff_seat, applyPending_seat, commitMoved_seats, lit]
  simp only [isResultLamp_iff]
  split <;> rfl

/-! ## The reveal (R130, R136) -/

theorem commitEnded_comp (s : State) :
    (commitEnded s).comp = (revealAfterCommit (headerQuestion s).reveal (commitApplied s)).comp := by
  rw [← commitRevealed_eq]
  simp [commitEnded_eq, commitMoved, walkEnded]

theorem commitApplied_comp (s : State) : (commitApplied s).comp = s.comp := by
  simp [commitApplied, applyCommit]

/-- R136: no reveal, or none of a valid sequence. -/
theorem commitEnded_unrevealed {s : State}
    (none : ∀ n : Fin 16, (headerQuestion s).reveal = some n → s.comp.sequences[n].valid = false) :
    (commitEnded s).comp = s.comp := by
  rw [commitEnded_comp]
  unfold revealAfterCommit
  split
  · rename_i n reveal
    rw [commitApplied_comp, none n reveal, if_neg Bool.false_ne_true, commitApplied_comp]
  · exact commitApplied_comp s

/-- R136: the reveal plays the first step of its sequence. -/
theorem commitEnded_revealed {s : State} {n : Fin 16} (reveal : (headerQuestion s).reveal = some n)
    (valid : s.comp.sequences[n].valid = true) : (commitEnded s).comp = (playSequence n (commitApplied s)).comp := by
  rw [commitEnded_comp, reveal]
  unfold revealAfterCommit
  dsimp only
  rw [commitApplied_comp, if_pos valid]

/-- A compose is one of the state's data at the same moment, in whatever state it is looked at. -/
theorem Refreshed.congr {counts : Bool} {s t u v : State} (h : Refreshed counts s u) (now : t.now = s.now)
    (before : t.comp = s.comp) (after_ : v.comp = u.comp) (view : composedView v = composedView u) : Refreshed counts t v := by
  unfold Refreshed at h ⊢
  rw [now, before, after_, view]
  exact h

/-- R130: the view of the reveal is the same once the round is in IDLE and the pending teams are applied. -/
theorem commitEnded_view {s : State} {n : Fin 16} (reveal : (headerQuestion s).reveal = some n)
    (valid : s.comp.sequences[n].valid = true) :
    composedView (commitEnded s) = composedView (playSequence n (commitApplied s)) := by
  let a := playSequence n (commitApplied s)
  have round : a.round = s.round := by simp [a, commitApplied, applyCommit]
  have ended := commitEnded_round s
  rw [← composedView_round a (r := (commitEnded s).round) (by rw [ended, round]) (by rw [ended, round])]
  refine composedView_congr ?_ (by rw [commitEnded_revealed reveal valid]; rfl) ?_ ?_ ?_ rfl ?_ ?_ ?_ <;>
  simp [a, commitEnded_eq, commitMoved, commitRevealed, walkEnded]

/-- R136, R130: the player is in the first step, and the compose of that view starts. -/
theorem commitEnded_refreshed {s : State} {n : Fin 16} {f : Fin 64} (reveal : (headerQuestion s).reveal = some n)
    (valid : s.comp.sequences[n].valid = true) (first : f.val = s.comp.sequences[n].first) :
    Refreshed true (s.withComp { s.comp with player := .active false ⟨n, f, s.comp.sequences[n].count,
      s.comp.sequences[n].loops, f, s.comp.steps[f].view, s.comp.steps[f].highlight, s.comp.steps[f].invert,
      s.comp.steps[f].team, s.comp.steps[f].hold⟩ }) (commitEnded s) := by
  have comp := commitApplied_comp s
  have entered := (enterStep_entered ⟨n, f, s.comp.sequences[n].count, s.comp.sequences[n].loops, f, .blank, 0, false, 0, 0⟩ f
    (commitApplied s)).1
  have played : playSequence n (commitApplied s) = enterStep ⟨n, f, s.comp.sequences[n].count, s.comp.sequences[n].loops, f,
      .blank, 0, false, 0, 0⟩ f (commitApplied s) := by
    unfold playSequence
    rw [comp, first]
  rw [← played] at entered
  refine entered.congr ?_ ?_ (commitEnded_revealed reveal valid) (commitEnded_view reveal valid)
  · simp [commitApplied, applyCommit]
  · simp only [withComp_comp, comp]

/-! ## The events (R25, R29, R41, R117) -/

/-- R41: a SEAT event shows nothing of a lamp. -/
theorem lampsOff_shown (keep : Lamp → Bool) (s : State) (k : Fin 256) :
    shown (lampsOff keep s).seats[k] = shown s.seats[k] := by
  rw [lampsOff_seat]
  split <;> rfl

/-- R117: the COMMITTED event names what the commit applied. -/
theorem committedNotice_eq (s : State) : committedNotice s (resultLamps (applyCommit s)) =
    .committed s.resp.header.question s.resp.header.kind (commitEnded s).score.commit.points (commitEnded s).score.commit.correct
      (Vector.ofFn fun t => (commitEnded s).score.table[t].total)
      (Vector.ofFn fun t => decide ((commitEnded s).score.table[t].total ≠ s.score.table[t].total + contribution s t
        ∨ (commitEnded s).score.table[t].correct ≠ s.score.table[t].correct + correctDelta s t)) := by
  obtain ⟨table, commit, -⟩ := applicationStep_score s
  rw [← commitEnded_score] at table commit
  rw [table, commit]
  have saturated_eq : saturated s = fun t => decide (clampTotal (s.score.table[t].total + contribution s t)
      ≠ s.score.table[t].total + contribution s t ∨ clampCorrect (s.score.table[t].correct + correctDelta s t)
      ≠ s.score.table[t].correct + correctDelta s t) := by
    funext t
    rw [Bool.eq_iff_iff, decide_eq_true_eq, saturated, Bool.or_eq_true, bne_iff_ne, bne_iff_ne]
  simp [committedNotice, applyCommit, committedScore, saturated_eq]

/-- R117, R25, R29, R41: the COMMITTED event, the notice of the move to IDLE, and a SEAT event for each seat whose team changes. -/
theorem commitEnded_events (s : State) : HubEvents
    (.notice (committedNotice s (resultLamps (applyCommit s)))
      :: .notice (.roundState .idle s.round.current s.round.closedMark none) :: pendingEvents s) s (commitEnded s) := by
  let w := raiseNotice (.roundState .idle s.round.current s.round.closedMark none)
    (raiseNotice (committedNotice s (resultLamps (applyCommit s))) (s.withSeats (commitEnded s).seats))
  have applied : (commitApplied s).hub
      = (raiseNotice (committedNotice s (resultLamps (applyCommit s))) (s.withSeats (commitEnded s).seats)).hub := by
    unfold commitApplied
    rw [triggerRanking_hub]
    exact raiseNotice_same _ (by simp [applyCommit]) (by simp [applyCommit])
  have hub : (commitMoved s).hub = w.hub := by
    have round : (walkEnded (commitRevealed s)).round = s.round := by
      simp [walkEnded, commitRevealed, commitApplied, applyCommit]
    unfold commitMoved moveRound
    rw [round]
    refine raiseNotice_same _ ?_ ?_
    · rw [← applied]; simp [walkEnded, commitRevealed]
    · simp [walkEnded, commitRevealed, commitApplied, applyCommit]
  have pending : pendingEvents (commitMoved s) = pendingEvents s := by
    unfold pendingEvents
    refine List.map_congr_left fun k _ => ?_
    rw [commitMoved_seats, resultLamps_seat, (applyCommit_same s).1]
  have same : (commitEnded s).hub = (raiseEvents (.notice (committedNotice s (resultLamps (applyCommit s)))
      :: .notice (.roundState .idle s.round.current s.round.closedMark none) :: pendingEvents s)
      (s.withSeats (commitEnded s).seats)).hub := by
    rw [raiseEvents_notice, raiseEvents_notice, ← pending, ← applyPending_hub (commitMoved s) w hub
      (by simp [w, commitMoved, walkEnded, commitRevealed, commitApplied, applyCommit]) fun k => ?_]
    · rw [commitEnded_eq, lampsOff_hub]
    · have ended : w.seats = (lampsOff isResultLamp (applyPending true (commitMoved s))).seats := by
        simp only [w, raiseNotice_seats, withSeats_seats, commitEnded_eq]
      rw [ended, lampsOff_shown]
  unfold HubEvents
  rw [same]
  exact ⟨rfl, rfl, rfl, rfl⟩

/-- R136: the player is in the first step of the sequence revealed. -/
theorem commitEnded_player {s : State} {n : Fin 16} (reveal : (headerQuestion s).reveal = some n)
    (valid : s.comp.sequences[n].valid = true) :
    ∃ x, (commitEnded s).comp.player = .active false x ∧ x.sequence = n ∧ x.step = s.comp.sequences[n].first := by
  rw [commitEnded_revealed reveal valid, playSequence, enterStep_player, commitApplied_comp]
  exact ⟨_, rfl, rfl, rfl⟩

/-- Settles O41. -/
theorem theEndOfACommitSetsLampsTeamsAndReveal : Obligations.TheEndOfACommitSetsLampsTeamsAndReveal := by
  intro s walking seats ticked
  refine applicationStep_completes walking seats ticked ?_
  intro q shown asked
  have lamp (k : Fin 256) : shown k = resultLamp s k := by
    simp only [shown, resultLamp, rightOption_iff]
    rfl
  have lamps : asked = lampsAsked s := by
    simp only [asked, lampsAsked, lamp]
    rfl
  refine ⟨?_, fun k => ?_, fun n => commitEnded_player, fun n f => commitEnded_refreshed, commitEnded_unrevealed, ?_⟩
  · have lit := resultLamps_asked (applyCommit s)
    obtain ⟨same, ports, -⟩ := applyCommit_same s
    rw [(applyCommit_lamps s).2, ← lamps] at lit
    obtain ⟨a, asked, seats, ports⟩ := lit.congr same ports
    exact ⟨a, asked, by rw [ports, commitEnded_ports], fun k => by rw [seats, commitEnded_seat]⟩
  · rw [lamp, commitEnded_seat]
  · rw [← committedNotice_eq]
    exact commitEnded_events s

end Sys2Proof.Machine
end

section
/-! SUPPORT. What a WRITE of one record of SEQUENCES or STEPS comes to (R134, R135, R161). -/

namespace Sys2Proof.Machine

/-! ## SEQUENCES (R134) -/

/-- R134: a record of SEQUENCES as it is stored. -/
def sequenceRecord (r : List Byte) : Sequence :=
  ⟨decide (r.getD 0 0 ≠ 0), min 63 (u8 r 1), max 1 (min 64 (u8 r 2)), decide (r.getD 3 0 ≠ 0)⟩

/-- R134: the record would pass step 63. -/
def PassesTable (r : List Byte) : Prop := 64 < (sequenceRecord r).first + (sequenceRecord r).count

theorem clampNat_zero (x hi : Nat) : clampNat x 0 hi = min hi x := by
  rw [clampNat_eq (Nat.zero_le hi), Nat.zero_max]

theorem clampNat_byte {r : List Byte} {i : Nat} : clampNat (u8 r i) 1 255 = max 1 (u8 r i) := by
  rw [clampNat_eq (by decide), Nat.min_eq_right (Nat.le_of_lt_succ (u8_lt r i))]

theorem writeSequence_refused {i : Fin 16} {r : List Byte} {s : State} (long : PassesTable r) :
    writeSequence i r s = (s, .badValue) := by
  unfold writeSequence
  rw [clampNat_zero, clampNat_eq (by decide)]
  exact if_pos long

theorem writeSequence_stored {i : Fin 16} {r : List Byte} {s : State} (fits : ¬ PassesTable r) :
    writeSequence i r s = (s.withComp { s.comp with sequences := s.comp.sequences.set i (sequenceRecord r) },
      if (sequenceRecord r).first = u8 r 1 ∧ (sequenceRecord r).count = u8 r 2 then .ok else .clamped) := by
  unfold writeSequence
  rw [clampNat_zero, clampNat_eq (by decide), flagAt_eq, flagAt_eq]
  refine (if_neg fits).trans (Prod.ext rfl (storedStatus_eq ?_))
  rw [Bool.or_eq_true, bne_iff_ne, bne_iff_ne]
  exact Decidable.not_and_iff_not_or_not.symm

/-! ## STEPS (R135) -/

theorem View.code_of_ofCode {b : Byte} {v : View} (h : View.ofCode b = some v) : v.code = b := by
  unfold View.ofCode at h
  split at h <;> cases h <;> rfl

theorem View.code_le (v : View) : v.code.toNat ≤ 6 := by cases v <;> decide

/-- R127: the code bytes above 6 name no view, and only those. -/
theorem View.ofCode_beyond {b : Byte} : View.ofCode b = none ↔ 6 < b.toNat := by
  constructor
  · intro unnamed
    by_contra low
    have named : ∀ n : Fin 7, (View.ofCode (byteOf n.val)).isSome = true := by decide
    have byte : byteOf b.toNat = b := by simp [byteOf]
    have some_ := named ⟨b.toNat, by omega⟩
    rw [byte, unnamed] at some_
    cases some_
  · intro high
    cases code : View.ofCode b with
    | none => rfl
    | some v => exact absurd (View.code_of_ofCode code ▸ v.code_le) (Nat.not_le.mpr high)

/-- R135: the team of a record of STEPS as it is stored. -/
def stepTeam (r : List Byte) : Fin 16 := ⟨min 15 (u8 r 5), by omega⟩

/-- R135: a record of STEPS as it is stored, its view read. -/
def stepRecord (v : View) (r : List Byte) : Step :=
  ⟨v, max 1 (u8 r 1), BitVec.ofNat 16 (u16 r 2), decide (r.getD 4 0 ≠ 0), stepTeam r⟩

theorem writeStep_refused {i : Fin 64} {r : List Byte} {s : State} (unnamed : View.ofCode (r.getD 0 0) = none) :
    writeStep i r s = (s, .badValue) := by
  unfold writeStep
  rw [unnamed]

theorem writeStep_stored {i : Fin 64} {r : List Byte} {s : State} {v : View} (named : v.code = r.getD 0 0) :
    writeStep i r s = (s.withComp { s.comp with steps := s.comp.steps.set i (stepRecord v r) },
      if 1 ≤ u8 r 1 ∧ u8 r 5 ≤ 15 then .ok else .clamped) := by
  have team : (⟨min (u8 r 5) 15, by omega⟩ : Fin 16) = stepTeam r := Fin.ext (Nat.min_comm _ _)
  unfold writeStep
  rw [← named, View.ofCode_code]
  dsimp only
  rw [team, clampNat_byte, flagAt_eq]
  refine Prod.ext rfl (storedStatus_eq ?_)
  rw [Bool.or_eq_true, decide_eq_true_eq, decide_eq_true_eq]
  omega

/-- Settles O18: each owner's checks in their order, and the record it stores. -/
theorem sequencesAndStepsAreCheckedAndStored : Obligations.SequencesAndStepsAreCheckedAndStored := by
  constructor
  · intro tag first r i s len at_ e
    have hc : first.toNat < Table.sequences.count := at_ ▸ i.isLt
    have owner : writeRecord .sequences first.toNat r s = writeSequence i r s := by
      rw [← at_]; exact onIndex_val i _ s
    by_cases long : PassesTable r
    · obtain ⟨u, run, refused⟩ := write_refused len hc e (owner.trans (writeSequence_refused long)) rfl
      exact ⟨u, run, (if_pos long).mpr refused⟩
    · obtain ⟨u, run, wrote, kept⟩ := write_stored len hc e (owner.trans (writeSequence_stored long)) (by split <;> rfl)
      refine ⟨u, run, (if_neg long).mpr ⟨wrote, ⟨_, kept .comp (by decide), ?_, fun j ne => ?_⟩,
        Keeps.then_reply [.comp] (fun b hb => ?_) kept⟩⟩
      · exact (vector_set_get _ _ _ _).trans (if_pos rfl)
      · exact (vector_set_get _ _ _ _).trans (if_neg ne)
      · cases b <;> simp [Block.same] at hb ⊢
  · intro tag first r i s len at_ e
    have hc : first.toNat < Table.steps.count := at_ ▸ i.isLt
    have owner : writeRecord .steps first.toNat r s = writeStep i r s := by
      rw [← at_]; exact onIndex_val i _ s
    cases code : View.ofCode (r.getD 0 0) with
    | none =>
      obtain ⟨u, run, refused⟩ := write_refused len hc e (owner.trans (writeStep_refused code)) rfl
      refine ⟨u, run, fun _ => refused, fun v named => ?_⟩
      rw [← named, View.ofCode_code] at code
      cases code
    | some v =>
      have named : v.code = r.getD 0 0 := View.code_of_ofCode code
      obtain ⟨u, run, wrote, kept⟩ := write_stored len hc e (owner.trans (writeStep_stored named)) (by split <;> rfl)
      refine ⟨u, run, fun high => ?_, fun v' named' => ?_⟩
      · rw [View.ofCode_beyond.mpr high] at code
        cases code
      · obtain rfl : v = v' := Option.some.inj (code.symm.trans (by rw [← named', View.ofCode_code]))
        refine ⟨wrote, ⟨_, stepTeam r, kept .comp (by decide), rfl, ?_, fun j ne => ?_⟩,
          Keeps.then_reply [.comp] (fun b hb => ?_) kept⟩
        · exact (vector_set_get _ _ _ _).trans (if_pos rfl)
        · exact (vector_set_get _ _ _ _).trans (if_neg ne)
        · cases b <;> simp [Block.same] at hb ⊢

end Sys2Proof.Machine
end

section
/-! SUPPORT. The SHOW requests (R133, R136, R138): the flags, the curtain's burst, the player and the resting view. -/

namespace Sys2Proof.Machine

/-! ## A compose, and the REPLY after it -/

/-- The REPLY after a compose leaves the view composed. -/
theorem Refreshed.replied {counts : Bool} {s v u : State} (h : Refreshed counts s v) (kept : Keeps [.replies, .agent] v u) :
    Refreshed counts s u := by
  have comp : u.comp = v.comp := kept .comp (by decide)
  exact h.congr rfl rfl comp (kept.composedView (congrArg Composer.player comp) (by decide)).symm

/-! ## Freeze and curtain (R133) -/

/-- R132, R133: what CURTAIN_ON leaves; a curtain that is on stays as it is. -/
theorem curtainOnAction_shows (s : State) : ∃ v, curtainOnAction s = (v, .ok)
    ∧ v.comp = { s.comp with curtain := true }
    ∧ (if s.comp.curtain then v.link.scoreOut = s.link.scoreOut
      else ∃ b, v.link.scoreOut = some b ∧ b.image.view = .blank ∧ b.image.rows = [] ∧ b.refresh = none)
    ∧ Keeps [.comp, .scoreOut] s v := by
  unfold curtainOnAction
  cases on : s.comp.curtain with
  | true =>
    refine ⟨s, rfl, ?_, rfl, .refl _ s⟩
    rw [← on]
  | false =>
    refine ⟨_, rfl, by simp [placeCurtainBlank], ⟨_, rfl, rfl, rfl, rfl⟩, fun b hb => ?_⟩
    cases b <;> simp [Block.same, placeCurtainBlank, placeBurst] at hb ⊢

/-- R132, R133: what CURTAIN_OFF leaves; a curtain that is off stays as it is. -/
theorem curtainOffAction_shows (s : State) : ∃ v, curtainOffAction s = (v, .ok)
    ∧ v.comp = { s.comp with curtain := false }
    ∧ v.link.scoreOut = (if s.comp.curtain then some ⟨s.comp.front, none⟩ else s.link.scoreOut)
    ∧ Keeps [.comp, .scoreOut] s v := by
  unfold curtainOffAction
  cases on : s.comp.curtain with
  | false =>
    refine ⟨s, rfl, ?_, rfl, .refl _ s⟩
    rw [← on]
  | true =>
    refine ⟨_, rfl, by simp, rfl, fun b hb => ?_⟩
    cases b <;> simp [Block.same, placeBurst] at hb ⊢

/-! ## The player (R136, R138) -/

/-- R136, R130: a sequence played enters its first step, which is a change of the current view. -/
theorem playSequence_refreshed {n : Fin 16} {f : Fin 64} {s : State} (first : f.val = s.comp.sequences[n].first) :
    Refreshed true (s.withComp { s.comp with player := .active false ⟨n, f, s.comp.sequences[n].count,
      s.comp.sequences[n].loops, f, s.comp.steps[f].view, s.comp.steps[f].highlight, s.comp.steps[f].invert,
      s.comp.steps[f].team, s.comp.steps[f].hold⟩ }) (playSequence n s) := by
  unfold playSequence
  dsimp only
  rw [← first]
  exact (enterStep_entered ⟨n, f, _, _, f, .blank, 0, false, 0, 0⟩ f s).1

theorem playSequence_keeps (n : Fin 16) (s : State) : Keeps [.comp] s (playSequence n s) := by
  intro b hb; cases b <;> simp [Block.same] at hb ⊢

theorem revealAction_valid {n : Fin 16} {x : Byte} {s : State} (at_ : n.val = x.toNat)
    (valid : s.comp.sequences[n].valid = true) : revealAction x s = (playSequence n s, .ok) := by
  unfold revealAction
  rw [← at_, finOf_val]
  exact if_pos valid

/-- R136: REVEAL of no valid sequence. -/
theorem revealAction_refused {x : Byte} {s : State}
    (invalid : ∀ n : Fin 16, n.val = x.toNat → s.comp.sequences[n].valid = false) : revealAction x s = (s, .badValue) := by
  unfold revealAction finOf
  split
  · rename_i k named
    split at named
    · cases named
      exact if_neg (Bool.eq_false_iff.mp (invalid _ rfl))
    · cases named
  · rfl

/-- R138: the player stops, which is a change of the current view unless it showed none. -/
theorem stopSequence_stops (s : State) : ∃ v, stopSequence s = (v, .ok)
    ∧ Refreshed (decide (s.comp.player ≠ .stopped)) (s.withComp { s.comp with player := .stopped }) v
    ∧ Keeps [.comp] s v := by
  unfold stopSequence
  cases player : s.comp.player with
  | stopped =>
    refine ⟨s, rfl, ?_, .refl _ s⟩
    show s.comp = { s.comp with player := .stopped }
    rw [← player]
  | active ended p =>
    refine ⟨_, rfl, ?_, fun b hb => ?_⟩
    · rw [decide_eq_true (by exact nofun)]
      exact recompose_refreshed _
    · cases b <;> simp [Block.same] at hb ⊢

/-! ## The resting view (R138) -/

theorem setResting_keeps (v : View) (s : State) : Keeps [.comp, .config] s (setResting v s) := by
  intro b hb
  unfold setResting
  (repeat' split) <;> cases b <;> simp [Block.same] at hb ⊢

/-- R138, R130: a new resting view is a change of the current view while the player is STOPPED. -/
theorem setResting_refreshed (v : View) (s : State) :
    Refreshed (decide (v ≠ s.hub.config.resting ∧ s.comp.player = .stopped)) s (setResting v s) := by
  unfold setResting
  cases player : s.comp.player with
  | active ended p => rw [decide_eq_false (by simp)]; rfl
  | stopped =>
    dsimp only
    by_cases same : v = s.hub.config.resting
    · rw [decide_eq_false (fun h => h.1 same), if_pos same]; rfl
    · rw [decide_eq_true ⟨same, rfl⟩, if_neg same]
      exact (recompose_refreshed (s.withHub { s.hub with config := { s.hub.config with resting := v } })).congr rfl rfl rfl rfl

theorem restingAction_taken {v : View} {x : Byte} (code : v.code = x) (rests : v ≠ .teamCard) (s : State) :
    restingAction x s = (setResting v s, .ok) := by
  unfold restingAction
  rw [← code, ofResting_code rests]

/-- R138: a code that names no view, or TEAM_CARD. -/
theorem restingAction_refused {x : Byte} (none_ : ∀ v : View, v.code = x → v = .teamCard) (s : State) :
    restingAction x s = (s, .badValue) := by
  unfold restingAction View.ofResting
  cases code : View.ofCode x with
  | none => rfl
  | some v =>
    obtain rfl := none_ v (View.code_of_ofCode code)
    rfl

/-! ## The requests -/

/-- R157, R162: a SHOW request that its owner takes: its REPLY, and the frame of its action. -/
theorem show_completes {c : Instr} {payload : List Byte} {act : State → State × Status} {s v : State} {st : Status}
    {bs : List Block} (run : exec c s = runAction payload act s) (e : Executing payload s) (fits : payloadFits payload = true)
    (gives : act s = (v, st)) (keeps : Keeps bs s v) (owned : ∀ b ∈ bs, b ∈ [.comp, .config, .scoreOut]) :
    ∃ u, exec c s = .next (settleLinks u) ∧ Replied [payload.getD 0 0, payload.getD 1 0, st.code] s u
      ∧ Keeps [.replies, .agent] v u ∧ Keeps (bs ++ [.replies, .agent]) s u := by
  have other {b : Block} (hb : b ∉ [Block.comp, .config, .scoreOut]) : b ∉ bs := fun h => hb (owned b h)
  obtain ⟨u, run, replied, kept⟩ := act_completes run e fits gives
    (keeps.desk (other (by decide)) (other (by decide)) (other (by decide)))
  exact ⟨u, run, replied, kept, keeps.then_reply bs kept⟩

theorem withComp_keeps (s : State) (x : Composer) : Keeps [.comp] s (s.withComp x) := by
  intro b hb; cases b <;> simp [Block.same] at hb ⊢

/-- Settles O46, request by request, from what each action leaves of the Composer and of the Score Out slot. -/
theorem showRequestsSetTheFlagsAndMoveTheCurrentView : Obligations.ShowRequestsSetTheFlagsAndMoveTheCurrentView := by
  refine ⟨fun tag s => ⟨fun e => ?freeze, fun e => ?thaw, fun e => ?curtainOn, fun e => ?curtainOff⟩,
    fun tag x s => ⟨fun e => ?reveal, fun e => ?stop, fun e => ?resting⟩⟩
  case freeze =>
    obtain ⟨u, run, replied, kept, frame⟩ := show_completes (c := .showFreeze tag) (act := freezeAction) rfl e rfl rfl
      (withComp_keeps s _) (by decide)
    exact ⟨u, run, replied, kept .comp (by decide), frame⟩
  case thaw =>
    obtain ⟨u, run, replied, kept, frame⟩ := show_completes (c := .showThaw tag) (act := thawAction) rfl e rfl rfl
      (withComp_keeps s _) (by decide)
    exact ⟨u, run, replied, kept .comp (by decide), frame⟩
  case curtainOn =>
    obtain ⟨v, gives, comp, out, keeps⟩ := curtainOnAction_shows s
    obtain ⟨u, run, replied, kept, frame⟩ := show_completes (c := .showCurtainOn tag) rfl e rfl gives keeps (by decide)
    rw [← show u.link.scoreOut = v.link.scoreOut from kept .scoreOut (by decide)] at out
    exact ⟨u, run, replied, (kept .comp (by decide)).trans comp, out, frame⟩
  case curtainOff =>
    obtain ⟨v, gives, comp, out, keeps⟩ := curtainOffAction_shows s
    obtain ⟨u, run, replied, kept, frame⟩ := show_completes (c := .showCurtainOff tag) rfl e rfl gives keeps (by decide)
    exact ⟨u, run, replied, (kept .comp (by decide)).trans comp, (kept .scoreOut (by decide)).trans out, frame⟩
  case reveal =>
    by_cases named : ∃ n : Fin 16, n.val = x.toNat ∧ s.comp.sequences[n].valid = true
    · obtain ⟨n, at_, valid⟩ := named
      obtain ⟨u, run, replied, kept, frame⟩ := show_completes (c := .showReveal tag x) rfl e rfl
        (revealAction_valid at_ valid) (playSequence_keeps n s) (by decide)
      refine ⟨u, run, fun n' at' _ f first => ?_, fun invalid => ?_⟩
      · obtain rfl : n = n' := Fin.ext (at_.trans at'.symm)
        exact ⟨replied, (playSequence_refreshed first).replied kept, frame⟩
      · rw [invalid n at_] at valid
        cases valid
    · have invalid (n : Fin 16) (at_ : n.val = x.toNat) : s.comp.sequences[n].valid = false :=
        Bool.eq_false_iff.mpr fun valid => named ⟨n, at_, valid⟩
      obtain ⟨u, run, refused⟩ := act_refuses (c := .showReveal tag x) rfl e rfl (revealAction_refused invalid)
      exact ⟨u, run, fun n at_ valid => absurd ⟨n, at_, valid⟩ named, fun _ => refused⟩
  case stop =>
    obtain ⟨v, gives, refreshed, keeps⟩ := stopSequence_stops s
    obtain ⟨u, run, replied, kept, frame⟩ := show_completes (c := .showStopSequence tag) rfl e rfl gives keeps (by decide)
    exact ⟨u, run, replied, refreshed.replied kept, frame⟩
  case resting =>
    by_cases named : ∃ v : View, v.code = x ∧ v ≠ .teamCard
    · obtain ⟨v, code, rests⟩ := named
      obtain ⟨u, run, replied, kept, frame⟩ := show_completes (c := .showResting tag x) rfl e rfl
        (restingAction_taken code rests s) (setResting_keeps v s) (by decide)
      refine ⟨u, run, fun v' code' _ => ?_, fun none_ => absurd (none_ v code) rests⟩
      obtain rfl : v = v' := Option.some.inj (by rw [← View.ofCode_code, ← View.ofCode_code, code, code'])
      exact ⟨replied, (kept .config (by decide)).trans (setResting_config v s), (setResting_refreshed v s).replied kept,
        frame⟩
    · have none_ (v : View) (code : v.code = x) : v = .teamCard := by
        by_contra rests
        exact named ⟨v, code, rests⟩
      obtain ⟨u, run, refused⟩ := act_refuses (c := .showResting tag x) rfl e rfl (restingAction_refused none_ s)
      exact ⟨u, run, fun v code rests => absurd ⟨v, code, rests⟩ named, fun _ => refused⟩

end Sys2Proof.Machine
end

section
/-! SUPPORT. Marks, the end of a compose, and the silent wall (R130, R131, R137, R139). -/

namespace Sys2Proof.Machine

/-! ## The steps of a mark (R131) -/

/-- R131, R139: step 1 of a mark of the wall. -/
theorem markWall_comp (r : Byte) (s : State) : (markWall r s).comp = { s.comp with
    silentTimer := some (s.now + BitVec.ofNat 32 (s.hub.config.silentTimeout * 80)), silent := false
    markTimer := if s.comp.silent then none else s.comp.markTimer, lastRefresh := some r } := by
  unfold markWall
  dsimp only
  split
  · exact raiseNotice_comp _ _
  · rfl

theorem markWall_notices (r : Byte) (s : State) :
    NoticesRaised (if s.comp.silent then [.wallReturn r] else []) s (markWall r s) := by
  unfold markWall
  dsimp only
  split
  · simp [NoticesRaised, raiseAll]
  · exact ⟨rfl, rfl⟩

theorem markWall_keeps (r : Byte) (s : State) : Keeps [.comp, .notices, .noticeLost] s (markWall r s) := by
  intro b hb; cases b <;> simp [Block.same] at hb ⊢

/-- Steps 2 to 4 of a mark, in this order. -/
theorem markSteps_moves (refresh : Option Byte) {s w : State} (player : w.comp.player = s.comp.player)
    (law : ∀ p, s.comp.player = .active false p → p.first + p.count ≤ 64 ∧ p.step < p.first + p.count) :
    ∃ a b : State, BuffersSwap refresh w a ∧ StepCounts a b ∧ CountdownChanges b (markSteps refresh w) :=
  ⟨_, _, swapBuffers_swaps refresh w, countStep_counts _ (by rw [swapBuffers_player, player]; exact law),
    countdownRule_changes _⟩

/-- R131, R142, R147: a MARK that arrived whole is taken. -/
theorem exec_mark_whole {f : Arrival} {r : Byte} (whole : ArrivedWhole f [r]) (s : State) :
    exec (.mark f) s = .next (settleLinks (taken .wall 9 f (takeMark r) s)) := by
  simp only [exec, execMark, takeGood_whole .wall 9 _ s whole (by simp) (by simp [inwardGood])]
  rfl

/-- Settles O47: step 1 by the sort of mark, and steps 2 to 4 alike for both. -/
theorem marksSwapCountAndPaceTheScoreboard : Obligations.MarksSwapCountAndPaceTheScoreboard := by
  rintro c refresh s law (⟨f, r, rfl, whole, rfl⟩ | ⟨rfl, rfl, silent, e, runs, past⟩)
  · obtain ⟨a, b, swap, count, countdown⟩ := markSteps_moves (some r) (markWall_player r s) law
    refine ⟨_, exec_mark_whole whole s, markWall r s, a, b, takeMark r s, markWall_keeps r s, fun r' same => ?_, nofun,
      swap, count, countdown, fun f' same => ?_, nofun⟩
    · cases same
      exact ⟨markWall_comp r s, markWall_notices r s⟩
    · cases same
      exact taken_frame .wall 9 f (takeMark r) s
  · have due : internalMarkDue s = true := by
      unfold internalMarkDue
      rw [silent, runs, expired_some past]; rfl
    let w := s.withComp { s.comp with markTimer := some (s.now + 320) }
    obtain ⟨a, b, swap, count, countdown⟩ := markSteps_moves none (w := w) rfl law
    have timed : Keeps [.comp, .notices, .noticeLost] s w := (withComp_keeps s _).mono (by decide)
    exact whenDue_completes rfl due ⟨w, a, b, takeInternalMark s, timed, nofun, fun _ => ⟨rfl, rfl, rfl⟩, swap, count,
      countdown, nofun, fun _ => rfl⟩

/-! ## The end of a compose, and the silent wall (R130, R139) -/

theorem endCompose_comp {s : State} (composing : s.comp.backState = .composing) : (endCompose s).comp =
    if s.comp.recompose then { s.comp with recompose := false, back := composedView s, composeStart := s.now }
    else { s.comp with backState := .ready } := by
  unfold endCompose
  split
  · show { s.comp with
      recompose := false, back := composedView s, backState := .composing, composeStart := s.now } = _
    rw [← composing]
  · rfl

/-- Settles O48: both events are due, and each leaves what its rule says. -/
theorem composesEndReadyAndTheWallFallsSilent : Obligations.ComposesEndReadyAndTheWallFallsSilent := by
  refine ⟨fun s composing ticked => ?_, fun e s heard runs past => ?_⟩
  · have due : composeDue s = true := by
      unfold composeDue tickPassed
      rw [composing, decide_eq_true ticked]; rfl
    refine whenDue_completes rfl due ⟨endCompose_comp composing, fun b hb => ?_⟩
    cases b <;> simp [Block.same] at hb ⊢
  · have due : silentDue s = true := by
      unfold silentDue
      rw [heard, runs, expired_some past]; rfl
    refine whenDue_completes rfl due ⟨raiseNotice_comp _ _, ?_, fun b hb => ?_⟩
    · simp [wallFallsSilent, NoticesRaised, raiseAll]
    · cases b <;> simp [Block.same] at hb ⊢

end Sys2Proof.Machine
end

section
/-! SUPPORT. What a composed view shows (R127, R129): its header, and the rows of each of the seven views. -/

namespace Sys2Proof.Machine

/-! ## The step shown -/

theorem composedView_stopped {s : State} (stopped : s.comp.player = .stopped) : composedView s =
    ⟨s.hub.config.resting, none, s.now, viewExtra s s.hub.config.resting 0, viewRows s s.hub.config.resting 0 false 0⟩ := by
  unfold composedView shownStep
  rw [stopped]

theorem composedView_active {s : State} {ended : Bool} {p : Playing} (active : s.comp.player = .active ended p) :
    composedView s = ⟨p.view, some (p.sequence, p.step), s.now, viewExtra s p.view p.team,
      viewRows s p.view p.highlight p.invert p.team⟩ := by
  unfold composedView shownStep
  rw [active]

/-- R127: a view but TEAM_CARD names no team of its own. -/
theorem viewExtra_uncarded {v : View} (h : v ≠ .teamCard) (s : State) (card other : Fin 16) :
    viewExtra s v card = viewExtra s v other := by
  cases v
  case teamCard => exact absurd rfl h
  all_goals rfl

theorem viewRows_uncarded {v : View} (h : v ≠ .teamCard) (s : State) (hl : TeamSet) (inv : Bool) (card other : Fin 16) :
    viewRows s v hl inv card = viewRows s v hl inv other := by
  cases v
  case teamCard => exact absurd rfl h
  all_goals rfl

/-- What the step shown, or the resting view, asks of the rows. -/
def ShownMarks (s : State) (highlight : TeamSet) (invert : Bool) (card : Fin 16) : Prop :=
  (s.comp.player = .stopped ∧ s.hub.config.resting ≠ .teamCard ∧ highlight = 0 ∧ invert = false)
    ∨ ∃ ended p, s.comp.player = .active ended p ∧ highlight = p.highlight ∧ invert = p.invert ∧ card = p.team

/-- R127, R129: the fields and rows of a composed view are those of its view, with the marks of the step shown. -/
theorem composedView_shows {s : State} {highlight : TeamSet} {invert : Bool} {card : Fin 16}
    (marks : ShownMarks s highlight invert card) :
    (composedView s).extra = viewExtra s (composedView s).view card
      ∧ (composedView s).rows = viewRows s (composedView s).view highlight invert card := by
  rcases marks with ⟨stopped, rests, rfl, rfl⟩ | ⟨ended, p, active, rfl, rfl, rfl⟩
  · rw [composedView_stopped stopped]
    exact ⟨viewExtra_uncarded rests s _ _, viewRows_uncarded rests s _ _ _ _⟩
  · rw [composedView_active active]
    exact ⟨rfl, rfl⟩

/-! ## The rows (R127) -/

/-- R127: the entry of a team card is the first of its team, if the list has one. -/
theorem find_team {l front back : List Standing} {e : Standing} {card : Fin 16} (split : l = front ++ e :: back)
    (own : e.team = card) (first : ∀ x ∈ front, x.team ≠ card) : (l.find? fun x => x.team = card) = some e := by
  rw [split, List.find?_append, List.find?_eq_none.mpr fun x hx => by simpa using first x hx, Option.none_or]
  exact List.find?_cons_of_pos (by simpa using own)

theorem filter_finRange_lt (m n : Nat) : ((List.finRange m).filter fun k => k.val < n) = (List.finRange m).take n := by
  induction m generalizing n with
  | zero => simp
  | succ m ih =>
    rw [List.finRange_succ]
    cases n with
    | zero => simp
    | succ n =>
      rw [List.filter_cons_of_pos (by simp), List.filter_map, List.take_succ_cons, ← List.map_take, ← ih]
      refine congrArg (List.cons 0 <| List.map Fin.succ ·) (List.filter_congr fun k _ => ?_)
      simp

/-- R127: one row for each option in play. -/
theorem optionRows {α : Type} (m n : Nat) (row : Fin m → α) :
    (((List.finRange m).filter fun k => k.val < n).map row).length = min m n
      ∧ ∀ k : Fin m, k.val < n → (((List.finRange m).filter fun k => k.val < n).map row)[k.val]? = some (row k) := by
  rw [filter_finRange_lt]
  refine ⟨by simp [Nat.min_comm], fun k inPlay => ?_⟩
  rw [List.getElem?_map, List.getElem?_take_of_lt inPlay, List.getElem?_eq_getElem (by simp), List.getElem_finRange]
  rfl

theorem histogramRows_of_asked {s : State} (asked : s.resp.header.kind = some .choice ∨ s.resp.header.kind = some .poll) :
    histogramRows s = histogramRows.rows s := by
  unfold histogramRows
  rcases asked with kind | kind <;> rw [kind]

theorem histogramRows_of_unasked {s : State}
    (unasked : ¬ (s.resp.header.kind = some .choice ∨ s.resp.header.kind = some .poll)) : histogramRows s = [] := by
  unfold histogramRows
  split
  · exact absurd (.inl ‹_›) unasked
  · exact absurd (.inr ‹_›) unasked
  · rfl

/-- R129: the figure of a COUNTDOWN view, in whole seconds. -/
theorem countdownFigure_eq (s : State) : countdownFigure s = match s.round.window with
    | .stopped => none
    | .running d => some (if since d s.now ≤ 0 then 0 else ((since d s.now).toNat + 799) / 800)
    | .paused r => some ((r + 799) / 800) := by
  unfold countdownFigure windowRemaining
  cases s.round.window with
  | stopped => rfl
  | running d =>
    by_cases past : since d s.now ≤ 0
    · exact congrArg some ((if_neg (Int.not_lt.mpr past)).trans (if_pos past).symm)
    · exact congrArg some ((if_pos (Int.not_le.mp past)).trans (if_neg past).symm)
  | paused r =>
    refine congrArg some ?_
    split
    · rfl
    · omega

/-- Settles O49: the header of each case of the player, and then the rows of each view. -/
theorem composedViewsShowTheDataOfTheirMoment : Obligations.ComposedViewsShowTheDataOfTheirMoment := by
  intro s
  refine ⟨?_, fun stopped => ?_, fun ended p active => ?_, fun highlight invert card marks => ?_⟩
  · cases player : s.comp.player with
    | stopped => rw [composedView_stopped player]
    | active ended p => rw [composedView_active player]
  · rw [composedView_stopped stopped]
    exact ⟨rfl, rfl⟩
  · rw [composedView_active active]
    exact ⟨rfl, rfl⟩
  · obtain ⟨extra, rows⟩ := composedView_shows marks
    dsimp only
    rw [extra, rows]
    generalize (composedView s).view = view
    cases view with
    | standings => exact ⟨rfl, rfl⟩
    | topFive =>
      refine ⟨rfl, congrArg _ (List.filter_congr fun e _ => ?_)⟩
      exact decide_eq_decide.mpr Nat.lt_succ_iff.symm
    | teamCard =>
      refine ⟨rfl, fun front e back split own first => ?_, fun absent => ?_⟩
      · simp only [viewRows, find_team split own first]
        rfl
      · have unlisted : (s.sorter.published.find? fun e => e.team = card) = none :=
          List.find?_eq_none.mpr fun e he => by simpa using absent e he
        simp only [viewRows, unlisted]
        rfl
    | histogram =>
      refine ⟨rfl, ?_⟩
      by_cases asked : s.resp.header.kind = some .choice ∨ s.resp.header.kind = some .poll
      · rw [if_pos asked]
        simp only [viewRows, histogramRows_of_asked asked]
        exact optionRows 6 _ _
      · rw [if_neg asked]
        exact histogramRows_of_unasked asked
    | buzzOrder =>
      refine ⟨rfl, List.length_mapIdx, fun i e at_ => ?_⟩
      simp only [viewRows, List.getElem?_mapIdx, at_]
      rfl
    | countdown => exact ⟨rfl, congrArg _ (countdownFigure_eq s)⟩
    | blank => exact ⟨rfl, rfl⟩

end Sys2Proof.Machine
end

section
/-! SUPPORT. The front view moves at a mark with a READY back buffer, or at a reset (R131, R140). -/

namespace Sys2Proof.Machine

/-! ## Marks and resets -/

/-- R131: the front view after a mark. -/
theorem markSteps_front (refresh : Option Byte) (s : State) : (markSteps refresh s).comp.front =
    if s.comp.backState = .ready ∧ s.comp.freeze = false then s.comp.back else s.comp.front := by
  have swapped := swapBuffers_swaps refresh s
  unfold BuffersSwap at swapped
  unfold markSteps
  rw [countdownRule_comp_front, countStep_comp_front]
  split at swapped
  · rename_i ready
    rw [if_pos ready, swapped.1]
  · rename_i still
    rw [if_neg still, swapped]

/-- R140: a warm restart shows BLANK. -/
theorem warmRestart_front (s : State) : (warmRestart s).comp.front = ViewImage.blank := by
  simp [warmRestart, startRanking, Composer.restarted, Composer.reset]

theorem restarting_of_restartEnding {s : State} (ending : restartEnding s = true) : s.hub.agent = .restarting := by
  unfold restartEnding at ending
  split at ending
  · assumption
  · cases ending

/-! ## The Preset Loader (R173, R174) -/

theorem recordOutcomes_front (t : Table) (i : Nat) (rs : List (List Byte)) (s : State) :
    (recordOutcomes t i rs s).2.comp.front = s.comp.front :=
  recordOutcomes_invariant t (fun u => u.comp.front = s.comp.front) (fun _ _ _ h => by simpa using h) rs i s rfl

theorem walkSection_front (s : State) : (walkSection s).comp.front = s.comp.front := by
  obtain ⟨u, e, -, rfl | ⟨t, i, rs, rfl⟩⟩ := walkSection_cases s
  · rw [e]; rfl
  · rw [e]; exact recordOutcomes_front t i rs s

theorem resetTables_front (s : State) : (resetTables s).comp.front = s.comp.front := by
  have seats := foldl_keeps (fun s k => assignTeam k none s) (fun s => s.comp.front) (by intro s k; simp) (List.finRange 256)
  have teams := foldl_keeps (fun s t => storeTeam t Team.reset s) (fun s => s.comp.front) (by intro s t; simp)
    (List.finRange 16)
  simpa [resetTables] using (teams _).trans (seats s)

theorem endLoad_front (r : LoadResult) (s : State) : (endLoad r s).comp.front = s.comp.front := by
  rw [endLoad_eq]
  cases r <;> simp [loadAction, resetTables_front, autostart_same]

/-! ## Every command -/

/-- Whatever is true of the front view, quiet movements keep. -/
theorem frontShows_step (shows : ViewImage → Prop) : StepRelation fun s u => shows s.comp.front → shows u.comp.front where
  quiet q := by rw [show _ = _ from q .comp (by decide)]; exact id
  trans h g := g ∘ h

theorem frontKept_step : StepRelation fun s u => u.comp.front = s.comp.front where
  quiet q := congrArg Composer.front (q .comp (by decide))
  trans h g := g.trans h

/-- The marks, and the commands that a reset takes effect at. -/
def movesFront : Instr → Bool
  | .mark _ | .internalMark | .hardReset .. | .warmRestart | .consoleFrameEnd => true
  | _ => false

/-- R131, R140: by the owner of each command. -/
theorem exec_front_kept {c : Instr} {s t : State} (h : exec c s = .next t) (other : movesFront c = false) :
    t.comp.front = s.comp.front := by
  have r := frontKept_step
  cases c with
  | mark | internalMark | hardReset | warmRestart | consoleFrameEnd => cases other
  | showTimeTick => cases h; rfl
  | pass =>
    simp only [exec, execPass] at h
    exact r.of_takeGood h fun _ => r.quiet (offerPass_quiet _ s)
  | cue => exact r.of_takeGood h (r.of_takeCue fun c x => by cases c <;> simp [cueAction])
  | hubRequest => exact r.of_takeGood h fun _ => r.quiet (takeRequest_quiet _ s)
  | report => exact r.of_takeGood h fun _ => r.quiet (takeReport_quiet _ s)
  | readSeats | readTeams | readQuestions | readCues | readSequences | readSteps | readPortcfg | readConfig | readResponses
  | readBuzzq | readJudged | readScores | readStandings | readCommit | readPortstat => exact r.of_runRead h fun _ => by simp
  | writeSeats | writeTeams | writeQuestions | writeCues | writeSequences | writeSteps | writePortcfg | writeConfig =>
    exact r.of_runWrite h fun rs => recordOutcomes_front _ _ rs s
  | actOpen | actNext | actClose | actCommit | actCancel | actJudge | actRevoke | actAdjust | actClearScores | showReveal
  | showStopSequence | showFreeze | showThaw | showCurtainOn | showCurtainOff | showResting =>
    exact r.of_runAction h (by simp)
  | reload tag flash =>
    refine r.of_runAction h ?_
    unfold reloadAction
    split <;> rfl
  | portStart | portStop | portRollCall => exact r.of_onPort h fun p => by simp [stopAction]
  | status => exact r.of_executeRequest h (r.quiet (clearLatched_quiet s))
  | requestMalformed payload =>
    simp only [exec, execRequestMalformed] at h
    (repeat' split at h)
    · exact r.of_finish h (r.quiet ((placeReply_quiet _ _ _ s).trans (nextRequest_quiet _)))
    · cases h; rfl
    · exact r.of_executeRequest h rfl
    · cases h; rfl
  | readUnknownTable =>
    simp only [exec, execReadUnknownTable] at h
    split at h
    · cases h; rfl
    · exact r.of_executeRequest h rfl
  | writeReadOnlyTable =>
    simp only [exec, execWriteReadOnlyTable] at h
    split at h
    · exact r.of_executeRequest h rfl
    · cases h; rfl
  | restart tag =>
    simp only [exec, execRestart] at h
    (repeat' split at h)
    · exact r.of_finish h (r.quiet ((placeReply_quiet _ _ _ s).trans (nextRequest_quiet _)))
    · exact r.of_finish h (r.quiet (restartTaken_quiet tag s))
    · cases h; rfl
  | handsetFrameReceived => exact r.of_finish h rfl
  | sweepEnd p =>
    simp only [exec, execSweepEnd] at h
    split at h
    · exact r.of_whenDue h fun _ => by simp
    · cases h; rfl
  | wallFrameEnd =>
    simp only [exec, execWallFrameEnd] at h
    split at h
    · exact r.of_finish h (r.quiet (endWallFrame_quiet _ s))
    · cases h; rfl
  | frameHandoff | walkSeatVisit =>
    simp only [exec, execFrameHandoff, execWalkSeatVisit] at h
    split at h
    · exact r.of_finish h (by simp)
    · cases h; rfl
  | loadEnd =>
    simp only [exec, execLoadEnd] at h
    split at h
    · exact r.of_finish h (endLoad_front _ s)
    · cases h; rfl
  | inboxTake =>
    simp only [exec, execInboxTake] at h
    split at h
    · exact r.of_finish h (by simp)
    · cases h; rfl
    · cases h; rfl
  | presetSection => exact r.of_whenDue h fun _ => walkSection_front s
  | idleFillExpiry => exact r.of_whenDue h fun _ => rfl
  | linkFrameDiscarded => exact r.of_whenDue h fun _ => r.quiet (discardFrame_quiet _ _ _ _ s)
  | wakeTimerExpiry | sweepStart | breakBegin | lineIdleChange | breakEnd | windowExpiry | settleExpiry
  | headSettleExpiry | answerTimerExpiry | applicationStep | publicationStep | composeEnd | wallSilentExpiry
  | tallyTimerExpiry | seatTimerExpiry => exact r.of_whenDue h fun _ => by simp

/-- The front view that a mark can leave. -/
def MarkShows (s : State) (v : ViewImage) : Prop :=
  v = s.comp.front ∨ (s.comp.freeze = false ∧ s.comp.backState = .ready ∧ v = s.comp.back)

theorem markSteps_shows {s w : State} (refresh : Option Byte) (front : w.comp.front = s.comp.front)
    (back : w.comp.back = s.comp.back) (state : w.comp.backState = s.comp.backState) (freeze : w.comp.freeze = s.comp.freeze) :
    MarkShows s (markSteps refresh w).comp.front := by
  rw [markSteps_front, front, back, state, freeze]
  split
  · rename_i ready
    exact .inr ⟨ready.2, ready.1, rfl⟩
  · exact .inl rfl

/-- R131: a MARK, or an internal mark. -/
theorem exec_mark_front {c : Instr} {s t : State} (h : exec c s = .next t) (mark : (∃ a, c = .mark a) ∨ c = .internalMark) :
    MarkShows s t.comp.front := by
  have r := frontShows_step (MarkShows s)
  rcases mark with ⟨a, rfl⟩ | rfl
  · simp only [exec, execMark] at h
    refine r.of_takeGood h (fun payload _ => ?_) (.inl rfl)
    exact markSteps_shows _ (by rw [markWall_comp]) (by rw [markWall_comp]) (by rw [markWall_comp]) (by rw [markWall_comp])
  · exact r.of_whenDue h (fun _ _ => markSteps_shows _ rfl rfl rfl rfl) (.inl rfl)

/-- R140, R166: a warm restart, or a command that is none. -/
theorem exec_restart_front {c : Instr} {s t : State} (h : exec c s = .next t)
    (ends : c = .warmRestart ∨ c = .consoleFrameEnd) :
    t.comp.front = s.comp.front ∨ (t.comp.front.view = .blank ∧ s.hub.agent = .restarting) := by
  by_cases ending : restartEnding s = true
  · have restarts : finish (warmRestart s) = .next t := (exec_of_restartEnding ends ending).symm.trans h
    have front : t.comp.front = ViewImage.blank := (frontKept_step.of_finish restarts rfl).trans (warmRestart_front s)
    exact .inr ⟨congrArg ViewImage.view front, restarting_of_restartEnding ending⟩
  · rcases ends with rfl | rfl
    · have idle : exec .warmRestart s = .next s := if_neg ending
      cases h.symm.trans idle
      exact .inl rfl
    · refine .inl (frontKept_step.of_whenDue h fun _ => ?_)
      unfold endConsoleFrame
      rw [if_neg ending]
      rfl

/-- Settles O53: by the commands that move the front view, and those that do not. -/
theorem theFrontViewMovesOnlyAtUnfrozenMarksAndResets : Obligations.TheFrontViewMovesOnlyAtUnfrozenMarksAndResets := by
  intro c s t h moved
  have marked (mark : (∃ a, c = .mark a) ∨ c = .internalMark) := (exec_mark_front h mark).resolve_left moved
  have restarted (ends : c = .warmRestart ∨ c = .consoleFrameEnd) := (exec_restart_front h ends).resolve_left moved
  cases moves : movesFront c with
  | false => exact absurd (exec_front_kept h moves) moved
  | true =>
    cases c with
    | mark a => exact .inl ⟨.inl ⟨a, rfl⟩, marked (.inl ⟨a, rfl⟩)⟩
    | internalMark => exact .inl ⟨.inr rfl, marked (.inr rfl)⟩
    | hardReset strap flash => cases h; exact .inr ⟨rfl, .inl ⟨strap, flash, rfl⟩⟩
    | warmRestart => exact .inr ⟨(restarted (.inl rfl)).1, .inr ⟨.inl rfl, (restarted (.inl rfl)).2⟩⟩
    | consoleFrameEnd => exact .inr ⟨(restarted (.inr rfl)).1, .inr ⟨.inr rfl, (restarted (.inr rfl)).2⟩⟩
    | _ => cases moves

end Sys2Proof.Machine
end

section
/-! SUPPORT. The link steps of chapter 9: what the two transmitters take at the end of an event and at the end of a frame. -/

namespace Sys2Proof.Machine

/-! ## What the arbiters leave alone (R149, R153) -/

theorem ConsoleTaken.keeps {s u : State} (taken : ConsoleTaken s u) :
    Keeps [.replies, .reports, .sending, .notices] s u := by
  unfold ConsoleTaken at taken
  split at taken
  · subst taken; exact .refl _ _
  · subst taken; exact .refl _ _
  · exact taken.2.mono (by decide)
  · exact taken.2.mono (by decide)
  · exact taken.2.2.mono (by decide)

theorem BurstBegun.keeps {b : Burst} {s u : State} (begun : BurstBegun b s u) : Keeps [.scoreOut, .sending] s u := by
  obtain ⟨-, -, -, -, -, kept⟩ := begun
  exact kept

theorem PassBegun.keeps {f : Frame} {queue : List Frame} {s u : State} (begun : PassBegun f queue s u) :
    Keeps [.passing, .sending] s u := by
  obtain ⟨-, -, -, -, -, -, kept⟩ := begun
  exact kept

theorem WallTaken.keeps {s u : State} (taken : WallTaken s u) : Keeps [.passing, .scoreOut, .sending] s u := by
  unfold WallTaken at taken
  split at taken
  · subst taken; exact .refl _ _
  · subst taken; exact .refl _ _
  · exact taken.keeps.mono (by decide)
  · exact taken.keeps.mono (by decide)
  · split at taken
    · exact taken.keeps.mono (by decide)
    · exact taken.keeps.mono (by decide)

theorem consoleChoose_busy {s : State} (busy : s.link.consoleTx.isSome) : consoleChoose s = s := by
  obtain ⟨f, sends⟩ := Option.isSome_iff_exists.mp busy
  have taken := consoleChoose_taken s
  unfold ConsoleTaken at taken
  rw [sends] at taken
  exact taken

theorem wallChoose_busy {s : State} (busy : s.link.wallTx.isSome) : wallChoose s = s := by
  obtain ⟨f, sends⟩ := Option.isSome_iff_exists.mp busy
  have taken := wallChoose_taken s
  unfold WallTaken at taken
  rw [sends] at taken
  exact taken

/-- R149, R153: while the wall transmitter sends, only the console's arbiter chooses. -/
theorem settleLinks_wall_busy {s : State} (busy : s.link.wallTx.isSome) : settleLinks s = consoleChoose s := by
  have still : (consoleChoose s).link.wallTx = s.link.wallTx := (consoleChoose_wall s).1
  exact wallChoose_busy (still ▸ busy)

/-- R149, R153: the end of an event moves the queues and the transmitters alone. -/
theorem settleLinks_keeps (s : State) :
    Keeps [.passing, .replies, .reports, .scoreOut, .sending, .notices] s (settleLinks s) :=
  ((consoleChoose_taken s).keeps.mono (by decide)).trans ((wallChoose_taken _).keeps.mono (by decide))

/-- Settles O2: the console's arbiter chooses first, then the wall's. -/
theorem arbitersMoveOnlyWaitingFrames : Obligations.ArbitersMoveOnlyWaitingFrames := by
  intro s
  refine ⟨settleLinks_keeps s, fun busy => ?_, fun busy => ?_, _, consoleChoose_taken s, wallChoose_taken _⟩
  · obtain ⟨tx, slot, queue, -⟩ := consoleChoose_wall s
    rw [settleLinks_wall_busy busy]
    exact ⟨tx, queue, slot⟩
  · obtain ⟨tx, replies, -, reports⟩ := wallChoose_console s
    unfold settleLinks
    rw [consoleChoose_busy busy]
    exact ⟨tx, replies, reports, by rw [wallChoose_hub]⟩

/-! ## The end of a frame on the console link (R153) -/

theorem withLink_sending_keeps (s : State) (wall : Option WallTx) (console : Option Frame) (fill : Option Time) :
    Keeps [.sending] s (s.withLink { s.link with wallTx := wall, consoleTx := console, fillTimer := fill }) := by
  intro b hb; cases b <;> simp [Block.same] at hb ⊢

/-- R153: what a console transmitter that becomes idle takes stands when the wall's arbiter has chosen too. -/
theorem settleLinks_console (s : State) :
    ∃ v, ConsoleTaken s v ∧ (settleLinks s).link.consoleTx = v.link.consoleTx
      ∧ (settleLinks s).link.replies = v.link.replies ∧ (settleLinks s).link.owed = v.link.owed
      ∧ (settleLinks s).link.reports = v.link.reports ∧ (settleLinks s).hub.notices = v.hub.notices := by
  obtain ⟨tx, replies, owed, reports⟩ := wallChoose_console (consoleChoose s)
  exact ⟨_, consoleChoose_taken s, tx, replies, owed, reports, by rw [settleLinks, wallChoose_hub]⟩

/-- Settles O11. -/
theorem consoleArbiterSendsRepliesThenReportsThenNotices : Obligations.ConsoleArbiterSendsRepliesThenReportsThenNotices := by
  intro f s sending noRestart
  have ends : exec .consoleFrameEnd s = .next (settleLinks (s.withLink { s.link with consoleTx := none })) := by
    have ended : endConsoleFrame s = s.withLink { s.link with consoleTx := none } := if_neg (by simp [noRestart])
    exact (if_pos (by rw [sending]; rfl)).trans (congrArg finish ended)
  refine ⟨_, ends, ((withLink_sending_keeps s _ none _).mono (by decide)).trans (settleLinks_keeps _), ?_⟩
  obtain ⟨v, taken, tx, replies, owed, reports, notices⟩ :=
    settleLinks_console (s.withLink { s.link with consoleTx := none })
  rw [tx, replies, owed, reports, notices]
  unfold ConsoleTaken at taken
  simp only [withLink_link, withLink_hub] at taken
  cases replied : s.link.replies with
  | cons r rs =>
    rw [replied] at taken
    obtain ⟨link, same⟩ := taken
    have hub := same .notices (by decide)
    rw [link]
    exact ⟨rfl, rfl, rfl, rfl, hub⟩
  | nil =>
    cases reported : s.link.reports with
    | cons r rs =>
      rw [replied, reported] at taken
      obtain ⟨link, same⟩ := taken
      have hub := same .notices (by decide)
      rw [link]
      exact ⟨rfl, rfl, rfl, hub⟩
    | nil =>
      cases noticed : s.hub.notices with
      | cons n ns =>
        rw [replied, reported, noticed] at taken
        obtain ⟨⟨payload, link, bytes⟩, queue, -⟩ := taken
        rw [link]
        exact ⟨⟨payload, rfl, bytes⟩, queue, rfl⟩
      | nil =>
        rw [replied, reported, noticed] at taken
        rw [taken]
        exact ⟨rfl, rfl⟩

/-! ## The end of a frame on the wall link (R149 to R151) -/

theorem ScoreFrame.head {number index count : Byte} {b : Burst} {rows : List Row} {f : Frame}
    (frame : ScoreFrame number index count b rows f) : f.cls = 7 ∧ f.payload.take 3 = [number, index, count] := by
  obtain ⟨cls, x, fields, payload, -⟩ := frame
  exact ⟨cls, by rw [payload]; rfl⟩

/-- R148, R150: the first bytes of the first frame of a burst, and the frames that follow it. -/
theorem BurstBegun.sent {b : Burst} {s u : State} (begun : BurstBegun b s u) :
    ∃ g more, u.link.wallTx = some ⟨g, more⟩ ∧ g.cls = 7 ∧ more.length = (if b.image.rows.length ≤ 8 then 0 else 1)
      ∧ g.payload.take 3 = [s.link.burstNext, 1, if b.image.rows.length ≤ 8 then 1 else 2] := by
  obtain ⟨⟨g, more, tx, frames⟩, -⟩ := begun
  refine ⟨g, more, tx, ?_⟩
  by_cases small : b.image.rows.length ≤ 8
  · obtain ⟨frame, rfl⟩ := (if_pos small).mp frames
    simp only [if_pos small]
    exact ⟨frame.head.1, rfl, frame.head.2⟩
  · obtain ⟨frame, last, rfl, -⟩ := (if_neg small).mp frames
    simp only [if_neg small]
    exact ⟨frame.head.1, rfl, frame.head.2⟩

theorem endWallFrame_keeps (t : WallTx) (s : State) : Keeps [.sending] s (endWallFrame t s) := by
  obtain ⟨f, rest⟩ := t
  cases rest <;> exact withLink_sending_keeps s _ _ _

/-- R149, R151: after the last frame of a burst the arbiter chooses from the queues as they stood, with the idle-fill timer
started. -/
theorem endWallFrame_chooses (f : Frame) (s : State) :
    ∃ v, WallTaken v (settleLinks (endWallFrame ⟨f, []⟩ s)) ∧ v.link.wallTx = none ∧ v.link.scoreOut = s.link.scoreOut
      ∧ v.link.passQueue = s.link.passQueue ∧ v.link.burstNext = s.link.burstNext
      ∧ v.link.fillTimer = some (s.now + 160) ∧ v.link.hold = s.link.hold ∧ v.hub.config = s.hub.config := by
  obtain ⟨tx, slot, queue, burst, fill, hold⟩ := consoleChoose_wall (endWallFrame ⟨f, []⟩ s)
  exact ⟨_, wallChoose_taken _, tx, slot, queue, burst, fill, hold, consoleChoose_hub_config _⟩

/-- R150, R151: what a burst that begins leaves to be seen of it. -/
theorem BurstBegun.wall {b : Burst} {s u : State} (begun : BurstBegun b s u) :
    u.link.scoreOut = none ∧ u.link.burstNext = s.link.burstNext + 1 ∧ u.link.fillTimer = none
      ∧ u.link.passQueue = s.link.passQueue ∧ u.link.hold = s.link.hold := by
  obtain ⟨-, slot, burst, fill, -, kept⟩ := begun
  obtain ⟨queue, hold⟩ := kept .passing (by decide)
  exact ⟨slot, burst, fill, queue, hold⟩

/-- R145, R146: what a Pass Queue frame that begins leaves to be seen of it. -/
theorem PassBegun.wall {f : Frame} {queue : List Frame} {s u : State} (begun : PassBegun f queue s u) :
    u.link.wallTx = some ⟨f, []⟩ ∧ u.link.passQueue = queue ∧ u.link.scoreOut = s.link.scoreOut ∧ u.link.fillTimer = none
      ∧ u.link.hold = (s.link.hold && decide (queue.length ≠ 2)) := by
  obtain ⟨tx, left, hold, fill, -, -, kept⟩ := begun
  exact ⟨tx, left, kept .scoreOut (by decide), fill, hold⟩

/-- R24, R151: the FILL frame while a question is current. -/
theorem fillFrame_current {s : State} {q : Fin 128} (current : s.round.current = some q) :
    fillFrame (roundSummary s) s.now = ⟨8, [byteOf q.val, s.round.state.windowCode, s.questions[q].kind.code,
      byteOf s.questions[q].options] ++ be32 s.now.toNat⟩ := by
  unfold fillFrame roundSummary Summary.bytes
  rw [current]
  rfl

/-- R24, R151: the FILL frame without a current question. -/
theorem fillFrame_empty {s : State} (current : s.round.current = none) :
    fillFrame (roundSummary s) s.now = ⟨8, [255, s.round.state.windowCode, 255, 255] ++ be32 s.now.toNat⟩ := by
  unfold fillFrame roundSummary Summary.bytes
  rw [current]
  rfl

theorem sendFill_wallTx (s : State) : (sendFill s).link.wallTx = some ⟨fillFrame (roundSummary s) s.now, []⟩ := rfl

/-- Settles O10: a burst in transmission goes on by itself, and after its last frame the arbiter chooses. -/
theorem theWallLinkChoosesByUrgencyAndFillsItsIdleTime : Obligations.TheWallLinkChoosesByUrgencyAndFillsItsIdleTime := by
  constructor
  · intro f rest s sending
    have ends : exec .wallFrameEnd s = .next (settleLinks (endWallFrame ⟨f, rest⟩ s)) := by
      simp only [exec, execWallFrameEnd, sending, finish]
    refine ⟨_, ends, ((endWallFrame_keeps _ s).mono (by decide)).trans (settleLinks_keeps _), ?_⟩
    cases rest with
    | cons g more =>
      obtain ⟨tx, slot, queue, burst, -, hold⟩ := consoleChoose_wall (endWallFrame ⟨f, g :: more⟩ s)
      rw [settleLinks_wall_busy rfl]
      exact ⟨tx, queue, hold, slot, burst⟩
    | nil =>
      obtain ⟨v, taken, tx, slot, queue, burst, fill, hold, config⟩ := endWallFrame_chooses f s
      unfold WallTaken at taken
      rw [tx, slot, queue, config] at taken
      rw [← burst, ← hold]
      cases waiting : s.link.scoreOut with
      | none =>
        cases queued : s.link.passQueue with
        | nil =>
          rw [waiting, queued] at taken
          rw [taken]
          exact ⟨tx, fill⟩
        | cons p q =>
          rw [waiting, queued] at taken
          obtain ⟨sends, left, -, stops, held⟩ := PassBegun.wall taken
          exact ⟨sends, left, stops, held⟩
      | some b =>
        cases queued : s.link.passQueue with
        | nil =>
          rw [waiting, queued] at taken
          obtain ⟨empty, next, stops, -⟩ := BurstBegun.wall taken
          exact ⟨empty, next, stops, taken.sent⟩
        | cons p q =>
          rw [waiting, queued] at taken
          by_cases below : (p :: q).length < s.hub.config.urgent
          · have begun : BurstBegun b v _ := (if_pos below).mp taken
            obtain ⟨empty, next, stops, left, held⟩ := begun.wall
            exact (if_pos below).mpr ⟨empty, next, stops, left.trans (queue.trans queued), held, begun.sent⟩
          · have begun : PassBegun p q v _ := (if_neg below).mp taken
            obtain ⟨sends, left, waits, stops, held⟩ := begun.wall
            exact (if_neg below).mpr ⟨sends, left, waits.trans (slot.trans waiting), stops, held⟩
  · intro e s timer passed idle
    have due : fillDue s = true := by
      simp [fillDue, expired, atOrAfter, timer, passed, idle]
    refine ⟨sendFill s, if_pos due, rfl, rfl, rfl, ?_, withLink_sending_keeps s _ _ _⟩
    rw [sendFill_wallTx]
    cases current : s.round.current with
    | some q => rw [fillFrame_current current]
    | none => rw [fillFrame_empty current]

end Sys2Proof.Machine
end

section
/-! SUPPORT. Frames taken from the two links and frames discarded (R142 to R147, R152, R154, R157). -/

namespace Sys2Proof.Machine

/-! ## Discards (R142, R143, R154) -/

/-- R142, R154: a discard sets LINK_CHECK and moves that link's receiver on, and does nothing else. -/
theorem discardFrame_discards (link : Link) (start : Time) (heard : List Heard) (broken : Bool) (s : State) :
    (discardFrame link start heard broken s).link.linkCheck = true
      ∧ (discardFrame link start heard broken s).link.passOverrun = s.link.passOverrun
      ∧ (discardFrame link start heard broken s).link.requestDropped = s.link.requestDropped
      ∧ ReceiverGoesOn link start heard broken s (discardFrame link start heard broken s)
      ∧ Keeps [.linkFlags, .receivers] s (discardFrame link start heard broken s) := by
  cases link <;>
    exact ⟨rfl, rfl, rfl, ⟨after_huntsOn _ _ _ _, rfl⟩, by
      intro b hb; cases b <;> simp [Block.same, discardFrame, receiveOn] at hb ⊢⟩

/-- R142, R143: a command that discards a frame completes with the discard. -/
theorem completes_discard {c : Instr} {link : Link} {start : Time} {heard : List Heard} {broken : Prop} {b : Bool} {s : State}
    (discards : exec c s = finish (discardFrame link start heard b s)) (told : b = true ↔ broken) :
    Completes c s fun u =>
      u.link.linkCheck = true ∧ u.link.passOverrun = s.link.passOverrun ∧ u.link.requestDropped = s.link.requestDropped
      ∧ (∃ b : Bool, (b = true ↔ broken) ∧ ReceiverGoesOn link start heard b s u)
      ∧ Keeps [.linkFlags, .receivers] s u := by
  obtain ⟨check, overrun, dropped, goesOn, kept⟩ := discardFrame_discards link start heard b s
  exact ⟨_, discards, check, overrun, dropped, ⟨b, told, goesOn⟩, kept⟩

/-- R142, R143: LINK_FRAME_DISCARDED, of bytes that the receiver discards. -/
theorem exec_linkFrameDiscarded {link : Link} {start : Time} {heard : List Heard} {s : State}
    (discarded : frameDiscarded link start heard = true) :
    exec (.linkFrameDiscarded link start heard) s = finish (discardFrame link start heard (frameBroken start heard) s) :=
  if_pos discarded

/-! ## Frames queued (R144 to R147) -/

/-- R142, R143: a PASS frame that arrived whole completes with its offer. -/
theorem pass_taken {a : Arrival} {payload : List Byte} (s : State) (whole : ArrivedWhole a payload)
    (hi : payload.length ≤ 250) : exec (.pass a) s = finish (taken .console 1 a (offerPass ⟨1, payload⟩) s) :=
  takeGood_whole .console 1 (fun payload => offerPass ⟨1, payload⟩) s whole hi (by simp [inwardGood, hi])

/-- R142, R143: a REPORT frame that arrived whole is routed. -/
theorem report_taken {a : Arrival} {payload : List Byte} (s : State) (whole : ArrivedWhole a payload)
    (hi : payload.length ≤ 250) : exec (.report a) s = finish (taken .wall 6 a (takeReport payload) s) :=
  takeGood_whole .wall 6 takeReport s whole hi (by simp [inwardGood, hi])

/-- R147: a REPORT joins its queue of 2, or is lost. -/
theorem takeReport_queues (payload : List Byte) (s : State) :
    (takeReport payload s).link.linkCheck = s.link.linkCheck
      ∧ (takeReport payload s).link.requestDropped = s.link.requestDropped
      ∧ (if s.link.reports.length < 2 then
          (takeReport payload s).link.reports = s.link.reports ++ [payload]
            ∧ (takeReport payload s).link.passOverrun = s.link.passOverrun
        else (takeReport payload s).link.reports = s.link.reports ∧ (takeReport payload s).link.passOverrun = true)
      ∧ Keeps [.reports, .linkFlags] s (takeReport payload s) := by
  unfold takeReport
  split
  all_goals
    refine ⟨rfl, rfl, ⟨rfl, rfl⟩, ?_⟩
    intro b hb; cases b <;> simp [Block.same] at hb ⊢

/-- Settles O6. -/
theorem linkFramesAreQueuedOrDiscarded : Obligations.LinkFramesAreQueuedOrDiscarded := by
  refine ⟨fun c link start heard broken s discards => ?_, fun a payload s whole hi => ?_, fun a payload s whole hi => ?_⟩
  · rcases discards with ⟨rfl, told, why⟩ | ⟨a, cls, rfl, arrived, told, why⟩
    · have told : frameBroken start heard = true ↔ broken := (frameBroken_iff start heard).trans told.symm
      refine completes_discard (exec_linkFrameDiscarded ((frameDiscarded_iff link start heard).mpr ?_)) told
      exact why.imp_left told.mpr
    · have told : arrivalBroken a = true ↔ broken := (arrivalBroken_iff a).trans told.symm
      rw [arrived.unique]
      refine completes_discard ?_ told
      rcases why with ⟨rfl, row, why⟩ | ⟨rfl, rfl, rfl, why⟩ | ⟨rfl, rfl, rfl, why⟩ | ⟨rfl, rfl, rfl, why⟩
      · have bad : arrivalBroken a = true ∨ inwardGood .console cls a.payload.length = false := by
          refine why.symm.imp told.mpr fun short => ?_
          rcases row with ⟨rfl, -⟩ | ⟨rfl, -⟩ <;> simp [inwardGood, short]
        rcases row with ⟨rfl, rfl⟩ | ⟨rfl, rfl⟩ <;> exact takeGood_discards _ _ a _ s bad
      · exact takeGood_discards .console 1 a (fun payload => offerPass ⟨1, payload⟩) s (.inl (told.mpr why))
      · refine takeGood_discards .wall 9 a (fun payload => takeMark (payload.getD 0 0)) s
          (why.symm.imp told.mpr fun length => ?_)
        simp [inwardGood, length]
      · exact takeGood_discards .wall 6 a takeReport s (.inl (told.mpr why))
  · obtain ⟨offered, kept⟩ := offerPass_offered ⟨1, payload⟩ s
    exact ⟨_, pass_taken s whole hi, _, offered, kept, taken_frame .console 1 a _ s⟩
  · obtain ⟨check, dropped, queued, kept⟩ := takeReport_queues payload s
    exact ⟨_, report_taken s whole hi, _, check, dropped, queued, kept, taken_frame .wall 6 a _ s⟩

/-! ## Requests (R144, R152, R157) -/

/-- R157: what the Hub Agent does with a request handed on. -/
theorem handOn_eq (payload : List Byte) (s : State) :
    handOn payload s =
      if s.hub.agent = .idle then s.withHub { s.hub with agent := .decoding payload s.now }
      else if s.hub.requests.length < 2 then s.withHub { s.hub with requests := s.hub.requests ++ [payload] }
      else placeReply payload .busy [] s := by
  unfold handOn handOn.queueRequest
  cases s.hub.agent <;> simp

theorem withHub_agent_keeps (agent : Agent) (requests : List (List Byte)) (s : State) :
    Keeps [.agent] s (s.withHub { s.hub with agent := agent, requests := requests }) := by
  intro b hb; cases b <;> simp [Block.same] at hb ⊢

theorem withLink_replies_keeps (replies : List (List Byte)) (owed : Nat) (s : State) :
    Keeps [.replies] s (s.withLink { s.link with replies := replies, owed := owed }) := by
  intro b hb; cases b <;> simp [Block.same] at hb ⊢

theorem handOn_keeps (payload : List Byte) (s : State) :
    Keeps [.replies, .agent] s (handOn payload s) ∧ (handOn payload s).link.owed = s.link.owed := by
  rw [handOn_eq]
  split
  · exact ⟨(withHub_agent_keeps _ _ s).mono (by decide), rfl⟩
  · split
    · exact ⟨(withHub_agent_keeps _ _ s).mono (by decide), rfl⟩
    · exact ⟨(withLink_replies_keeps _ _ s).mono (by decide), rfl⟩

/-- R157: a request handed on is decoded, queued, or answered. -/
theorem handOn_outcome (payload : List Byte) (s : State) :
    if s.hub.agent = .idle then
      (handOn payload s).hub.agent = .decoding payload s.now ∧ (handOn payload s).hub.requests = s.hub.requests
        ∧ (handOn payload s).link.replies = s.link.replies
    else if s.hub.requests.length < 2 then
      (handOn payload s).hub.agent = s.hub.agent ∧ (handOn payload s).hub.requests = s.hub.requests ++ [payload]
        ∧ (handOn payload s).link.replies = s.link.replies
    else
      (handOn payload s).hub.agent = s.hub.agent ∧ (handOn payload s).hub.requests = s.hub.requests
        ∧ (handOn payload s).link.replies = s.link.replies ++ [[payload.getD 0 0, payload.getD 1 0, 2]] := by
  rw [handOn_eq]
  (repeat' split) <;> exact ⟨rfl, rfl, rfl⟩

theorem requestDropped_keeps (s : State) : Keeps [.linkFlags] s (s.withLink { s.link with requestDropped := true }) := by
  intro b hb; cases b <;> simp [Block.same] at hb ⊢

/-- Settles O9. -/
theorem hubRequestIsDecodedQueuedAnsweredOrDropped : Obligations.HubRequestIsDecodedQueuedAnsweredOrDropped := by
  intro a payload s whole lo hi
  have good : inwardGood .console 3 payload.length = true := by simp [inwardGood, lo, hi]
  refine ⟨_, takeGood_whole .console 3 takeRequest s whole hi good, _, taken_frame .console 3 a _ s, ?_⟩
  by_cases full : 4 ≤ s.link.owed
  · have dropped : takeRequest payload s = s.withLink { s.link with requestDropped := true } := if_pos full
    rw [if_pos full, dropped]
    exact ⟨rfl, rfl, rfl, requestDropped_keeps s⟩
  · have handed : takeRequest payload s = handOn payload (s.withLink { s.link with owed := s.link.owed + 1 }) := if_neg full
    rw [if_neg full, handed]
    obtain ⟨kept, owed⟩ := handOn_keeps payload (s.withLink { s.link with owed := s.link.owed + 1 })
    exact ⟨owed, ((withLink_replies_keeps _ _ s).mono (by decide)).trans kept,
      handOn_outcome payload (s.withLink { s.link with owed := s.link.owed + 1 })⟩

end Sys2Proof.Machine
end

section
/-! SUPPORT. The values of every block after a warm restart (R9, R26, R60, R64, R84, R107, R108, R122, R140, R151, R156,
R166). -/

namespace Sys2Proof.Machine

section Blocks

variable (s : State)

/-! ## Ports and seats (R26, R60) -/

theorem warmRestart_port (p : Fin 4) :
    (warmRestart s).ports[p] =
      { Port.reset with
        state := if s.ports[p].state = .stopped then .stopped else .waking
        wakeTimer := if s.ports[p].state = .stopped then none else some 160
        cfg := s.ports[p].cfg
        checkPointer := s.ports[p].checkPointer } := by
  have restarted : (warmRestart s).ports = (restartPorts (applyPending false (s.withNow 0))).ports := by simp [warmRestart]
  have old : (applyPending false (s.withNow 0)).ports = s.ports := by simp
  have now : (applyPending false (s.withNow 0)).now = 0 := by simp
  rw [restarted, restartPorts_port, old, now]
  rfl

theorem warmRestart_seat (k : Fin 256) :
    (warmRestart s).seats[k] =
      ⟨s.seats[k].pending.getD s.seats[k].team, none, .absent, s.seats[k].cls, false, 0, none, .off, false⟩ := by
  have restarted : (warmRestart s).seats =
      ((restartPorts (applyPending false (s.withNow 0))).mapSeats fun _ seat => seat.restarted).seats := by simp [warmRestart]
  rw [restarted, mapSeats_get, restartPorts_seat, applyPending_seat]
  rfl

theorem warmRestart_stamper : (warmRestart s).stamper = Stamper.reset := by simp [warmRestart]

/-- R64: no entry of a Beacon History is written after a warm restart. -/
theorem warmRestart_history (p : Fin 4) (i : Fin 16) : (warmRestart s).stamper.history[p][i] = none := by
  have ring : (warmRestart s).stamper.history[p] = Vector.replicate 16 none := by
    rw [warmRestart_stamper]; exact replicate_get _ p
  rw [ring, replicate_get]

/-! ## The round, its answers, its race and its scores (R9, R84, R107, R108) -/

theorem warmRestart_round :
    (warmRestart s).round = ⟨.idle, none, .stopped, false, none, none, s.round.lastOpened, none⟩ := by
  simp [warmRestart]; rfl

theorem warmRestart_buzz : (warmRestart s).buzz = Buzz.reset := by simp [warmRestart]

theorem warmRestart_score : (warmRestart s).score = s.score.restarted := by simp [warmRestart]

theorem warmRestart_sorter :
    (warmRestart s).sorter.published = s.sorter.published ∧ (warmRestart s).sorter.running = true
      ∧ (warmRestart s).sorter.rerank = false := by simp [warmRestart, startRanking]

/-! ## Links, Hub Agent and Composer (R140, R151, R156, R166) -/

theorem warmRestart_link : (warmRestart s).link = { s.link.restarted 0 with scoreOut := some ⟨.blank, none⟩ } := by
  simp [warmRestart, placeBurst]

theorem warmRestart_hub : (warmRestart s).hub = s.hub.restarted := by
  simp [warmRestart, Hub.restarted]

/-- R140, R166: a warm restart ends by starting to compose, with the Composer at its restart values and CONFIG kept. -/
theorem warmRestart_composes :
    ∃ w, warmRestart s = startCompose w ∧ w.comp = s.comp.restarted (s.hub.config.silentTimeout * 80)
      ∧ w.hub.config = s.hub.config :=
  ⟨_, rfl, by simp [silentTicks, Hub.restarted], by simp [Hub.restarted]⟩

theorem warmRestart_comp :
    ∃ back start, back.view = s.hub.config.resting ∧ (warmRestart s).comp =
      { s.comp.restarted (s.hub.config.silentTimeout * 80) with
        back := back, backState := .composing, composeStart := start } := by
  obtain ⟨w, composes, comp, config⟩ := warmRestart_composes s
  refine ⟨composedView w, w.now, ?_, ?_⟩
  · rw [composedView_stopped (by rw [comp]; rfl), config]
  · rw [composes, ← comp]
    rfl

/-- R166: what a warm restart does not bear on. -/
theorem warmRestart_keeps :
    Keeps [.now, .ports, .stamper, .seats, .round, .resp, .buzz, .score, .sorter, .comp, .passing, .replies, .reports,
      .scoreOut, .sending, .receivers, .linkFlags, .agent, .notices, .noticeLost, .tally, .seatList] s (warmRestart s) := by
  intro b hb
  cases b <;> simp [Block.same, warmRestart, Hub.restarted] at hb ⊢

end Blocks

/-- Settles O4: both commands are the warm restart, block by block. -/
theorem warmRestartTakesEveryBlockToItsRestartValues : Obligations.WarmRestartTakesEveryBlockToItsRestartValues := by
  constructor
  · intro c tag s ends agent reply
    obtain ⟨published, running, rerank⟩ := warmRestart_sorter s
    refine ⟨warmRestart s, exec_of_restartEnding ends (restartEnding_of_reply agent reply), warmRestart_now s,
      warmRestart_port s, warmRestart_history s, ?_⟩
    rw [warmRestart_stamper, warmRestart_round, warmRestart_resp, warmRestart_buzz, warmRestart_score]
    exact ⟨rfl, rfl, warmRestart_seat s, rfl, rfl, fun k => replicate_get _ k, fun o => replicate_get _ o, rfl, rfl, rfl, rfl,
      rfl, published, running, rerank, warmRestart_keeps s⟩
  · intro c tag s ends agent reply
    refine ⟨warmRestart s, exec_of_restartEnding ends (restartEnding_of_reply agent reply), ?_⟩
    obtain ⟨back, start, resting, comp⟩ := warmRestart_comp s
    rw [warmRestart_link, warmRestart_hub, comp]
    refine ⟨rfl, rfl, rfl, rfl, rfl, rfl, rfl, rfl, rfl, rfl, rfl, rfl, rfl, rfl, ⟨_, rfl, rfl, rfl, rfl⟩, rfl, rfl, rfl, rfl,
      rfl, rfl, rfl, rfl, rfl, rfl, rfl, resting, rfl, rfl, rfl, rfl, rfl, rfl, rfl, ?_, rfl, rfl, rfl⟩
    exact congrArg some (BitVec.zero_add _)

end Sys2Proof.Machine
end

section
/-! SUPPORT. Requests turned away, and STATUS, RELOAD and RESTART (R157 to R159, R164 to R166, R175). -/

namespace Sys2Proof.Machine

/-! ## The REPLY of an execution -/

/-- R157: an execution that leaves the Hub Agent alone is answered, and the agent goes on; nothing else changes with it. -/
theorem placeReply_replied (payload : List Byte) (st : Status) (body : List Byte) {s v : State} (desk : DeskKept s v) :
    Replied ([payload.getD 0 0, payload.getD 1 0, st.code] ++ body) s (nextRequest (placeReply payload st body v))
      ∧ Keeps [.replies, .agent] v (nextRequest (placeReply payload st body v)) := by
  obtain ⟨⟨replies, owed⟩, ⟨agent, requests⟩, now⟩ := desk
  refine ⟨⟨?_, ?_, ?_⟩, fun b hb => ?_⟩
  · simp [replies]
  · simp [owed]
  · rw [takesNext_iff]
    simp [requests, show v.now = s.now from now]
  · cases b <;> simp [Block.same] at hb ⊢

/-- The open value drawn for a body is no part of what a frame names. -/
theorem withFree_desk (s : State) (x : Nat) : DeskKept s (s.withFree x) := DeskKept.refl s

theorem withFree_keeps {bs : List Block} {s u : State} (x : Nat) (h : Keeps bs (s.withFree x) u) : Keeps bs s u := h

/-- R157, R158: a request that fits is executed, answered, and the agent goes on. -/
theorem execute_completes {c : Instr} {payload : List Byte} {execute : State → Executed} {s : State}
    (run : exec c s = executeRequest payload execute s) (e : Executing payload s) (fits : payloadFits payload = true)
    (desk : DeskKept s (execute s).state) :
    ∃ u, exec c s = .next (settleLinks u)
      ∧ Replied ([payload.getD 0 0, payload.getD 1 0, (execute s).status.code] ++ (execute s).body) s u
      ∧ Keeps [.replies, .agent] (execute s).state u :=
  ⟨_, by rw [run, executeRequest_executing execute e fits], placeReply_replied _ _ _ desk⟩

/-- R158, R159: a request that fits and that the Hub Agent refuses before any owner saw it. -/
theorem notExecuted_completes {c : Instr} {payload asked : List Byte} {st : Status} {s : State}
    (run : exec c s = executeRequest payload (notExecuted asked st) s) (e : Executing payload s)
    (fits : payloadFits payload = true) :
    Completes c s fun u => (∃ body, Replied ([payload.getD 0 0, payload.getD 1 0, st.code] ++ body) s u)
      ∧ Keeps [.replies, .agent] s u := by
  obtain ⟨u, run, replied, kept⟩ := execute_completes run e fits (withFree_desk s _)
  exact ⟨u, run, ⟨_, replied⟩, withFree_keeps _ kept⟩

/-! ## MALFORMED and BAD_TABLE (R158, R159) -/

/-- R158 check 1: a request of no known kind, whatever the Preset Loader does. -/
theorem malformed_unknown {payload : List Byte} {s : State} (kind : knownKind (u8 payload 1) = false)
    (d : Decoding payload s) : exec (.requestMalformed payload) s
      = .next (settleLinks (nextRequest (placeReply payload .malformed [] s))) := by
  show execRequestMalformed payload s = _
  unfold execRequestMalformed
  rw [if_pos ((decodeEnds_iff payload s).mpr d), kind]
  rfl

/-- R158: a request of a known kind whose length does not fit goes through the checks of every request. -/
theorem malformed_known {payload : List Byte} {s : State} (kind : knownKind (u8 payload 1) = true)
    (unfit : payloadFits payload = false) (d : Decoding payload s) :
    exec (.requestMalformed payload) s = executeRequest payload (fun s => ⟨s, .malformed, []⟩) s := by
  show execRequestMalformed payload s = _
  unfold execRequestMalformed
  rw [if_pos ((decodeEnds_iff payload s).mpr d), kind, unfit]
  rfl

/-- R158 check 3: a length that does not fit, while no load runs. -/
theorem executeRequest_unfit {payload : List Byte} {s : State} (execute : State → Executed) (e : Executing payload s)
    (unfit : payloadFits payload = false) :
    executeRequest payload execute s = .next (settleLinks (nextRequest (placeReply payload .malformed [] s))) := by
  obtain ⟨decoding, idle⟩ := e
  simp [executeRequest, (decodeEnds_iff payload s).mpr decoding, checkedExecution, idle, unfit, finish]

theorem malformed_reply {payload : List Byte} {s : State}
    (why : knownKind (u8 payload 1) = false ∧ Decoding payload s ∨ payloadFits payload = false ∧ Executing payload s) :
    exec (.requestMalformed payload) s = .next (settleLinks (nextRequest (placeReply payload .malformed [] s))) := by
  cases kind : knownKind (u8 payload 1) with
  | false => exact malformed_unknown kind (why.elim And.right fun unfit => unfit.2.1)
  | true =>
    obtain ⟨unfit, e⟩ := why.resolve_left fun unknown => Bool.false_ne_true (unknown.1.symm.trans kind)
    rw [malformed_known kind unfit e.1, executeRequest_unfit _ e unfit]

theorem Table.number_of_ofNumber {n : Byte} {t : Table} (named : Table.ofNumber n = some t) : t.number = n := by
  unfold Table.ofNumber at named
  split at named <;> cases named <;> rfl

/-- 12.4: the numbers of the tables are 1 to 15, and those of the writable ones 1 to 8. -/
theorem Table.number_range (t : Table) :
    1 ≤ t.number.toNat ∧ t.number.toNat ≤ 15 ∧ (t.writable = true → t.number.toNat ≤ 8) := by cases t <;> decide

theorem ofNumber_none {n : Byte} (beyond : n.toNat = 0 ∨ 15 < n.toNat) : Table.ofNumber n = none := by
  cases named : Table.ofNumber n with
  | none => rfl
  | some t =>
    obtain ⟨low, high, -⟩ := t.number_range
    rw [Table.number_of_ofNumber named] at low high
    omega

theorem refusesWrites_beyond {n : Byte} (beyond : n.toNat = 0 ∨ 8 < n.toNat) : refusesWrites n = true := by
  unfold refusesWrites
  cases named : Table.ofNumber n with
  | none => rfl
  | some t =>
    obtain ⟨low, -, high⟩ := t.number_range
    rw [Table.number_of_ofNumber named] at low high
    cases writable : t.writable with
    | false => exact congrArg not writable
    | true => have := high writable; omega

/-! ## BUSY (R158, R175) -/

/-- R158, R175: BUSY, and no effect. -/
theorem busy_replied (payload body : List Byte) {s v : State} (desk : DeskKept s v) (same : Keeps [] s v) :
    Replied ([payload.getD 0 0, payload.getD 1 0, 2] ++ body) s (nextRequest (placeReply payload .busy body v))
      ∧ Keeps [.replies, .agent] s (nextRequest (placeReply payload .busy body v)) := by
  obtain ⟨replied, kept⟩ := placeReply_replied payload .busy body desk
  exact ⟨replied, (same.mono nofun).trans kept⟩

theorem openBody_none {payload : List Byte} (s : State) (read : u8 payload 1 ≠ 1) (write : u8 payload 1 ≠ 2) :
    openBody payload s = [] := if_neg (not_or.mpr ⟨read, write⟩)

/-- R158: every request of a known kind but RESTART goes through the checks of `checkedExecution`. -/
theorem exec_of_request {c : Instr} {payload : List Byte} {s : State} (asks : requestOf c = some payload)
    (wf : c.wf = true) (kind : knownKind (u8 payload 1) = true) (d : Decoding payload s) (other : ∀ tag, c ≠ .restart tag) :
    ∃ execute, exec c s = executeRequest payload execute s := by
  cases c
  case restart tag => exact absurd rfl (other tag)
  case requestMalformed p =>
    obtain rfl : p = payload := Option.some.inj asks
    have malformed : (!knownKind (u8 p 1) || !payloadFits p) = true := (Bool.and_eq_true_iff.mp wf).2
    rw [kind] at malformed
    exact ⟨_, malformed_known kind (by simpa using malformed) d⟩
  case readUnknownTable tag table first count =>
    obtain rfl : [tag, 1, table, first, count] = payload := Option.some.inj asks
    have unknown : Table.ofNumber table = none := Option.isNone_iff_eq_none.mp wf
    refine ⟨notExecuted [tag, 1] .badTable, ?_⟩
    show execReadUnknownTable tag table first count s = _
    unfold execReadUnknownTable
    rw [unknown]
  case writeReadOnlyTable tag table first records =>
    obtain rfl : [tag, 2, table, first] ++ records = payload := Option.some.inj asks
    refine ⟨notExecuted [tag, 2] .badTable, if_pos ?_⟩
    have refused : refusedWrite table records = true := wf
    unfold refusedWrite at refused
    unfold refusesWrites
    cases named : Table.ofNumber table with
    | none => rfl
    | some t =>
      rw [named] at refused
      exact (Bool.and_eq_true_iff.mp refused).1
  all_goals first
    | (obtain rfl := Option.some.inj asks; exact ⟨_, rfl⟩)
    | exact absurd asks nofun

/-- R158: RESTART has its BUSY of its own, without a body. -/
theorem restart_loading {tag : Byte} {s : State} (d : Decoding [tag, 8] s) (loading : s.loader.running = true) :
    exec (.restart tag) s = .next (settleLinks (nextRequest (placeReply [tag, 8] .busy [] s))) := by
  show execRestart tag s = _
  unfold execRestart
  rw [if_pos ((decodeEnds_iff _ s).mpr d), if_pos loading]
  rfl

/-- Settles O22: each unfit request by its own check, and a load by the check that every request goes through. -/
theorem unfitRequestsAndRequestsDuringALoadChangeNothing : Obligations.UnfitRequestsAndRequestsDuringALoadChangeNothing := by
  refine ⟨⟨fun payload s why => ?malformed, fun tag table first count s unknown e => ?unknownTable,
    fun tag table first records s readOnly fits e => ?readOnly⟩, fun c payload s asks wf kind status d loading => ?busy⟩
  case malformed => exact ⟨_, malformed_reply why, placeReply_replied payload .malformed [] (.refl s)⟩
  case unknownTable =>
    refine notExecuted_completes (asked := [tag, 1]) (st := .badTable) ?_ e rfl
    show execReadUnknownTable tag table first count s = _
    unfold execReadUnknownTable
    rw [ofNumber_none unknown]
  case readOnly =>
    exact notExecuted_completes (c := .writeReadOnlyTable tag table first records) (asked := [tag, 2]) (st := .badTable)
      (if_pos (refusesWrites_beyond readOnly)) e fits
  case busy =>
    by_cases restart : ∃ tag, c = .restart tag
    · obtain ⟨tag, rfl⟩ := restart
      obtain rfl : [tag, 8] = payload := Option.some.inj asks
      obtain ⟨replied, kept⟩ := busy_replied [tag, 8] [] (.refl s) (.refl [] s)
      exact ⟨_, restart_loading d loading, ⟨[], replied, fun _ _ => rfl⟩, kept⟩
    · obtain ⟨execute, run⟩ := exec_of_request asks wf kind d fun tag eq => restart ⟨tag, eq⟩
      obtain ⟨replied, kept⟩ := busy_replied payload (openBody payload s) (withFree_desk s (s.free + 1)) (.refl [] s)
      exact ⟨_, run.trans (executeRequest_loading execute d loading status), ⟨_, replied, openBody_none s⟩, kept⟩

/-! ## STATUS (R164) -/

theorem clearLatched_keeps (s : State) : Keeps [.linkFlags, .noticeLost] s (clearLatched s) := by
  intro b hb; cases b <;> simp [Block.same, clearLatched] at hb ⊢

/-- R164, R158: STATUS is answered whether a load runs or not. -/
theorem status_answered {tag : Byte} {s : State} (d : Decoding [tag, 6] s) :
    exec (.status tag) s
      = .next (settleLinks (nextRequest (placeReply [tag, 6] .ok (statusBody s) (clearLatched s)))) := by
  show execStatus tag s = _
  unfold execStatus executeRequest
  rw [if_pos ((decodeEnds_iff _ s).mpr d)]
  have checked (execute : State → Executed) : checkedExecution [tag, 6] execute s = execute s := by
    unfold checkedExecution
    rw [show u8 [tag, 6] 1 = 6 from rfl, bne_self_eq_false, Bool.and_false]
    rfl
  rw [checked]
  rfl

/-! ## RELOAD and RESTART (R165, R166) -/

theorem reloadAllowed_iff (s : State) :
    reloadAllowed s = true ↔ s.round.state = .idle ∧ ∀ p : Fin 4, s.ports[p].state = .stopped := by
  simp [reloadAllowed]

/-- R166: the agent waits for the end of its REPLY. -/
theorem restart_taken {tag : Byte} {s : State} (e : Executing [tag, 8] s) :
    exec (.restart tag) s = .next (settleLinks (restartTaken tag s)) := by
  obtain ⟨decoding, idle⟩ := e
  show execRestart tag s = _
  unfold execRestart
  rw [if_pos ((decodeEnds_iff _ s).mpr decoding), idle]
  rfl

/-- Settles O23, request by request. -/
theorem statusReloadAndRestartAreTakenByTheAgent : Obligations.StatusReloadAndRestartAreTakenByTheAgent := by
  refine ⟨fun tag s d => ?status, fun tag flash s e => ?reload, fun tag s e => ?restart⟩
  case status =>
    have cleared := clearLatched_keeps s
    obtain ⟨replied, kept⟩ := placeReply_replied [tag, 6] .ok (statusBody s)
      (cleared.desk (by decide) (by decide) (by decide))
    obtain ⟨check, overrun, dropped⟩ := kept .linkFlags (by decide)
    refine ⟨_, status_answered d, ?_, check, overrun, dropped, kept .noticeLost (by decide),
      cleared.then_reply [.linkFlags, .noticeLost] kept⟩
    refine (congrArg (Replied · s _) ?_).mp replied
    unfold statusBody playerBytes
    cases s.comp.player with
    | stopped => rfl
    | active ended p => cases ended <;> rfl
  case reload =>
    by_cases allowed : s.round.state = .idle ∧ ∀ p : Fin 4, s.ports[p].state = .stopped
    · have begins : Keeps [.loader] s (s.withLoader (s.loader.begin flash)) := fun b hb => by
        cases b <;> simp [Block.same] at hb ⊢
      obtain ⟨u, run, replied, kept⟩ := act_completes (c := .reload tag flash) (act := reloadAction flash) rfl e rfl
        (if_pos ((reloadAllowed_iff s).mpr allowed)) (begins.desk (by decide) (by decide) (by decide))
      exact ⟨u, run, (if_pos allowed).mpr ⟨replied, kept .loader (by decide), begins.then_reply [.loader] kept⟩⟩
    · obtain ⟨u, run, refused⟩ := act_refuses (c := .reload tag flash) (act := reloadAction flash) rfl e rfl
        (if_neg (mt (reloadAllowed_iff s).mp allowed))
      exact ⟨u, run, (if_neg allowed).mpr refused⟩
  case restart =>
    refine ⟨restartTaken tag s, restart_taken e, rfl, rfl, rfl, rfl, fun b hb => ?_⟩
    cases b <;> simp [Block.same, restartTaken] at hb ⊢

end Sys2Proof.Machine
end

section
/-! SUPPORT. What a WRITE of the CONFIG record comes to (R138, R163, R167), and the REPLY of a WRITE of several records (R161). -/

namespace Sys2Proof.Machine

/-! ## CONFIG (R163) -/

theorem configRecord_eq (v : View) (r : List Byte) :
    configRecord v r = ⟨BitVec.ofNat 16 (u16 r 0) &&& 0x1FF, max 1 (u8 r 2), u8 r 3, u8 r 4, max 1 (min 8 (u8 r 5)),
      max 10 (u8 r 6), BitVec.ofNat 16 (u16 r 7), v⟩ := by
  have timeout : clampNat (u8 r 6) 10 255 = max 10 (u8 r 6) := by
    rw [clampNat_eq (by decide), Nat.min_eq_right (Nat.le_of_lt_succ (u8_lt r 6))]
  unfold configRecord
  rw [clampNat_byte, clampNat_eq (show 1 ≤ 8 by decide), timeout]

/-- R138, R163: the codes of no resting view are those that name no view, and that of TEAM_CARD. -/
theorem View.ofResting_none {b : Byte} (none_ : ∀ v : View, v.code = b → v = .teamCard) : View.ofResting b = none := by
  unfold View.ofResting
  cases named : View.ofCode b with
  | none => rfl
  | some v =>
    obtain rfl := none_ v (View.code_of_ofCode named)
    rfl

theorem View.code_two {v : View} (two : v.code.toNat = 2) : v = .teamCard := by
  cases v
  case teamCard => rfl
  all_goals exact absurd two (by decide)

theorem writeConfigRecord_refused {r : List Byte} {s : State} (none_ : ∀ v : View, v.code = r.getD 9 0 → v = .teamCard) :
    writeConfigRecord r s = (s, .badValue) := by
  unfold writeConfigRecord
  rw [View.ofResting_none none_]

theorem writeConfigRecord_stored {r : List Byte} {s : State} {v : View} (code : v.code = r.getD 9 0)
    (rests : v ≠ .teamCard) :
    writeConfigRecord r s = (storeConfig (configRecord v r) s,
      if 1 ≤ u8 r 2 ∧ 1 ≤ u8 r 5 ∧ u8 r 5 ≤ 8 ∧ 10 ≤ u8 r 6 then .ok else .clamped) := by
  unfold writeConfigRecord
  rw [← code, ofResting_code rests]
  refine Prod.ext rfl (storedStatus_eq ?_)
  simp only [Bool.or_eq_true, decide_eq_true_eq]
  omega

/-! ## A kind that leaves the enable set (R167) -/

/-- R167: of the written enable set, the bits of the nine kinds stand as they were written. -/
theorem kindRemoved_record (k : NoticeKind) (old : Config) (v : View) (r : List Byte) :
    kindRemoved k old (configRecord v r) = true ↔
      old.enabled.getLsbD k.code = true ∧ (BitVec.ofNat 16 (u16 r 0)).getLsbD k.code = false := by
  have kept (x : BitVec 16) : (x &&& 0x1FF).getLsbD k.code = x.getLsbD k.code := by
    rw [BitVec.getLsbD_and]
    cases k <;> exact Bool.and_true _
  unfold kindRemoved configRecord
  rw [kept, Bool.and_eq_true, Bool.not_eq_true']

/-- R167: the coalescing state of TALLY and of SEAT after a change of the enable set. -/
theorem dropCoalescing_hub (old new : Config) (s : State) : (dropCoalescing old new s).hub = { s.hub with
    tallyEvents := if kindRemoved .tally old new then 0 else s.hub.tallyEvents
    tallyTimer := if kindRemoved .tally old new then none else s.hub.tallyTimer
    seatChanges := if kindRemoved .seat old new then [] else s.hub.seatChanges
    seatTimer := if kindRemoved .seat old new then none else s.hub.seatTimer } := by
  unfold dropCoalescing
  cases kindRemoved .tally old new <;> cases kindRemoved .seat old new <;> rfl

theorem storeConfig_tally (new : Config) (s : State) :
    if kindRemoved .tally s.hub.config new then
      (storeConfig new s).hub.tallyEvents = 0 ∧ (storeConfig new s).hub.tallyTimer = none
    else (storeConfig new s).hub.tallyEvents = s.hub.tallyEvents
      ∧ (storeConfig new s).hub.tallyTimer = s.hub.tallyTimer := by
  unfold storeConfig
  split
  all_goals
    rename_i removed
    simp [dropCoalescing_hub, removed]

theorem storeConfig_seatList (new : Config) (s : State) :
    if kindRemoved .seat s.hub.config new then
      (storeConfig new s).hub.seatChanges = [] ∧ (storeConfig new s).hub.seatTimer = none
    else (storeConfig new s).hub.seatChanges = s.hub.seatChanges
      ∧ (storeConfig new s).hub.seatTimer = s.hub.seatTimer := by
  unfold storeConfig
  split
  all_goals
    rename_i removed
    simp [dropCoalescing_hub, removed]

/-! ## The record stored (R138, R163) -/

theorem storeConfig_keeps (new : Config) (s : State) : Keeps [.config, .tally, .seatList, .comp] s (storeConfig new s) := by
  intro b hb; cases b <;> simp [Block.same] at hb ⊢

/-- R138: a new resting view is a change of the current view while no sequence is shown. -/
theorem storeConfig_refreshed (new : Config) (s : State) :
    Refreshed (decide (new.resting ≠ s.hub.config.resting ∧ s.comp.player = .stopped)) s (storeConfig new s) := by
  have refreshed := setResting_refreshed new.resting ((dropCoalescing s.hub.config new s).withHub
    { (dropCoalescing s.hub.config new s).hub with config := { new with resting := s.hub.config.resting } })
  rw [withHub_comp, dropCoalescing_comp, withHub_hub] at refreshed
  exact refreshed.congr (by simp) (by simp) rfl rfl

/-- Settles O20, by whether the written code names a resting view. -/
theorem configurationIsCheckedAndStored : Obligations.ConfigurationIsCheckedAndStored := by
  intro tag r s len e
  by_cases named : ∃ v : View, v.code = r.getD 9 0 ∧ v ≠ .teamCard
  · obtain ⟨v, code, rests⟩ := named
    obtain ⟨u, run, wrote, kept⟩ := write_stored (t := .config) len (by decide) e (writeConfigRecord_stored code rests)
      (by split <;> rfl)
    have byte : u8 r 9 = v.code.toNat := by rw [code]; rfl
    refine ⟨u, run, fun bad => ?_, fun v' code' _ => ?_⟩
    · rw [byte] at bad
      exact (bad.elim (Nat.not_lt.mpr v.code_le) fun two => rests (View.code_two two)).elim
    · obtain rfl : v = v' := Option.some.inj (by rw [← View.ofCode_code, ← View.ofCode_code, code, code'])
      have tally := storeConfig_tally (configRecord v r) s
      have seats := storeConfig_seatList (configRecord v r) s
      obtain ⟨events, timer⟩ := kept .tally (by decide)
      obtain ⟨changes, seatTimer⟩ := kept .seatList (by decide)
      simp only [kindRemoved_record, ← events, ← timer] at tally
      simp only [kindRemoved_record, ← changes, ← seatTimer] at seats
      exact ⟨wrote, ((kept .config (by decide)).trans (storeConfig_config _ s)).trans (configRecord_eq v r), tally, seats,
        (storeConfig_refreshed _ s).replied kept,
        (storeConfig_keeps _ s).then_reply [.config, .tally, .seatList, .comp] kept⟩
  · have none_ (v : View) (code : v.code = r.getD 9 0) : v = .teamCard := by
      by_contra rests
      exact named ⟨v, code, rests⟩
    obtain ⟨u, run, refused⟩ := write_refused (t := .config) (first := 0) len (by decide) e
      (writeConfigRecord_refused none_) rfl
    exact ⟨u, run, fun _ => refused, fun v code rests => absurd ⟨v, code, rests⟩ named⟩

/-! ## A WRITE of several records (R159, R161) -/

/-- R161: what a run of records from an index has come to, from their outcomes and the state they leave. -/
def Written.ofOutcomes (first : Nat) (o : List Status) (v : State) : Written where
  state := v
  applied := o.countP fun x => !x.refuses
  refused := o.countP Status.refuses
  clamped := o.contains .clamped
  lowest := (o.find? Status.refuses).map fun st => (first + o.findIdx Status.refuses, st)

theorem writeRecords_ofOutcomes (t : Table) (rs : List (List Byte)) (i : Nat) (s : State) :
    writeRecords t i rs ⟨s, 0, 0, false, none⟩ =
      Written.ofOutcomes i (recordOutcomes t i rs s).1 (recordOutcomes t i rs s).2 := by
  have run := writeRecords_outcomes t rs i ⟨s, 0, 0, false, none⟩
  simpa only [Written.ofOutcomes, Nat.zero_add, Bool.false_or, Option.none_or] using run

theorem countP_stored {o : List Status} (stored : o.find? Status.refuses = none) :
    o.countP (fun x => !x.refuses) = o.length ∧ o.countP Status.refuses = 0 := by
  rw [List.find?_eq_none] at stored
  exact ⟨List.countP_eq_length.mpr fun x hx => by simpa using stored x hx, List.countP_eq_zero.mpr stored⟩

/-- R161: the REPLY of a run gives the lowest refused record, its status and its index. -/
theorem Written.ofOutcomes_refused {first : Nat} {o : List Status} {v : State} {st : Status} (fb : Nat → Byte)
    (lowest : o.find? Status.refuses = some st) :
    (Written.ofOutcomes first o v).status = st ∧ (Written.ofOutcomes first o v).body fb =
      [byteOf (o.countP fun x => !x.refuses), byteOf (o.countP Status.refuses), 1,
        byteOf (first + o.findIdx Status.refuses)] := by
  unfold Written.status Written.body Written.ofOutcomes
  rw [lowest]
  exact ⟨rfl, rfl⟩

/-- R161: with no record refused, the REPLY tells whether any was clamped. -/
theorem Written.ofOutcomes_stored {first : Nat} {o : List Status} {v : State} (fb : Nat → Byte)
    (stored : o.find? Status.refuses = none) :
    (Written.ofOutcomes first o v).status.code = (if .clamped ∈ o then 1 else 0)
      ∧ (Written.ofOutcomes first o v).body fb = [byteOf o.length, 0, 0, fb 0] := by
  obtain ⟨applied, refused⟩ := countP_stored stored
  unfold Written.status Written.body Written.ofOutcomes
  rw [stored, applied, refused]
  refine ⟨?_, rfl⟩
  show (storedStatus (o.contains .clamped)).code = _
  by_cases clamped : Status.clamped ∈ o
  · rw [if_pos clamped, List.contains_iff_mem.mpr clamped]; rfl
  · rw [if_neg clamped, Bool.eq_false_iff.mpr (mt List.contains_iff_mem.mp clamped)]; rfl

theorem exec_writeOf {t : Table} (writable : t.writable = true) (tag first : Byte) (records : List Byte) (s : State) :
    exec (writeOf t tag first records) s = runWrite t tag first records s := by
  cases t <;> first | rfl | exact absurd writable nofun

/-- R161: a run of records leaves the Hub Agent and its replies alone. -/
theorem recordOutcomes_desk (t : Table) (rs : List (List Byte)) (i : Nat) (s : State) :
    DeskKept s (recordOutcomes t i rs s).2 := by
  obtain ⟨link, agent, requests, now, -⟩ := recordOutcomes_keeps t rs i s
  exact ⟨⟨congrArg LinkSwitch.replies link, congrArg LinkSwitch.owed link⟩, ⟨agent, requests⟩, now⟩

/-- Settles O13: the REPLY of a run of records follows from their outcomes in order. -/
theorem writesTakeTheirRecordsInOrder : Obligations.WritesTakeTheirRecordsInOrder := by
  intro t tag first records s writable lengths some_ _ e
  have run := runWrite_executing lengths some_ e
  rw [← exec_writeOf writable] at run
  by_cases beyond : t.count < first.toNat + records.length
  · rw [if_pos beyond] at run
    obtain ⟨replied, kept⟩ := placeReply_replied ([tag, 2, t.number, first] ++ records.flatten) .badIndex
      (openBody [tag, 2] s) (withFree_desk s (s.free + 1))
    exact ⟨_, run, (if_pos beyond).mpr ⟨⟨_, replied⟩, withFree_keeps _ kept⟩⟩
  · rw [if_neg beyond, writeRecords_ofOutcomes] at run
    have desk := recordOutcomes_desk t records first.toNat s
    generalize recordOutcomes t first.toNat records s = y at run desk ⊢
    let fb := Sys2Proof.Config.freeByte y.2.free
    let w := Written.ofOutcomes first.toNat y.1 y.2
    obtain ⟨replied, kept⟩ := placeReply_replied ([tag, 2, t.number, first] ++ records.flatten) w.status (w.body fb)
      (show DeskKept s (y.2.withFree (y.2.free + 1)) from desk)
    refine ⟨_, run, (if_neg beyond).mpr ⟨withFree_keeps _ kept, fun st lowest => ?_, fun stored => ⟨fb 0, ?_⟩⟩⟩
    · obtain ⟨status, body⟩ := Written.ofOutcomes_refused (first := first.toNat) (v := y.2) fb lowest
      refine (congrArg (Replied · s _) ?_).mp replied
      rw [status, body]
      rfl
    · obtain ⟨status, body⟩ := Written.ofOutcomes_stored (first := first.toNat) (v := y.2) fb stored
      refine (congrArg (Replied · s _) ?_).mp replied
      rw [status, body]
      rfl

end Sys2Proof.Machine
end

section
/-! SUPPORT. READ (R159, R160): the records that a REPLY returns, and the bytes of every table and header (12.5). -/

namespace Sys2Proof.Machine

/-! ## The records returned (R160, log entry 9) -/

theorem exec_readOf (t : Table) (tag first count : Byte) (s : State) :
    exec (readOf t tag first count) s = runRead t tag first count s := by
  cases t <;> rfl

/-- R160: the records that a READ returns; the next drawing of open values fills their open bytes. -/
def readRecords (t : Table) (first count : Byte) (s : State) : List (List Byte) :=
  returnedRecords t (tableHeader (Sys2Proof.Config.freeByte s.free) t s) first.toNat count.toNat
    (tableRecords (fun i j => Sys2Proof.Config.freeByte s.free (64 + 16 * i + j)) t s)

theorem readRecords_eq (t : Table) (first count : Byte) (s : State) :
    readRecords t first count s =
      ((tableRecords (fun i j => Sys2Proof.Config.freeByte s.free (64 + 16 * i + j)) t s).drop first.toNat).take
        (min count.toNat (readRoom t)) := by
  unfold readRecords returnedRecords
  rw [roomFor_header]

theorem readRecords_length (t : Table) (first count : Byte) (s : State) :
    ∀ r ∈ readRecords t first count s, r.length = t.readLength := by
  intro r hr
  rw [readRecords_eq] at hr
  exact tableRecords_length _ t s r (List.mem_of_mem_drop (List.mem_of_mem_take hr))

/-- R160: the header and the records returned fit in a frame behind the 6 bytes of the REPLY. -/
theorem readRecords_fit (fb : Nat → Byte) (t : Table) (first count : Byte) (s : State) :
    6 + (tableHeader fb t s).length + (readRecords t first count s).flatten.length ≤ 250 := by
  have some_ : (readRecords t first count s).length ≤ roomFor t (tableHeader fb t s) := by
    rw [roomFor_header, readRecords_eq, List.length_take]
    omega
  have room : roomFor t (tableHeader fb t s) * t.readLength ≤ 250 - 6 - (tableHeader fb t s).length :=
    Nat.div_mul_le_self _ _
  have header : (tableHeader fb t s).length < 244 := by
    by_contra long
    have none_ : roomFor t (tableHeader fb t s) = 0 := by
      unfold roomFor
      rw [Nat.sub_eq_zero_of_le (Nat.not_lt.mp long), Nat.zero_div]
    rw [roomFor_header] at none_
    cases t <;> cases none_
  have bytes := flatten_length_of _ (readRecords_length t first count s)
  have := Nat.mul_le_mul_right t.readLength some_
  omega

/-- R59, R160: only a READ of PORTSTAT changes something. -/
theorem clearReadFlags_port (t : Table) (first n : Nat) (s : State) (p : Fin 4) :
    (clearReadFlags t first n s).ports[p] =
      if t = .portstat ∧ first ≤ p.val ∧ p.val < first + n then s.ports[p].clearFlags else s.ports[p] := by
  unfold clearReadFlags
  by_cases stat : t = .portstat
  · simp [stat]
  · rw [if_neg stat, if_neg fun h => stat h.1]

theorem clearReadFlags_keeps (t : Table) (first n : Nat) (s : State) : Keeps [.ports] s (clearReadFlags t first n s) := by
  intro b hb; cases b <;> simp [Block.same] at hb ⊢

/-- R159, R160: a READ past the table's end. -/
theorem read_beyond {t : Table} {tag first count : Byte} {s : State} (e : Executing [tag, 1, t.number, first, count] s)
    (beyond : t.count ≤ first.toNat) :
    Completes (readOf t tag first count) s fun u =>
      (∃ body, Replied ([tag, 1, 6] ++ body) s u) ∧ Keeps [.replies, .agent] s u := by
  obtain ⟨u, run, replied, kept⟩ := execute_completes (c := readOf t tag first count)
    (execute := executeRead t tag first count) (exec_readOf t tag first count s) e rfl
    (by unfold executeRead; rw [if_pos beyond]; exact withFree_desk s _)
  unfold executeRead at replied kept
  rw [if_pos beyond] at replied kept
  exact ⟨u, run, ⟨_, replied⟩, withFree_keeps _ kept⟩

/-- R159, R160: the REPLY of a READ within the table. -/
def readReply (t : Table) (tag first count : Byte) (s : State) : List Byte :=
  [tag, 1, 0, t.number, first, byteOf (readRecords t first count s).length]
    ++ tableHeader (Sys2Proof.Config.freeByte s.free) t s ++ (readRecords t first count s).flatten

theorem read_within {t : Table} {tag first count : Byte} {s : State} (e : Executing [tag, 1, t.number, first, count] s)
    (within : ¬ t.count ≤ first.toNat) :
    Completes (readOf t tag first count) s fun u =>
      Replied (readReply t tag first count s) s u
        ∧ Keeps [.replies, .agent] (clearReadFlags t first.toNat (readRecords t first count s).length s) u := by
  have gives : executeRead t tag first count s =
      ⟨(clearReadFlags t first.toNat (readRecords t first count s).length s).withFree (s.free + 1), .ok,
        [t.number, first, byteOf (readRecords t first count s).length]
          ++ tableHeader (Sys2Proof.Config.freeByte s.free) t s ++ (readRecords t first count s).flatten⟩ := if_neg within
  have desk := (clearReadFlags_keeps t first.toNat (readRecords t first count s).length s).desk (by decide) (by decide)
    (by decide)
  obtain ⟨u, run, replied, kept⟩ := execute_completes (c := readOf t tag first count)
    (exec_readOf t tag first count s) e rfl (by rw [gives]; exact desk)
  rw [gives] at replied kept
  exact ⟨u, run, replied, withFree_keeps _ kept⟩

/-! ## The records of a table (12.5) -/

/-- The record of an index in a table that has one for each index. -/
theorem record_at {fb : Nat → Nat → Byte} {s : State} (t : Table) {n : Nat} {f : Fin n → List Byte}
    (table : tableRecords fb t s = (List.finRange n).map f) (k : Fin n) : (tableRecords fb t s)[k.val]? = some (f k) := by
  rw [table]
  simp

/-- 12.5: the tables whose records are always as many as the table can hold. -/
theorem tableRecords_count (fb : Nat → Nat → Byte) {t : Table} (s : State) (buzzq : t ≠ .buzzq) (judged : t ≠ .judged)
    (standings : t ≠ .standings) : (tableRecords fb t s).length = t.count := by
  cases t
  case buzzq => exact absurd rfl buzzq
  case judged => exact absurd rfl judged
  case standings => exact absurd rfl standings
  case config => rfl
  case commit => rfl
  all_goals exact (List.length_map _).trans List.length_finRange

/-- R30: the seats of a team, and those of them that are PRESENT. -/
theorem memberCount_eq (t : Fin 16) (s : State) :
    memberCount t s = ((List.finRange 256).filter fun k => decide (s.seats[k].team = some t)).length :=
  congrArg List.length (List.filter_congr fun _ _ => beq_eq_decide _ _)

theorem presentCount_eq (t : Fin 16) (s : State) :
    presentCount t s = (((List.finRange 256).filter fun k => decide (s.seats[k].team = some t)).filter
      fun k => decide (s.seats[k].presence = .present)).length := by
  unfold presentCount
  rw [List.filter_filter]
  refine congrArg List.length (List.filter_congr fun k _ => ?_)
  rw [Bool.and_comm, beq_eq_decide, beq_eq_decide]

/-- Records of one length, one behind the other: the bytes of each stand at its place. -/
theorem flatten_chunk {len : Nat} : ∀ (records : List (List Byte)) (i : Nat), (∀ r ∈ records, r.length = len) →
    (h : i < records.length) → (records.flatten.drop (len * i)).take len = records[i]
  | [], _, _, h => absurd h (Nat.not_lt_zero _)
  | r :: rs, 0, lengths, _ => by
    rw [Nat.mul_zero, List.drop_zero, List.flatten_cons]
    exact List.take_left' (lengths r List.mem_cons_self)
  | r :: rs, i + 1, lengths, h => by
    have later := flatten_chunk rs i (fun x hx => lengths x (List.mem_cons_of_mem r hx)) (Nat.lt_of_succ_lt_succ h)
    rw [Nat.mul_succ, Nat.add_comm, ← List.drop_drop, List.flatten_cons,
      List.drop_left' (lengths r List.mem_cons_self), later]
    rfl

/-- R108, 12.5: the Commit Record, its points and correct counts team by team. -/
theorem commitBytes_team (c : CommitRecord) (t : Fin 16) :
    (c.bytes.drop (2 + 3 * t.val)).take 3 = sbe16 c.points[t] ++ [byteOf c.correct[t]] := by
  have chunk := flatten_chunk (len := 3) ((List.finRange 16).map fun t => sbe16 c.points[t] ++ [byteOf c.correct[t]]) t.val
    (fun r hr => by obtain ⟨k, -, rfl⟩ := List.mem_map.mp hr; rfl) (by simp)
  rw [← List.drop_drop]
  refine Eq.trans chunk ?_
  simp

/-- R59, 12.1: the latched flags of a port as bits. -/
theorem flagsByte_toNat (p : Port) : p.flagsByte.toNat = p.flagCheck.toNat + 2 * p.flagLength.toNat
    + 4 * p.flagSlot.toNat + 8 * p.flagOverrun.toNat + 16 * p.flagBreak.toNat := by
  unfold Port.flagsByte
  generalize p.flagCheck = a, p.flagLength = b, p.flagSlot = c, p.flagOverrun = d, p.flagBreak = e
  revert a b c d e
  decide

/-- R76: the tallies as a header has them. -/
theorem talliesBytes_eq (t : Tallies) : t.bytes = be16 t.counts[0] ++ be16 t.counts[1] ++ be16 t.counts[2]
    ++ be16 t.counts[3] ++ be16 t.counts[4] ++ be16 t.counts[5] ++ be16 t.answered := by
  have six : t.counts.toList = [t.counts[0], t.counts[1], t.counts[2], t.counts[3], t.counts[4], t.counts[5]] := by
    rcases t.counts with ⟨⟨l⟩, size⟩
    match l, size with
    | [a, b, c, d, e, f], _ => rfl
  unfold Tallies.bytes
  rw [six]
  rfl

/-- Settles O12: what a READ returns, then the records table by table, then the headers. -/
theorem readsReturnTheRecordsOfTheRange : Obligations.ReadsReturnTheRecordsOfTheRange := by
  refine ⟨fun t tag first count s e => ?reads, fun fb s => ?records, fun hb s => ?headers⟩
  case reads =>
    by_cases beyond : t.count ≤ first.toNat
    · obtain ⟨u, run, refused⟩ := read_beyond e beyond
      exact ⟨u, run, (if_pos beyond).mpr refused⟩
    · obtain ⟨u, run, replied, kept⟩ := read_within e beyond
      refine ⟨u, run, (if_neg beyond).mpr ⟨_, _, readRecords t first count s, readRecords_eq t first count s,
        readRecords_length t first count s, replied, readRecords_fit _ t first count s, fun p => ?_,
        (clearReadFlags_keeps t _ _ s).then_reply [.ports] kept⟩⟩
      rw [show u.ports = _ from kept .ports (by decide), clearReadFlags_port]
      rfl
  case records =>
    refine ⟨fun t => tableRecords_count fb s, fun k => ⟨fb k.val 0, record_at .seats rfl k⟩, fun t => ?teams,
      fun q => ⟨record_at .questions rfl q, rfl⟩, fun i => ⟨record_at .cues rfl i, rfl⟩,
      fun i => ⟨record_at .sequences rfl i, rfl⟩, fun i => ⟨record_at .steps rfl i, rfl⟩,
      fun p => ⟨record_at .portcfg rfl p, rfl⟩, ⟨rfl, rfl⟩, fun k => ?responses, ?buzzq, rfl,
      fun t => record_at .scores rfl t, rfl, ⟨_, rfl, rfl, commitBytes_team s.score.commit⟩,
      fun p => ⟨s.ports[p].flagsByte, record_at .portstat rfl p, flagsByte_toNat _⟩⟩
    case teams =>
      refine ⟨fb t.val, _, nameBytes_field (fb t.val) _, ?_, rfl⟩
      rw [← memberCount_eq, ← presentCount_eq]
      exact record_at .teams (f := fun t => teamBytes (fb t.val) s t) rfl t
    case responses =>
      have record := record_at .responses (f := fun k => s.resp.records[k].bytes (fb k.val)) rfl k
      refine ⟨fb k.val 0, fb k.val 1, record.trans ?_⟩
      unfold Response.bytes timeOr0
      rcases s.resp.records[k].answer with _ | o | v
      all_goals rfl
    case buzzq =>
      exact List.forall₂_map_right_iff.mpr (List.forall₂_same.mpr fun e _ => ⟨e.marksByte, rfl, marksByte_entry e⟩)
  case headers =>
    refine ⟨⟨hb 0, hb 1, hb 2, hb 3, ?_⟩, ⟨hb 0, hb 1, hb 2, hb 3, ?_⟩, rfl, fun t responses buzzq standings => ?_⟩
    · show s.resp.headerBytes hb = _
      unfold Responses.headerBytes timeOr0 flaggedTime
      rw [talliesBytes_eq]
      rcases s.resp.header.openTime with _ | opened <;> rcases s.resp.header.closeTime with _ | closed <;> rfl
    · show buzzHeader hb s = _
      unfold buzzHeader flaggedTime
      rcases s.resp.header.question with _ | q <;> rcases s.buzz.answerTimer with _ | e <;> rfl
    · cases t
      case responses => exact absurd rfl responses
      case buzzq => exact absurd rfl buzzq
      case standings => exact absurd rfl standings
      all_goals rfl

end Sys2Proof.Machine
end

section
/-! SUPPORT. Notices built, and the coalescing of TALLY and SEAT events (R167 to R170). -/

namespace Sys2Proof.Machine

/-! ## Where a notice meets the queue (R170) -/

theorem noticeMatched_tally {front back : List Notice} {x : Notice} (q : Option (Fin 128)) (k : Option QKind) (t : Tallies)
    (time : Time) (tally : x.body.kind = .tally) (first : ∀ y ∈ front, y.body.kind ≠ .tally) :
    noticeMatched ⟨.tally q k t, time⟩ (front ++ x :: back) = some (front ++ ⟨.tally q k t, time⟩ :: back) :=
  replaceTally_found _ front x back tally first

theorem noticeMatched_noTally {queue : List Notice} (q : Option (Fin 128)) (k : Option QKind) (t : Tallies)
    (time : Time) (missing : ∀ y ∈ queue, y.body.kind ≠ .tally) : noticeMatched ⟨.tally q k t, time⟩ queue = none :=
  replaceTally_missing _ queue missing

/-- R170 case 2: the newest queued SEAT notice takes the changes while 16 seats hold both. -/
theorem noticeMatched_seats {front back : List Notice} {x : Notice} {old : List SeatChange} (es : List SeatChange)
    (time : Time) (seats : x.body = .seats old) (newest : ∀ y ∈ back, y.body.kind ≠ .seat) :
    noticeMatched ⟨.seats es, time⟩ (front ++ x :: back) =
      if (mergeChanges old es).length ≤ 16 then some (front ++ ⟨.seats (mergeChanges old es), time⟩ :: back) else none := by
  have reversed : (front ++ x :: back).reverse = back.reverse ++ x :: front.reverse := by simp
  show (mergeNewestSeat es time (front ++ x :: back).reverse).map List.reverse = _
  rw [reversed, mergeNewestSeat_found es old time back.reverse x front.reverse seats
    fun y hy => newest y (List.mem_reverse.mp hy)]
  split
  · simp
  · rfl

theorem noticeMatched_noSeats {queue : List Notice} (es : List SeatChange) (time : Time)
    (missing : ∀ y ∈ queue, y.body.kind ≠ .seat) : noticeMatched ⟨.seats es, time⟩ queue = none := by
  show (mergeNewestSeat es time queue.reverse).map List.reverse = none
  rw [mergeNewestSeat_missing es time _ fun y hy => missing y (List.mem_reverse.mp hy)]
  rfl

/-- R170: no notice of another kind meets a queued one. -/
theorem noticeMatched_other {n : Notice} (queue : List Notice) (tally : n.body.kind ≠ .tally) (seat : n.body.kind ≠ .seat) :
    noticeMatched n queue = none := by
  rcases n with ⟨body, time⟩
  cases body
  case tally => exact absurd rfl tally
  case seats => exact absurd rfl seat
  all_goals rfl

/-! ## A notice built (R170) -/

theorem enqueueNotice_met {n : Notice} {s : State} {queue : List Notice} (met : noticeMatched n s.hub.notices = some queue) :
    (enqueueNotice n s).hub.notices = queue ∧ (enqueueNotice n s).hub.noticeLost = s.hub.noticeLost := by
  unfold enqueueNotice
  rw [met]
  exact ⟨rfl, rfl⟩

theorem enqueueNotice_alone {n : Notice} {s : State} (alone : noticeMatched n s.hub.notices = none) :
    if s.hub.notices.length < 8 then
      (enqueueNotice n s).hub.notices = s.hub.notices ++ [n] ∧ (enqueueNotice n s).hub.noticeLost = s.hub.noticeLost
    else (enqueueNotice n s).hub.notices = s.hub.notices ∧ (enqueueNotice n s).hub.noticeLost = true := by
  unfold enqueueNotice
  rw [alone]
  split
  all_goals exact ⟨rfl, rfl⟩

theorem buildTally_keeps (s : State) : Keeps [.tally, .notices, .noticeLost] s (buildTally s) := by
  intro b hb; cases b <;> simp [Block.same, buildTally] at hb ⊢

theorem buildSeat_keeps (s : State) : Keeps [.seatList, .notices, .noticeLost] s (buildSeat s) := by
  intro b hb; cases b <;> simp [Block.same, buildSeat] at hb ⊢

/-- R168: the TALLY notice of this moment. -/
def tallyNotice (s : State) : Notice := ⟨.tally s.resp.header.question s.resp.header.kind s.resp.tallies, s.now⟩

/-- R168, R170: the queue that a TALLY notice of this moment leaves, and the count and timer that start anew. -/
theorem buildTally_eq (s : State) :
    buildTally s = enqueueNotice (tallyNotice s) (s.withHub { s.hub with tallyEvents := 0, tallyTimer := none }) := rfl

theorem buildTally_restarts (s : State) : (buildTally s).hub.tallyEvents = 0 ∧ (buildTally s).hub.tallyTimer = none := by
  simp [buildTally_eq]

theorem buildSeat_restarts (s : State) : (buildSeat s).hub.seatChanges = [] ∧ (buildSeat s).hub.seatTimer = none := by
  simp [buildSeat]

/-! ## A SEAT event (R169) -/

/-- R169 step 1: a change merges into the entry of its seat. -/
theorem mergeChange_found {e x : SeatChange} (front back : List SeatChange) (same : x.seat = e.seat)
    (first : ∀ y ∈ front, y.seat ≠ e.seat) :
    mergeChange e (front ++ x :: back) = front ++ { e with causes := x.causes.union e.causes } :: back := by
  induction front with
  | nil => exact if_pos same
  | cons y ys ih =>
    have later := ih fun z hz => first z (List.mem_cons_of_mem y hz)
    rw [List.cons_append, List.cons_append, ← later]
    exact if_neg (first y List.mem_cons_self)

/-- R169 step 2: a change of a seat with no entry is appended. -/
theorem mergeChange_missing {e : SeatChange} (list : List SeatChange) (missing : ∀ y ∈ list, y.seat ≠ e.seat) :
    mergeChange e list = list ++ [e] := by
  induction list with
  | nil => rfl
  | cons y ys ih =>
    have later := ih fun z hz => missing z (List.mem_cons_of_mem y hz)
    rw [List.cons_append, ← later]
    exact if_neg (missing y List.mem_cons_self)

theorem causes_any_iff (c : Causes) : c.any = true ↔ c ≠ ⟨false, false, false, false⟩ := by
  rcases c with ⟨presence, cls, battery, team⟩
  revert presence cls battery team
  decide

/-- R169: the change that a SEAT event makes of its seat's record at this moment. -/
def changeOf (k : Fin 256) (causes : Causes) (s : State) : SeatChange :=
  ⟨k, causes, s.seats[k].presence, s.seats[k].team, s.seats[k].cls, s.seats[k].battery, s.now⟩

/-- R169: the pending list with a SEAT event taken. -/
def listWith (k : Fin 256) (causes : Causes) (s : State) : List SeatChange :=
  mergeChange (changeOf k causes s) s.hub.seatChanges

/-- R169: the first entry of the list starts the coalescing timer. -/
def timerWith (s : State) : Option Time :=
  if s.hub.seatChanges = [] then some (after s.now (s.hub.config.seatWait * 80)) else s.hub.seatTimer

/-- R169: a SEAT event whose kind is disabled, or of no cause, is none. -/
theorem raiseSeat_nothing {k : Fin 256} {causes : Causes} {s : State}
    (none_ : s.hub.config.enabled.getLsbD 3 = false ∨ causes = ⟨false, false, false, false⟩) : raiseSeat k causes s = s := by
  refine if_neg fun raised => ?_
  obtain ⟨enabled, some_⟩ := Bool.and_eq_true_iff.mp raised
  exact none_.elim (fun disabled => Bool.false_ne_true (disabled.symm.trans enabled)) ((causes_any_iff causes).mp some_)

/-- R169: a SEAT event taken: the list is built into a notice at 16 entries or with a wait of 0, and waits otherwise. -/
theorem raiseSeat_taken {k : Fin 256} {causes : Causes} {s : State}
    (raised : ¬ (s.hub.config.enabled.getLsbD 3 = false ∨ causes = ⟨false, false, false, false⟩)) :
    raiseSeat k causes s =
      let v := s.withHub { s.hub with seatChanges := listWith k causes s, seatTimer := timerWith s }
      if 16 ≤ (listWith k causes s).length ∨ s.hub.config.seatWait = 0 then buildSeat v else v := by
  obtain ⟨enabled, some_⟩ := not_or.mp raised
  exact if_pos (Bool.and_eq_true_iff.mpr ⟨Bool.not_eq_false _ ▸ enabled, (causes_any_iff causes).mpr some_⟩)

theorem raiseSeat_keeps (k : Fin 256) (causes : Causes) (s : State) :
    Keeps [.seatList, .notices, .noticeLost] s (raiseSeat k causes s) := by
  intro b hb; cases b <;> simp [Block.same] at hb ⊢

/-! ## The expiries of the coalescing timers (R168 to R170) -/

/-- R168, R170: the expiry of the TALLY timer. -/
theorem tallyTimer_builds (s : State) :
    (∀ front x back, s.hub.notices = front ++ x :: back → x.body.kind = .tally → (∀ y ∈ front, y.body.kind ≠ .tally) →
        (buildTally s).hub.notices = front ++ tallyNotice s :: back ∧ (buildTally s).hub.noticeLost = s.hub.noticeLost)
      ∧ ((∀ y ∈ s.hub.notices, y.body.kind ≠ .tally) →
        if s.hub.notices.length < 8 then
          (buildTally s).hub.notices = s.hub.notices ++ [tallyNotice s] ∧ (buildTally s).hub.noticeLost = s.hub.noticeLost
        else (buildTally s).hub.notices = s.hub.notices ∧ (buildTally s).hub.noticeLost = true) := by
  constructor
  · intro front x back queue tally first
    refine enqueueNotice_met ?_
    rw [withHub_hub, queue]
    exact noticeMatched_tally _ _ _ _ tally first
  · intro missing
    exact enqueueNotice_alone (s := s.withHub { s.hub with tallyEvents := 0, tallyTimer := none })
      (noticeMatched_noTally _ _ _ _ missing)

/-- R169, R170: the expiry of the SEAT timer. -/
theorem seatTimer_builds (s : State) :
    (∀ front x back old, s.hub.notices = front ++ x :: back → x.body = .seats old → (∀ y ∈ back, y.body.kind ≠ .seat) →
        (mergeChanges old s.hub.seatChanges).length ≤ 16 →
        (buildSeat s).hub.notices = front ++ ⟨.seats (mergeChanges old s.hub.seatChanges), s.now⟩ :: back
          ∧ (buildSeat s).hub.noticeLost = s.hub.noticeLost)
      ∧ ((∀ y ∈ s.hub.notices, y.body.kind ≠ .seat)
          ∨ (∃ front x back old, s.hub.notices = front ++ x :: back ∧ x.body = .seats old
            ∧ (∀ y ∈ back, y.body.kind ≠ .seat) ∧ 16 < (mergeChanges old s.hub.seatChanges).length) →
        if s.hub.notices.length < 8 then
          (buildSeat s).hub.notices = s.hub.notices ++ [⟨.seats s.hub.seatChanges, s.now⟩]
            ∧ (buildSeat s).hub.noticeLost = s.hub.noticeLost
        else (buildSeat s).hub.notices = s.hub.notices ∧ (buildSeat s).hub.noticeLost = true) := by
  constructor
  · intro front x back old queue seats newest fits
    refine enqueueNotice_met ?_
    rw [withHub_hub, queue]
    exact (noticeMatched_seats _ _ seats newest).trans (if_pos fits)
  · intro why
    refine enqueueNotice_alone (s := s.withHub { s.hub with seatChanges := [], seatTimer := none }) ?_
    rcases why with missing | ⟨front, x, back, old, queue, seats, newest, full⟩
    · exact noticeMatched_noSeats _ _ missing
    · rw [withHub_hub, queue]
      exact (noticeMatched_seats _ _ seats newest).trans (if_neg (Nat.not_le.mpr full))

/-- Settles O50: the two expiries, a notice of any other kind, and a SEAT event. -/
theorem coalescedNoticesReplaceMergeOrQueue : Obligations.CoalescedNoticesReplaceMergeOrQueue := by
  refine ⟨⟨fun e s timer due => ?tally, fun e s timer due => ?seats⟩, fun b s noTally noSeat => ?notice,
    fun k causes s => ?seat⟩
  case tally =>
    obtain ⟨events, stopped⟩ := buildTally_restarts s
    exact whenDue_completes rfl (by rw [timer]; exact expired_some due)
      ⟨events, stopped, buildTally_keeps s, tallyTimer_builds s⟩
  case seats =>
    obtain ⟨list, stopped⟩ := buildSeat_restarts s
    exact whenDue_completes rfl (by rw [timer]; exact expired_some due)
      ⟨list, stopped, buildSeat_keeps s, seatTimer_builds s⟩
  case notice =>
    obtain ⟨-, kept, free⟩ := raiseNotice_raised b s
    refine ⟨kept, free, ?_⟩
    cases enabled : s.hub.config.enabled.getLsbD b.kind.code with
    | false => rw [show raiseNotice b s = s from if_neg (Bool.eq_false_iff.mp enabled)]; exact ⟨rfl, rfl⟩
    | true =>
      rw [if_neg (by decide), show raiseNotice b s = enqueueNotice ⟨b, s.now⟩ s from if_pos enabled]
      exact enqueueNotice_alone (noticeMatched_other _ noTally noSeat)
  case seat =>
    dsimp only
    by_cases none_ : s.hub.config.enabled.getLsbD 3 = false ∨ causes = ⟨false, false, false, false⟩
    · exact (if_pos none_).mpr (raiseSeat_nothing none_)
    · refine (if_neg none_).mpr ⟨listWith k causes s, timerWith s, ?_, ?_, raiseSeat_keeps k causes s, by simp, ?_⟩
      · intro front x back queue same first
        refine ⟨if_neg (by rw [queue]; simp), ?_⟩
        unfold listWith
        rw [queue]
        exact mergeChange_found front back same first
      · intro missing
        exact ⟨mergeChange_missing _ missing, rfl⟩
      · rw [raiseSeat_taken none_]
        dsimp only
        split
        · obtain ⟨list, timer⟩ := buildSeat_restarts
            (s.withHub { s.hub with seatChanges := listWith k causes s, seatTimer := timerWith s })
          exact ⟨list, timer, enqueueNotice_queue _ rfl rfl⟩
        · exact ⟨rfl, rfl, rfl, rfl⟩

end Sys2Proof.Machine
end

section
/-! SUPPORT. The Preset Loader walks a section (R172, R173, 12.8): its header in the bytes of the image, the faults, and its records
taken as a WRITE of them would be. -/

namespace Sys2Proof.Machine

/-! ## The header of a section (R172, 12.8) -/

/-- The bytes of the sections from place i on, as they stand in the flash. -/
theorem sectionBytes_eq (image : List Byte) (i n : Nat) :
    sectionBytes image i n = (List.range n).map fun j => image.getD (4 + (i + j)) 255 := by
  unfold sectionBytes sectionByte flashByte
  simp only [BitVec.ofNat_toNat, BitVec.setWidth_eq]

/-- R172: table number 0 and those above 8 name no writable table. -/
theorem sectionAt_unwritable {image : List Byte} {i : Nat}
    (h : image.getD (4 + i) 255 = 0 ∨ 8 < (image.getD (4 + i) 255).toNat) : sectionAt image i = none := by
  unfold sectionAt sectionByte flashByte
  rw [BitVec.ofNat_toNat, BitVec.setWidth_eq]
  cases named : Table.ofNumber (image.getD (4 + i) 255) with
  | none => rfl
  | some t =>
    obtain ⟨low, -, high⟩ := t.number_range
    rw [Table.number_of_ofNumber named] at low high
    have unwritable : t.writable = false := by
      refine Bool.eq_false_iff.mpr fun writable => ?_
      rcases h with zero | above
      · rw [zero] at low; exact absurd low (by decide)
      · have := high writable; omega
    simp only [unwritable, Bool.false_and, Bool.false_eq_true, if_false]

/-- R172: the header of a section of a writable table is good when its records end within the length. -/
theorem sectionAt_named {image : List Byte} {i first count : Nat} {t : Table} (writable : t.writable = true)
    (number : image.getD (4 + i) 255 = t.number) (first_ : sectionByte image (i + 1) = first)
    (count_ : sectionByte image (i + 2) * 256 + sectionByte image (i + 3) = count) :
    sectionAt image i = if i + 4 + count * t.writeLength ≤ imageLength image then some (t, first, count) else none := by
  have named : Table.ofNumber (BitVec.ofNat 8 (sectionByte image i)) = some t := by
    unfold sectionByte flashByte
    rw [BitVec.ofNat_toNat, BitVec.setWidth_eq, number]
    cases t <;> rfl
  unfold sectionAt
  rw [named, first_, count_]
  simp only [writable, Bool.true_and, decide_eq_true_eq]

/-- The writable tables, each with its number, its record length and its record count (12.5). -/
def writableTables : List (Table × Byte × Nat × Nat) :=
  [.seats, .teams, .questions, .cues, .sequences, .steps, .portcfg, .config].map fun t : Table =>
    (t, t.number, t.writeLength, t.count)

theorem mem_writableTables {t : Table} {number : Byte} {size count : Nat} (h : (t, number, size, count) ∈ writableTables) :
    t.writable = true ∧ number = t.number ∧ size = t.writeLength ∧ count = t.count := by
  have all_writable : ∀ x ∈ writableTables, x.1.writable = true := by decide
  have writable : t.writable = true := all_writable _ h
  obtain ⟨x, -, same⟩ := List.mem_map.mp h
  cases same
  exact ⟨writable, rfl, rfl, rfl⟩

/-! ## The section walked (R173) -/

theorem walkSection_faulty {s : State} (h : sectionAt s.loader.image s.loader.position = none) :
    walkSection s = s.withLoader { s.loader with fault := true } := by
  unfold walkSection
  rw [h]

/-- R173: a section past the end of its table has all its records refused. -/
theorem walkSection_beyond {s : State} {t : Table} {first n : Nat}
    (h : sectionAt s.loader.image s.loader.position = some (t, first, n)) (beyond : t.count < first + n) :
    walkSection s = s.withLoader { s.loader with
      position := s.loader.position + 4 + n * t.writeLength, count := min (s.loader.count + n) 65535 } := by
  unfold walkSection applySection
  rw [h]
  simp only [if_pos beyond]
  rfl

/-- R173: the records of any other section are taken as a WRITE of them would be, and the refused ones counted. -/
theorem walkSection_taken {s : State} {t : Table} {first n : Nat}
    (h : sectionAt s.loader.image s.loader.position = some (t, first, n)) (within : ¬ t.count < first + n) :
    let records := (List.range n).map fun i => (List.range t.writeLength).map fun j =>
      s.loader.image.getD (4 + s.loader.position + (4 + i * t.writeLength + j)) 255
    let y := recordOutcomes t first records s
    walkSection s = y.2.withLoader { s.loader with
      position := s.loader.position + 4 + n * t.writeLength
      count := min (s.loader.count + y.1.countP Status.refuses) 65535 } := by
  intro records y
  have cut : recordsOf t.writeLength n (sectionBytes s.loader.image (s.loader.position + 4) (n * t.writeLength)) = records := by
    rw [sectionBytes_eq, recordsOf_range]
    refine List.map_congr_left fun i _ => List.map_congr_left fun j _ => congrArg (s.loader.image.getD · 255) ?_
    omega
  have loader : y.2.loader = s.loader := (recordOutcomes_keeps t records first s).2.2.2.2
  unfold walkSection applySection
  rw [h]
  simp only [if_neg within, cut, writeRecords_ofOutcomes, Written.ofOutcomes, withLoader_loader]
  rw [loader]
  rfl

theorem withLoader_keeps (s : State) (l : Loader) : Keeps [.loader] s (s.withLoader l) := by
  intro b hb
  cases b <;> simp [Block.same] at hb ⊢

/-- The event of PRESET_SECTION is due while a load runs whose marker was found and whose walk goes on. -/
theorem execPresetSection_due {s : State} (running : s.loader.running = true) (mark : s.loader.image.getD 0 255 = 81)
    (mark' : s.loader.image.getD 1 255 = 113) (sound : s.loader.fault = false)
    (short : s.loader.position < imageLength s.loader.image) : exec .presetSection s = .next (settleLinks (walkSection s)) := by
  have found : markerFound s.loader.image = true := by
    unfold markerFound flashByte
    rw [mark, mark']
    rfl
  refine if_pos ?_
  unfold sectionDue
  rw [running, found, sound, decide_eq_true short]
  rfl

/-- Settles O51, by whether the header names a writable table, whether its records end within the length, and whether they end
within the table. -/
theorem presetSectionsAreAppliedAsWritesAre : Obligations.PresetSectionsAreAppliedAsWritesAre := by
  intro s running mark mark' sound flash length short
  refine ⟨_, execPresetSection_due running mark mark' sound short, ?_⟩
  beta_reduce
  intro byteAt first n faulty
  have structureFault (h : sectionAt s.loader.image s.loader.position = none) : faulty := by
    simp only [faulty, walkSection_faulty h]
    exact ⟨rfl, withLoader_keeps _ _⟩
  refine ⟨fun unwritable => structureFault (sectionAt_unwritable unwritable), ?_⟩
  intro t number size count listed named next
  obtain ⟨writable, rfl, rfl, rfl⟩ := mem_writableTables listed
  have header := sectionAt_named (image := s.loader.image) (first := first) (count := n) writable named
    (congrArg (fun i => (flash i).toNat) (Nat.add_assoc ..).symm) rfl
  by_cases long : length < next
  · rw [if_pos long]
    exact structureFault (header.trans (if_neg (Nat.not_le.mpr long)))
  rw [if_neg long]
  replace header := header.trans (if_pos (Nat.le_of_not_lt long))
  by_cases beyond : t.count < first + n
  · rw [if_pos beyond, walkSection_beyond header beyond]
    exact ⟨rfl, withLoader_keeps _ _⟩
  · rw [if_neg beyond]
    simp only [walkSection_taken header beyond]
    exact ⟨rfl, withLoader_keeps _ _⟩

end Sys2Proof.Machine
end

section
/-! SUPPORT. Work that changes ask of a unit one after the other (R123, R125, R128, R130): the first starts it when it is idle, and
every other marks it pending. And the list of all teams, cut at one of them. -/

namespace Sys2Proof.Machine

/-! ## Changes taken one after the other -/

/-- A unit with a work that a change starts, or marks pending while it runs: a mark more, or one while it runs, is one mark. -/
structure Demand (γ ν : Type) where
  busy : γ → Bool
  mark : γ → γ
  start : ν → γ → γ
  busy_mark : ∀ g, busy (mark g) = busy g
  mark_mark : ∀ g, mark (mark g) = mark g
  busy_start : ∀ v g, busy (start v g) = true

namespace Demand

variable {γ ν α : Type} (d : Demand γ ν) (changes : α → Bool) (data : α → ν)

/-- One change taken, with the data that a work started now reads. -/
def take (v : ν) (g : γ) : γ := if d.busy g = true then d.mark g else d.start v g

/-- Those of the listed things that are changes, taken one after the other. -/
def takeAll (l : List α) (g : γ) : γ := l.foldl (fun g a => if changes a = true then d.take (data a) g else g) g

variable {changes data} {l pre post : List α} {g : γ}

theorem takeAll_cons {a : α} : d.takeAll changes data (a :: l) g =
    d.takeAll changes data l (if changes a = true then d.take (data a) g else g) := rfl

theorem takeAll_append : d.takeAll changes data (pre ++ post) g = d.takeAll changes data post (d.takeAll changes data pre g) :=
  List.foldl_append

theorem takeAll_quiet (quiet : ∀ a ∈ l, changes a = false) : d.takeAll changes data l g = g := by
  induction l with
  | nil => rfl
  | cons a l ih =>
    rw [takeAll_cons, quiet a List.mem_cons_self]
    exact ih fun b hb => quiet b (List.mem_cons_of_mem a hb)

theorem takeAll_busy (busy : d.busy g = true) :
    d.takeAll changes data l g = if l.any changes = true then d.mark g else g := by
  induction l generalizing g with
  | nil => rfl
  | cons a l ih =>
    rw [takeAll_cons, take, if_pos busy, List.any_cons]
    cases changes a with
    | true => simp [ih ((d.busy_mark g).trans busy), d.mark_mark]
    | false => simpa using ih busy

/-- The first change starts the work of an idle unit, and any later one marks it pending. -/
theorem takeAll_idle {a : α} (idle : d.busy g = false) (quiet : ∀ b ∈ pre, changes b = false) (first : changes a = true) :
    d.takeAll changes data (pre ++ a :: post) g =
      if post.any changes = true then d.mark (d.start (data a) g) else d.start (data a) g := by
  rw [takeAll_append, d.takeAll_quiet quiet, takeAll_cons, if_pos first, take, if_neg (Bool.eq_false_iff.mp idle)]
  exact d.takeAll_busy (d.busy_start _ _)

theorem takeAll_map {β : Type} (f : β → α) (l : List β) :
    d.takeAll changes data (l.map f) g = d.takeAll (fun b => changes (f b)) (fun b => data (f b)) l g :=
  List.foldl_map

end Demand

/-! ## Folds read along the way -/

/-- A reading of a fold, when each step moves it as `next` does in the state that the steps before it leave. -/
theorem foldl_reading {α β γ : Type} (step : β → α → β) (read : β → γ) (next : γ → α → γ) (b : β) (l : List α)
    (h : ∀ pre a post, l = pre ++ a :: post → read (step (pre.foldl step b) a) = next (read (pre.foldl step b)) a) :
    read (l.foldl step b) = l.foldl next (read b) := by
  induction l using List.reverseRecOn with
  | nil => rfl
  | append_singleton l a ih =>
    rw [List.foldl_append, List.foldl_append, ← ih fun pre c post cut => h pre c (post ++ [a]) (by simp [cut])]
    exact h l a [] rfl

/-- The list of all numbers below n, cut at one: the lesser ones stand before it and the greater ones behind it. -/
theorem finRange_cut {n : Nat} {t : Fin n} {pre post : List (Fin n)} (cut : List.finRange n = pre ++ t :: post) :
    (∀ x, x ∈ pre ↔ x < t) ∧ ∀ x, x ∈ post ↔ t < x := by
  have sorted := cut ▸ List.pairwise_lt_finRange n
  obtain ⟨-, tail, before⟩ := List.pairwise_append.mp sorted
  have below (x : Fin n) (hx : x ∈ pre) : x < t := before x hx t List.mem_cons_self
  have above (x : Fin n) (hx : x ∈ post) : t < x := (List.pairwise_cons.mp tail).1 x hx
  have somewhere (x : Fin n) : x ∈ pre ∨ x = t ∨ x ∈ post := by simpa [cut] using List.mem_finRange x
  refine ⟨fun x => ⟨below x, fun less => ?_⟩, fun x => ⟨above x, fun greater => ?_⟩⟩
  · rcases somewhere x with h | rfl | h
    · exact h
    · exact absurd less (lt_irrefl _)
    · exact absurd (above x h) (lt_asymm less)
  · rcases somewhere x with h | rfl | h
    · exact absurd (below x h) (lt_asymm greater)
    · exact absurd greater (lt_irrefl _)
    · exact h

end Sys2Proof.Machine
end

section
/-! SUPPORT. What a FAILED load does to the Seat Table, the Team Roster and what follows from them (R174): SEAT events, ranking
passes and composes. -/

namespace Sys2Proof.Machine

/-! ## SEATS (R28, R41) -/

/-- R174: every seat goes to team none, in ascending seat number. -/
@[irreducible] def seatsEmptied (s : State) : State := (List.finRange 256).foldl (fun s k => assignTeam k none s) s

theorem seatsEmptied_keeps (s : State) : Keeps [.seats, .seatList, .notices, .noticeLost] s (seatsEmptied s) := by
  unfold seatsEmptied
  exact foldl_invariant _ (Keeps [.seats, .seatList, .notices, .noticeLost] s)
    (fun v k kept => kept.trans fun b hb => by cases b <;> simp [Block.same] at hb ⊢) _ _ (.refl _ s)

/-- R28: in IDLE, one seat emptied. -/
def emptySeat (s : State) (k : Fin 256) : State :=
  raiseSeat k ⟨false, false, false, decide (s.seats[k].team ≠ none)⟩ (s.setSeat k { s.seats[k] with team := none, pending := none })

theorem seatsEmptied_eq {s : State} (idle : s.round.state = .idle) : seatsEmptied s = (List.finRange 256).foldl emptySeat s := by
  unfold seatsEmptied
  generalize List.finRange 256 = l
  induction l generalizing s with
  | nil => rfl
  | cons k l ih =>
    have one : assignTeam k none s = emptySeat s k := by
      rw [assignTeam_idle none idle]
      simp only [ne_comm (a := none)]
      rfl
    rw [List.foldl_cons, List.foldl_cons, ih ((congrArg Round.state (assignTeam_round s k none)).trans idle), one]

theorem seatsEmptied_seat {s : State} (idle : s.round.state = .idle) (k : Fin 256) :
    (seatsEmptied s).seats[k] = { s.seats[k] with team := none, pending := none } := by
  rw [seatsEmptied_eq idle]
  exact (foldl_seats emptySeat id (fun _ x => { x with team := none, pending := none })
    (fun s b j => by rw [emptySeat, raiseSeat_seats, setSeat_get]; rfl) (List.finRange 256)
    (by rw [List.map_id]; exact List.nodup_finRange 256) s k).1 k (List.mem_finRange k) rfl

/-- R41: the SEAT events of the seats that lose a team, as the Hub Agent takes them in any state with the same show time. -/
theorem seatsEmptied_hub {s w : State} (idle : s.round.state = .idle) (hub : s.hub = w.hub) (now : s.now = w.now)
    (seats : w.seats = (seatsEmptied s).seats) :
    (seatsEmptied s).hub = (raiseEvents ((List.finRange 256).map fun k =>
      .seat k ⟨false, false, false, decide (s.seats[k].team ≠ none)⟩) w).hub := by
  have shows (k : Fin 256) : w.seats[k] = { s.seats[k] with team := none, pending := none } := by
    rw [seats, seatsEmptied_seat idle]
  rw [seatsEmptied_eq idle]
  exact foldl_events emptySeat id (fun _ x => { x with team := none, pending := none })
    (fun _ x => ⟨false, false, false, decide (x.team ≠ none)⟩) (fun _ _ => rfl) (List.finRange 256)
    (by rw [List.map_id]; exact List.nodup_finRange 256) s w hub now fun k _ => congrArg shown (shows k)

/-! ## TEAMS (R31) -/

/-- A FAILED load so far, seen from its beginning s: the listed teams are emptied, and beyond the roster, the seats and what follows
from them nothing has changed. -/
structure Emptying (teams : List (Fin 16)) (s b : State) : Prop where
  keeps : Keeps [.loader, .seats, .seatList, .notices, .noticeLost, .teams, .sorter, .comp] s b
  player : b.comp.player = s.comp.player
  published : b.sorter.published = s.sorter.published
  team : ∀ x : Fin 16, b.teams[x] = if x ∈ teams then Team.reset else s.teams[x]

/-- A ranking pass publishes nothing as it starts (R123). -/
theorem storeTeam_published (t : Fin 16) (x : Team) (s : State) : (storeTeam t x s).sorter.published = s.sorter.published := by
  have ranked := storeTeam_ranked (t := t) (x := x) (s := s) (.refl _ _)
  split at ranked
  · rw [ranked]
  · unfold Triggered at ranked
    split at ranked <;> rw [ranked]

theorem storeTeam_changes (t : Fin 16) (x : Team) (s : State) : Keeps [.teams, .sorter, .comp] s (storeTeam t x s) :=
  ((rosterStored_keeps t x s).mono (by decide)).trans ((storeTeam_keeps t x s).mono (by decide))

theorem Emptying.snoc {teams : List (Fin 16)} {s b : State} (h : Emptying teams s b) (t : Fin 16) :
    Emptying (teams ++ [t]) s (storeTeam t Team.reset b) where
  keeps := h.keeps.trans ((storeTeam_changes t _ b).mono (by decide))
  player := (storeTeam_player t _ b).trans h.player
  published := (storeTeam_published t _ b).trans h.published
  team x := by
    rw [storeTeam_teams, vector_set_get, h.team]
    by_cases here : x = t
    · rw [if_pos here, if_pos (by simp [here])]
    · simp only [here, if_false, List.mem_append, List.mem_singleton, or_false]

theorem Emptying.foldl {s a : State} (h : Emptying [] s a) (l : List (Fin 16)) :
    Emptying l s (l.foldl (fun s t => storeTeam t Team.reset s) a) := by
  induction l using List.reverseRecOn with
  | nil => exact h
  | append_singleton l t ih => rw [List.foldl_append]; exact ih.snoc t

/-- With the teams up to t emptied, the roster is that of `teamsCleared`. -/
theorem Emptying.cleared_eq {l post : List (Fin 16)} {s b : State} {t : Fin 16} (h : Emptying (l ++ [t]) s b)
    (cut : List.finRange 16 = l ++ t :: post) : teamsCleared t s = s.withTeams b.teams := by
  refine congrArg s.withTeams (Vector.ext fun i hi => ?_)
  have here := h.team ⟨i, hi⟩
  simp only [List.mem_append, List.mem_singleton, (finRange_cut cut).1, ← le_iff_lt_or_eq] at here
  simpa [Team.reset] using here.symm

/-- R174: every team emptied, in ascending team number. -/
@[irreducible] def rosterEmptied (s : State) : State := (List.finRange 16).foldl (fun s t => storeTeam t Team.reset s) s

theorem Emptying.roster {s a : State} (h : Emptying [] s a) : Emptying (List.finRange 16) s (rosterEmptied a) := by
  unfold rosterEmptied
  exact h.foldl _

theorem rosterEmptied_keeps (s : State) : Keeps [.teams, .sorter, .comp] s (rosterEmptied s) := by
  unfold rosterEmptied
  exact foldl_invariant _ (Keeps [.teams, .sorter, .comp] s) (fun v t kept => kept.trans (storeTeam_changes t _ v)) _ _ (.refl _ s)

/-! ## Ranking passes (R123, R125) -/

/-- A ranking pass, started with its working list and the show time. -/
def rankDemand : Demand Sorter (List Standing × Time) where
  busy g := g.running
  mark g := { g with rerank := true }
  start v g := { g with working := v.1, running := true, start := v.2 }
  busy_mark _ := rfl
  mark_mark _ := rfl
  busy_start _ _ := rfl

theorem Triggered.sorter_eq {s u : State} (h : Triggered s u) : u.sorter = rankDemand.take (rankedStandings u, s.now) s.sorter := by
  unfold Triggered at h
  unfold Demand.take
  split at h <;> rename_i running
  · rw [h]; exact (if_pos running).symm
  · rw [h]; exact (if_neg running).symm

/-- R123, R125: the ranking passes that the active flags ask for as the roster is emptied. -/
theorem rosterEmptied_sorter {s a : State} (h : Emptying [] s a) (sorter : a.sorter = s.sorter) :
    (rosterEmptied a).sorter = rankDemand.takeAll (fun t : Fin 16 => s.teams[t].active)
      (fun t => (rankedStandings (teamsCleared t s), s.now)) (List.finRange 16) s.sorter := by
  rw [← sorter]
  unfold rosterEmptied
  refine foldl_reading _ State.sorter _ a _ fun pre t post cut => ?_
  have before := h.foldl pre
  generalize pre.foldl (fun s t => storeTeam t Team.reset s) a = b at before ⊢
  have emptied := before.snoc t
  have here : b.teams[t] = s.teams[t] := by
    rw [before.team, if_neg fun h => lt_irrefl t (((finRange_cut cut).1 t).mp h)]
  have ranked := storeTeam_ranked (t := t) (x := Team.reset) (s := b) (.refl _ _)
  rw [here] at ranked
  by_cases active : s.teams[t].active = true
  case neg =>
    rw [if_pos (show Team.reset.active = s.teams[t].active from (Bool.eq_false_iff.mpr active).symm)] at ranked
    exact ranked.trans (if_neg active).symm
  case pos =>
    rw [if_neg (by rw [active]; decide)] at ranked
    have list : rankedStandings (storeTeam t Team.reset b) = rankedStandings (teamsCleared t s) := by
      rw [emptied.cleared_eq cut]
      exact rankedStandings_congr rfl (congrArg Score.table (emptied.keeps .score (by decide)))
    rw [ranked.sorter_eq, list, show b.now = s.now from before.keeps .now (by decide)]
    exact (if_pos active).symm

/-! ## Composes (R128, R130) -/

/-- A compose, started with its view and the show time. -/
def composeDemand : Demand Composer (ViewImage × Time) where
  busy g := decide (g.backState = .composing)
  mark g := { g with recompose := true }
  start v g := { g with back := v.1, backState := .composing, composeStart := v.2 }
  busy_mark _ := rfl
  mark_mark _ := rfl
  busy_start _ _ := rfl

theorem Refreshed.comp_eq {counts : Bool} {s u : State} (h : Refreshed counts s u) :
    u.comp = if counts = true then composeDemand.take (composedView u, s.now) s.comp else s.comp := by
  unfold Refreshed at h
  cases counts with
  | false => exact h
  | true =>
    rw [if_neg (by decide)] at h
    unfold Demand.take composeDemand
    split at h <;> rename_i state <;> simp only [state, decide_true, decide_false, if_true, Bool.false_eq_true, if_false, h]

/-- The name of team t is data for the current view, and is there to be cleared (R128). -/
def nameShown (s : State) (t : Fin 16) : Bool :=
  decide (Team.reset.name ≠ s.teams[t].name ∧ (currentView s = .standings ∨ currentView s = .topFive ∨ currentView s = .teamCard
    ∨ currentView s = .buzzOrder))

theorem Emptying.composedView {l post : List (Fin 16)} {s b : State} {t : Fin 16} (h : Emptying (l ++ [t]) s b)
    (cut : List.finRange 16 = l ++ t :: post) : composedView b = composedView (teamsCleared t s) := by
  rw [h.cleared_eq cut]
  exact composedView_congr (h.keeps .now (by decide)) h.player (h.keeps .config (by decide)) (h.keeps .questions (by decide))
    rfl (h.keeps .round (by decide)) (h.keeps .resp (by decide)) (h.keeps .buzz (by decide)) h.published

/-- R130: the composes that the names ask for as the roster is emptied. -/
theorem rosterEmptied_comp {s a : State} (h : Emptying [] s a) (comp : a.comp = s.comp) :
    (rosterEmptied a).comp = composeDemand.takeAll (nameShown s) (fun t => (composedView (teamsCleared t s), s.now))
      (List.finRange 16) s.comp := by
  rw [← comp]
  unfold rosterEmptied
  refine foldl_reading _ State.comp _ a _ fun pre t post cut => ?_
  have before := h.foldl pre
  generalize pre.foldl (fun s t => storeTeam t Team.reset s) a = b at before ⊢
  have emptied := before.snoc t
  have here : b.teams[t] = s.teams[t] := by
    rw [before.team, if_neg fun h => lt_irrefl t (((finRange_cut cut).1 t).mp h)]
  have view : currentView b = currentView s := by
    unfold currentView shownStep
    rw [before.player, show b.hub.config = s.hub.config from before.keeps .config (by decide)]
  have image := emptied.composedView cut
  have refreshed := (storeTeam_refreshed (Keeps.refl [.replies, .agent] (storeTeam t Team.reset b))).comp_eq
  rw [image, here, view, show b.now = s.now from before.keeps .now (by decide)] at refreshed
  exact refreshed

end Sys2Proof.Machine
end

section
/-! SUPPORT. The three ends of a load (R172, R174): the result, the tables, what follows from them, and the PRESET notice. -/

namespace Sys2Proof.Machine

/-! ## Every end -/

/-- R174 step 1: the result and the refused count are recorded. -/
def resultRecorded (r : LoadResult) (s : State) : State := s.withLoader { s.loader with result := r, refused := s.loader.count }

theorem execLoadEnd_ends {r : LoadResult} {s : State} (h : loadResult s = some r) :
    exec .loadEnd s = .next (settleLinks (endLoad r s)) := by
  show execLoadEnd s = _
  unfold execLoadEnd
  rw [h]
  rfl

theorem resultRecorded_keeps (r : LoadResult) (s : State) : Keeps [.loader] s (resultRecorded r s) := withLoader_keeps s _

/-- R174 steps 2 and 3: the result's own action is taken, and the load is over. -/
def loadEnded (r : LoadResult) (s : State) : State := (loadAction r (resultRecorded r s)).withLoader
  { s.loader with result := r, refused := s.loader.count, running := false }

theorem loadEnded_keeps (r : LoadResult) (s : State) : Keeps [.loader] (loadAction r (resultRecorded r s)) (loadEnded r s) :=
  withLoader_keeps _ _

/-- R174 step 4: then the PRESET notice is raised. -/
theorem endLoad_notice (r : LoadResult) (s : State) :
    endLoad r s = raiseNotice (.preset r s.loader.count) (loadEnded r s) := endLoad_eq r s

theorem endLoad_keeps (r : LoadResult) (s : State) :
    Keeps [.loader, .notices, .noticeLost] (loadAction r (resultRecorded r s)) (endLoad r s) := by
  rw [endLoad_notice]
  obtain ⟨-, noticed, -⟩ := raiseNotice_raised (.preset r s.loader.count) (loadEnded r s)
  exact ((loadEnded_keeps r s).mono (by decide)).trans (noticed.mono (by decide))

theorem endLoad_loader (r : LoadResult) (s : State) :
    (endLoad r s).loader = { s.loader with running := false, result := r, refused := s.loader.count } := by
  rw [endLoad_notice, raiseNotice_loader]
  rfl

/-- R174 step 4: an action that leaves the Hub Agent alone leaves the PRESET notice to the configuration as it was. -/
theorem endLoad_raised {r : LoadResult} {s : State} (hub : (loadEnded r s).hub = s.hub) (now : (loadEnded r s).now = s.now) :
    NoticesRaised [.preset r s.loader.count] s (endLoad r s) := by
  have same := raiseNotice_same (.preset r s.loader.count) hub now
  rw [endLoad_notice]
  exact ⟨congrArg Hub.notices same, congrArg Hub.noticeLost same⟩

/-! ## LOADED (R45, R174) -/

theorem autostart_keeps (s : State) : Keeps [.ports] s (autostart s) := by
  refine foldl_invariant _ (Keeps [.ports] s) (fun v p kept => kept.trans ?_) _ _ (.refl _ s)
  split
  · intro b hb
    cases b <;> simp [Block.same] at hb ⊢
  · exact .refl _ v

/-- R45, R174: a STOPPED port with its autostart flag set is started. -/
theorem autostart_port (s : State) (p : Fin 4) :
    (autostart s).ports[p] = if s.ports[p].cfg.autostart = true ∧ s.ports[p].state = .stopped then
      { s.ports[p] with state := .waking, wakeTimer := some (s.now + 160) } else s.ports[p] := by
  have once := foldl_at_most_once
    (fun (s : State) (p : Fin 4) => if s.ports[p].cfg.autostart = true then (startPort p s).1 else s)
    (fun s => (s.now, s.ports[p])) p
    (fun v o ne => by
      split
      · rw [startPort_now, startPort_port, if_neg fun h => ne h.1.symm]
      · rfl) (List.finRange 4) (List.nodup_finRange 4) s
    (fun x y => y.2 = if x.2.cfg.autostart = true ∧ x.2.state = .stopped then
      { x.2 with state := .waking, wakeTimer := some (x.1 + 160) } else x.2)
    (fun v same => by
      obtain ⟨now, port⟩ := Prod.mk.inj same
      dsimp only
      rw [← now, ← port]
      by_cases flag : v.ports[p].cfg.autostart = true
      · rw [if_pos flag, startPort_port]
        simp only [flag, true_and]
        rfl
      · rw [if_neg flag, if_neg fun h => flag h.1])
  exact once.1 (List.mem_finRange p)

theorem loadEnded_loaded (s : State) : (loadEnded .loaded s).hub = s.hub ∧ (loadEnded .loaded s).now = s.now := by
  unfold loadEnded
  rw [withLoader_hub, withLoader_now, loadAction]
  obtain ⟨-, -, -, -, -, -, -, -, hub, -⟩ := autostart_same (resultRecorded .loaded s)
  exact ⟨hub, autostart_now _⟩

/-! ## FAILED: the tables (R174) -/

/-- R174: the tables but the roster, the seats and CONFIG at their hard-reset values. -/
def recordsEmptied (s : State) : State :=
  (((s.withQuestions (Vector.replicate 128 Question.reset)).withCues (Vector.replicate 64 CueEntry.reset)).withComp { s.comp with
    sequences := Vector.replicate 16 Sequence.reset, steps := Vector.replicate 64 Step.reset }).withPorts
      (Vector.ofFn fun p => { s.ports[p] with cfg := PortCfg.reset })

theorem resetTables_eq (s : State) :
    resetTables s = storeConfig Config.reset (recordsEmptied (rosterEmptied (seatsEmptied s))) := by
  unfold resetTables recordsEmptied rosterEmptied seatsEmptied
  simp only [withQuestions_comp, withCues_comp, withQuestions_ports,
    withCues_ports, withComp_ports]

/-- The Composer with other tables. -/
def Composer.withTables (g : Composer) (q : Vector Sequence 16) (x : Vector Step 64) : Composer :=
  { g with sequences := q, steps := x }

theorem recordsEmptied_comp (s : State) : (recordsEmptied s).comp =
    s.comp.withTables (Vector.replicate 16 Sequence.reset) (Vector.replicate 64 Step.reset) := rfl

theorem recordsEmptied_keeps (s : State) : Keeps [.questions, .cues, .comp, .ports] s (recordsEmptied s) := by
  intro b hb
  cases b <;> simp [Block.same, recordsEmptied] at hb ⊢

/-- R167: the reset CONFIG enables every kind. -/
theorem reset_enables (k : NoticeKind) : Config.reset.enabled.getLsbD k.code = true := by cases k <;> decide

/-- R163, R167: no kind leaves the enable set as CONFIG goes to its reset value. -/
theorem storeConfig_reset_keeps (s : State) : Keeps [.config, .comp] s (storeConfig Config.reset s) := by
  have stays (k : NoticeKind) : ¬ kindRemoved k s.hub.config Config.reset = true := by
    unfold kindRemoved
    simp [reset_enables]
  have tally := storeConfig_tally Config.reset s
  have seats := storeConfig_seatList Config.reset s
  rw [if_neg (stays _)] at tally seats
  intro b hb
  cases b with
  | tally => exact tally
  | seatList => exact seats
  | config | comp => simp at hb
  | _ => exact storeConfig_keeps _ s _ (by decide)

/-- What a FAILED load does once the seats are emptied. -/
theorem resetTables_keeps (s : State) :
    Keeps [.teams, .sorter, .comp, .questions, .cues, .ports, .config] (seatsEmptied s) (resetTables s) := by
  rw [resetTables_eq]
  exact ((rosterEmptied_keeps _).mono (by decide)).trans
    (((recordsEmptied_keeps _).mono (by decide)).trans ((storeConfig_reset_keeps _).mono (by decide)))

theorem resetTables_port (s : State) (p : Fin 4) : (resetTables s).ports[p] = { s.ports[p] with cfg := PortCfg.reset } := by
  have before : (rosterEmptied (seatsEmptied s)).ports = s.ports :=
    (rosterEmptied_keeps _ .ports (by decide)).trans (seatsEmptied_keeps s .ports (by decide))
  rw [resetTables_eq, storeConfig_ports, recordsEmptied, withPorts_ports, before]
  simp

/-! ## FAILED: what follows from the tables (R123, R128, R130) -/

theorem emptying_begun {s : State} (r : LoadResult) : Emptying [] s (seatsEmptied (resultRecorded r s)) := by
  have kept := seatsEmptied_keeps (resultRecorded r s)
  have comp : (seatsEmptied (resultRecorded r s)).comp = s.comp := kept .comp (by decide)
  have sorter : (seatsEmptied (resultRecorded r s)).sorter = s.sorter := kept .sorter (by decide)
  have teams : (seatsEmptied (resultRecorded r s)).teams = s.teams := kept .teams (by decide)
  exact ⟨((withLoader_keeps s _).mono (by decide)).trans (kept.mono (by decide)), congrArg Composer.player comp,
    congrArg Sorter.published sorter, fun x => by rw [teams]; rfl⟩

/-- R174: the ranking passes of a FAILED load. -/
theorem resetTables_ranked {s : State} : ClearedTeamsRanked s (resetTables (resultRecorded .failed s)) := by
  have begun := emptying_begun (s := s) .failed
  have sorter : (resetTables (resultRecorded .failed s)).sorter = rankDemand.takeAll (fun t : Fin 16 => s.teams[t].active)
      (fun t => (rankedStandings (teamsCleared t s), s.now)) (List.finRange 16) s.sorter := by
    rw [resetTables_eq, storeConfig_sorter, ← rosterEmptied_sorter begun (seatsEmptied_keeps _ .sorter (by decide))]
    exact recordsEmptied_keeps _ .sorter (by decide)
  refine ⟨fun inactive => ?_, fun t active first => ?_⟩
  · rw [sorter]
    exact rankDemand.takeAll_quiet fun t _ => inactive t
  obtain ⟨pre, post, cut⟩ := List.append_of_mem (List.mem_finRange t)
  obtain ⟨before, behind⟩ := finRange_cut cut
  have later : post.any (fun t : Fin 16 => s.teams[t].active) = decide (∃ x : Fin 16, t < x ∧ s.teams[x].active = true) := by
    rw [Bool.eq_iff_iff, List.any_eq_true, decide_eq_true_eq]
    simp only [behind]
  rw [sorter]
  by_cases running : s.sorter.running = true
  · rw [if_pos running, rankDemand.takeAll_busy running, if_pos (List.any_eq_true.mpr ⟨t, List.mem_finRange t, active⟩)]
    rfl
  · rw [if_neg running, cut, rankDemand.takeAll_idle (Bool.eq_false_iff.mpr running)
      (fun x hx => first x ((before x).mp hx)) active, later]
    cases decide (∃ x : Fin 16, t < x ∧ s.teams[x].active = true) with
    | true => simp [rankDemand]
    | false => simp [rankDemand]

/-- What a FAILED load changes of the data of the current view: the name of a team, or the resting view (R128, R138). -/
def dataChanged (s : State) : Option (Fin 16) → Bool
  | some t => nameShown s t
  | none => decide (Config.reset.resting ≠ s.hub.config.resting ∧ s.comp.player = .stopped)

/-- The view that a compose started by such a change builds, and the show time; `last` is the view after the load. -/
def changedView (s : State) (last : ViewImage) : Option (Fin 16) → ViewImage × Time
  | some t => (composedView (teamsCleared t s), s.now)
  | none => (last, s.now)

/-- The changes of a FAILED load to the data of the current view in their order: the names, then the resting view. -/
def changedData : List (Option (Fin 16)) := (List.finRange 16).map some ++ [none]

/-- A demand on the Composer leaves its two tables. -/
theorem composeDemand_take_tables (v : ViewImage × Time) (g : Composer) (q : Vector Sequence 16) (x : Vector Step 64) :
    composeDemand.take v (g.withTables q x) = (composeDemand.take v g).withTables q x := by
  unfold Demand.take composeDemand Composer.withTables
  dsimp only
  split <;> rfl

/-- R138, R174: the Composer as CONFIG is reset after the other tables. -/
theorem configEmptied_comp {s b : State} (emptied : Emptying (List.finRange 16) s b) :
    (storeConfig Config.reset (recordsEmptied b)).comp =
      if dataChanged s none = true then
        composeDemand.take (composedView (storeConfig Config.reset (recordsEmptied b)), s.now) (recordsEmptied b).comp
      else (recordsEmptied b).comp := by
  have records := recordsEmptied_keeps b
  have now : (recordsEmptied b).now = s.now := (records .now (by decide)).trans (emptied.keeps .now (by decide))
  have config : (recordsEmptied b).hub.config = s.hub.config :=
    (records .config (by decide)).trans (emptied.keeps .config (by decide))
  have player : (recordsEmptied b).comp.player = s.comp.player := emptied.player
  have refreshed := (storeConfig_refreshed Config.reset (recordsEmptied b)).comp_eq
  rw [now, config, player] at refreshed
  exact refreshed

/-- R174: the Composer after a FAILED load. -/
theorem resetTables_comp (s : State) : ∃ q x, (resetTables (resultRecorded .failed s)).comp =
    (composeDemand.takeAll (dataChanged s) (changedView s (composedView (resetTables (resultRecorded .failed s))))
      changedData s.comp).withTables q x := by
  have begun := emptying_begun (s := s) .failed
  have names := rosterEmptied_comp begun (seatsEmptied_keeps _ .comp (by decide))
  have rest := configEmptied_comp begun.roster
  rw [← resetTables_eq, recordsEmptied_comp, names, composeDemand_take_tables] at rest
  refine ⟨Vector.replicate 16 Sequence.reset, Vector.replicate 64 Step.reset, rest.trans ?_⟩
  rw [changedData, Demand.takeAll_append, Demand.takeAll_map, ← apply_ite (Composer.withTables · _ _)]
  rfl

theorem dataChanged_name {s : State} {t : Fin 16} : dataChanged s (some t) = true ↔
    (currentView s = .standings ∨ currentView s = .topFive ∨ currentView s = .teamCard ∨ currentView s = .buzzOrder)
      ∧ s.teams[t].name ≠ [] := by
  show nameShown s t = true ↔ _
  rw [nameShown, decide_eq_true_eq, and_comm, ne_comm]
  rfl

theorem dataChanged_resting {s : State} :
    dataChanged s none = true ↔ s.comp.player = .stopped ∧ s.hub.config.resting ≠ .standings := by
  show decide _ = true ↔ _
  rw [decide_eq_true_eq, and_comm, ne_comm]
  rfl

theorem changedData_any (s : State) : changedData.any (dataChanged s) = true ↔
    (∃ t, dataChanged s (some t) = true) ∨ dataChanged s none = true := by
  simp [changedData]

/-- R174: the composes of a FAILED load, from what the changes ask of the Composer one after the other. -/
theorem clearedDataComposed_of {s u : State} (h : ∃ q x, u.comp =
    (composeDemand.takeAll (dataChanged s) (changedView s (composedView u)) changedData s.comp).withTables q x) :
    ClearedDataComposed s u := by
  obtain ⟨q, x, comp⟩ := h
  unfold ClearedDataComposed
  intro names named resting tables
  have named_iff (t : Fin 16) : named t ↔ dataChanged s (some t) = true := dataChanged_name.symm
  have resting_iff : resting ↔ dataChanged s none = true := dataChanged_resting.symm
  have tables_eq : tables = s.comp.withTables q x := by
    simp only [tables, comp]
    rfl
  have idle (h : s.comp.backState ≠ .composing) : composeDemand.busy s.comp = false := decide_eq_false h
  clear_value tables
  subst tables_eq
  simp only [named_iff, resting_iff]
  rw [comp]
  refine ⟨fun unnamed rested => ?_, fun changed composing => ?_, fun free unnamed rests => ?_, fun t free first before => ?_⟩
  · have quiet : ∀ c ∈ changedData, dataChanged s c = false := by
      simpa [changedData, or_imp, forall_and] using And.intro unnamed rested
    rw [composeDemand.takeAll_quiet quiet]
  · rw [composeDemand.takeAll_busy (decide_eq_true composing), if_pos ((changedData_any s).mpr changed)]
    rfl
  · have quiet : ∀ c ∈ (List.finRange 16).map some, dataChanged s c = false := by
      simpa using unnamed
    rw [changedData, composeDemand.takeAll_idle (idle free) quiet rests]
    rfl
  · obtain ⟨pre, post, cut⟩ := List.append_of_mem (List.mem_finRange t)
    obtain ⟨below, behind⟩ := finRange_cut cut
    have list : changedData = pre.map some ++ some t :: (post.map some ++ [none]) := by simp [changedData, cut]
    have quiet : ∀ c ∈ pre.map some, dataChanged s c = false := by
      simpa [below] using before
    have later : (post.map some ++ [none]).any (dataChanged s)
        = decide ((∃ x : Fin 16, t < x ∧ dataChanged s (some x) = true) ∨ dataChanged s none = true) := by
      rw [Bool.eq_iff_iff, decide_eq_true_eq]
      simp [behind]
    rw [list, composeDemand.takeAll_idle (idle free) quiet first, later]
    cases decide ((∃ x : Fin 16, t < x ∧ dataChanged s (some x) = true) ∨ dataChanged s none = true) with
    | true => simp [composeDemand, changedView, Composer.withTables]
    | false => simp [composeDemand, changedView, Composer.withTables]

/-! ## FAILED: the whole load (R174) -/

/-- What a FAILED load does once the seats are emptied, its end included. -/
theorem endLoad_failed_keeps (s : State) :
    Keeps [.loader, .notices, .noticeLost, .teams, .sorter, .comp, .questions, .cues, .ports, .config]
      (seatsEmptied (resultRecorded .failed s)) (endLoad .failed s) :=
  ((resetTables_keeps _).mono (by decide)).trans ((endLoad_keeps .failed s).mono (by decide))

/-- The view of the state after the end of a FAILED load is the one that the reset of its tables leaves. -/
theorem endLoad_failed_composed (s : State) : ClearedDataComposed s (endLoad .failed s) := by
  have kept := endLoad_keeps .failed s
  have comp : (endLoad .failed s).comp = (resetTables (resultRecorded .failed s)).comp := kept .comp (by decide)
  have view : composedView (endLoad .failed s) = composedView (resetTables (resultRecorded .failed s)) :=
    composedView_congr (kept .now (by decide)) (congrArg Composer.player comp) (kept .config (by decide))
      (kept .questions (by decide)) (kept .teams (by decide)) (kept .round (by decide)) (kept .resp (by decide))
      (kept .buzz (by decide)) (congrArg Sorter.published (kept .sorter (by decide)))
  refine clearedDataComposed_of ?_
  rw [comp, view]
  exact resetTables_comp s

theorem endLoad_failed_ranked (s : State) : ClearedTeamsRanked s (endLoad .failed s) := by
  have sorter : (endLoad .failed s).sorter = (resetTables (resultRecorded .failed s)).sorter :=
    endLoad_keeps .failed s .sorter (by decide)
  unfold ClearedTeamsRanked
  rw [sorter]
  exact resetTables_ranked

/-- R167, R174: the reset CONFIG lets the PRESET notice of a FAILED load be built. -/
theorem endLoad_failed_notice {s v : State} (notices : v.hub.notices = (seatsEmptied (resultRecorded .failed s)).hub.notices)
    (lost : v.hub.noticeLost = (seatsEmptied (resultRecorded .failed s)).hub.noticeLost) :
    (endLoad .failed s).hub.notices = (enqueueNotice ⟨.preset .failed s.loader.count, s.now⟩ v).hub.notices
      ∧ (endLoad .failed s).hub.noticeLost = (enqueueNotice ⟨.preset .failed s.loader.count, s.now⟩ v).hub.noticeLost := by
  have tables := resetTables_keeps (resultRecorded .failed s)
  have enabled : kindEnabled .preset (loadEnded .failed s) = true := by
    obtain ⟨-, -, -, -, -, config⟩ := resetTables_records (resultRecorded .failed s)
    unfold kindEnabled
    rw [show (loadEnded .failed s).hub.config = Config.reset from config]
    exact reset_enables .preset
  have now : (loadEnded .failed s).now = s.now := resetTables_now _
  have built : endLoad .failed s = enqueueNotice ⟨.preset .failed s.loader.count, s.now⟩ (loadEnded .failed s) := by
    rw [endLoad_notice, ← now]
    exact if_pos enabled
  rw [built]
  exact enqueueNotice_queue _ ((tables .notices (by decide)).trans notices.symm)
    ((tables .noticeLost (by decide)).trans lost.symm)

/-- With the loader back as it was, nothing is left of the loader's moves. -/
theorem Keeps.loader_back {bs : List Block} {s a : State} (h : Keeps (.loader :: bs) s a) :
    Keeps bs s (a.withLoader s.loader) := by
  intro b hb
  by_cases loader : b = .loader
  · subst loader; rfl
  · exact Block.same_trans (h b (by simp [loader, hb])) (withLoader_keeps a _ b (by simpa using loader))

/-- R28, R41, R174: the seats emptied, seen without the move of the loader: the SEAT events of the seats that lose a team. -/
theorem seatsEmptied_events {s : State} (idle : s.round.state = .idle) :
    ∃ v, HubEvents ((List.finRange 256).map fun k => .seat k ⟨false, false, false, decide (s.seats[k].team ≠ none)⟩)
        (s.withSeats v.seats) v
      ∧ v.hub = (seatsEmptied (resultRecorded .failed s)).hub ∧ v.seats = (seatsEmptied (resultRecorded .failed s)).seats
      ∧ Keeps [.seats, .seatList, .notices, .noticeLost] s v := by
  have kept : Keeps [.loader, .seats, .seatList, .notices, .noticeLost] s (seatsEmptied (resultRecorded .failed s)) :=
    ((resultRecorded_keeps .failed s).mono (by decide)).trans ((seatsEmptied_keeps _).mono (by decide))
  exact ⟨(seatsEmptied (resultRecorded .failed s)).withLoader s.loader,
    hubEvents_of (seatsEmptied_hub (s := resultRecorded .failed s) idle rfl rfl rfl), rfl, rfl, kept.loader_back⟩

/-- R174: every table that an image can write is at its hard-reset values in the fields that a WRITE carries. -/
theorem endLoad_failed_tables {s : State} (idle : s.round.state = .idle) :
    (∀ k : Fin 256, (endLoad .failed s).seats[k] = { s.seats[k] with team := none, pending := none })
      ∧ (∀ t : Fin 16, (endLoad .failed s).teams[t] = Team.reset)
      ∧ (∀ q : Fin 128, (endLoad .failed s).questions[q] = Question.reset)
      ∧ (∀ i : Fin 64, (endLoad .failed s).cues[i] = CueEntry.reset)
      ∧ (∀ i : Fin 16, (endLoad .failed s).comp.sequences[i] = Sequence.reset)
      ∧ (∀ i : Fin 64, (endLoad .failed s).comp.steps[i] = Step.reset)
      ∧ (∀ p : Fin 4, (endLoad .failed s).ports[p] = { s.ports[p] with cfg := PortCfg.reset })
      ∧ (endLoad .failed s).hub.config = Config.reset := by
  obtain ⟨questions, cues, sequences, steps, teams, config⟩ := resetTables_records (resultRecorded .failed s)
  have ended := endLoad_keeps .failed s
  have seats_eq : (endLoad .failed s).seats = (seatsEmptied (resultRecorded .failed s)).seats :=
    endLoad_failed_keeps s .seats (by decide)
  have teams_eq : (endLoad .failed s).teams = (resetTables (resultRecorded .failed s)).teams := ended .teams (by decide)
  have ports_eq : (endLoad .failed s).ports = (resetTables (resultRecorded .failed s)).ports := ended .ports (by decide)
  have comp_eq : (endLoad .failed s).comp = (resetTables (resultRecorded .failed s)).comp := ended .comp (by decide)
  have questions_eq := (show (endLoad .failed s).questions = _ from ended .questions (by decide)).trans questions
  have cues_eq := (show (endLoad .failed s).cues = _ from ended .cues (by decide)).trans cues
  refine ⟨fun k => ?_, fun t => ?_, fun q => ?_, fun i => ?_, fun i => ?_, fun i => ?_, fun p => ?_,
    (ended .config (by decide)).trans config⟩
  · rw [seats_eq]; exact seatsEmptied_seat (s := resultRecorded .failed s) idle k
  · rw [teams_eq]; exact teams t
  · rw [questions_eq]; exact replicate_get _ q
  · rw [cues_eq]; exact replicate_get _ i
  · rw [comp_eq, sequences]; exact replicate_get _ i
  · rw [comp_eq, steps]; exact replicate_get _ i
  · rw [ports_eq, resetTables_port]; rfl

/-! ## The obligation -/

theorem loadResult_empty {s : State} (running : s.loader.running = true) (mark : markerFound s.loader.image = false) :
    loadResult s = some .empty := by
  unfold loadResult
  rw [running, mark]
  rfl

theorem loadResult_loaded {s : State} (running : s.loader.running = true) (mark : markerFound s.loader.image = true)
    (sound : s.loader.fault = false) (walked : imageLength s.loader.image ≤ s.loader.position)
    (good : imageCheckGood s.loader.image = true) : loadResult s = some .loaded := by
  unfold loadResult
  rw [running, mark, sound, if_neg (Nat.not_lt.mpr walked), good]
  rfl

theorem loadResult_failed {s : State} (running : s.loader.running = true) (mark : markerFound s.loader.image = true)
    (bad : s.loader.fault = true ∨ (imageLength s.loader.image ≤ s.loader.position ∧ imageCheckGood s.loader.image = false)) :
    loadResult s = some .failed := by
  unfold loadResult
  rw [running, mark]
  cases fault : s.loader.fault with
  | true => rfl
  | false =>
    obtain ⟨walked, wrong⟩ := bad.resolve_left (by rw [fault]; decide)
    rw [if_neg (Nat.not_lt.mpr walked), wrong]
    rfl

/-- Settles O52, by the result that the load ends with. -/
theorem aLoadEndsEmptyFailedOrLoaded : Obligations.ALoadEndsEmptyFailedOrLoaded := by
  intro s running
  refine ⟨fun mark => ?_, fun mark sound walked good => ?_, fun mark idle bad => ?_⟩
  · refine ⟨_, execLoadEnd_ends (loadResult_empty running mark), endLoad_loader _ s, endLoad_raised rfl rfl, ?_⟩
    exact ((resultRecorded_keeps .empty s).mono (by decide)).trans (endLoad_keeps .empty s)
  · have started := autostart_keeps (resultRecorded .loaded s)
    have ports : (endLoad .loaded s).ports = (autostart (resultRecorded .loaded s)).ports :=
      endLoad_keeps .loaded s .ports (by decide)
    obtain ⟨hub, now⟩ := loadEnded_loaded s
    refine ⟨_, execLoadEnd_ends (loadResult_loaded running mark sound walked good), endLoad_loader _ s, fun p => ?_,
      endLoad_raised hub now, ?_⟩
    · rw [ports, autostart_port]
      rfl
    · exact ((resultRecorded_keeps .loaded s).mono (by decide)).trans
        ((started.mono (by decide)).trans ((endLoad_keeps .loaded s).mono (by decide)))
  · obtain ⟨v, events, hub, seats, before⟩ := seatsEmptied_events idle
    obtain ⟨seats_empty, teams, questions, cues, sequences, steps, ports, config⟩ := endLoad_failed_tables idle
    obtain ⟨notices, lost⟩ := endLoad_failed_notice (congrArg Hub.notices hub) (congrArg Hub.noticeLost hub)
    have kept := endLoad_failed_keeps s
    have seats_eq : (endLoad .failed s).seats = v.seats := (kept .seats (by decide)).trans seats.symm
    obtain ⟨list, timer⟩ := kept .seatList (by decide)
    refine ⟨_, execLoadEnd_ends (loadResult_failed running mark bad), endLoad_loader _ s, seats_empty, teams, questions, cues,
      sequences, steps, ports, config, ⟨v, ?_, ?_, ?_, seats_eq.symm, before, notices, lost⟩, endLoad_failed_ranked s,
      endLoad_failed_composed s, ?_⟩
    · rw [seats_eq]; exact events
    · rw [list, hub]
    · rw [timer, hub]
    · exact ((resultRecorded_keeps .failed s).mono (by decide)).trans
        (((seatsEmptied_keeps _).mono (by decide)).trans (kept.mono (by decide)))

end Sys2Proof.Machine
end

section
/-! SUPPORT. One step of the part by its queue of commands: the front command on the rest of the queue, and the idle step of an
empty queue (log entry 3). -/

namespace Sys2Proof.Machine

/-! ## The two cases of a step -/

theorem step_of_front {c : Instr} {rest : List Instr} {s : State} (queue : s.pending = c :: rest) :
    step s = exec c (s.withPending rest) := by
  simp only [step, queue]

/-- The idle step (log entry 3). -/
theorem step_of_empty {s : State} (queue : s.pending = []) : step s = .next s := by
  simp only [step, queue]

/-! ## The obligation -/

/-- Settles O1, by the two cases of the queue that a step looks at. -/
theorem stepRunsTheFrontCommand : Obligations.StepRunsTheFrontCommand :=
  ⟨fun _ _ _ => step_of_front, fun _ => step_of_empty⟩

end Sys2Proof.Machine
end
